-- ==== Sys2Proof/Word.lean ====
section
/-! DEFINITION. The words of the part: a byte of a frame, a record or a memory, and a 16-bit serial number. -/

namespace Sys2Proof

/-- One byte of a frame, a record, the map region or the service port. -/
abbrev Byte := BitVec 8

/-- A 16-bit serial number (00_scope, Serial-number comparison): firing-order epochs, shift numbers and
alarm occurrences, which wrap from 65,535 to 0. -/
abbrev Serial := BitVec 16

end Sys2Proof
end

