-- ==== Sys2Proof/Config.lean ====
section
/-! DEFINITION. The fixed sizes of the part, and the values the spec leaves open as constants with no body.

Each `opaque` constant is a FREE VALUE: nothing can be proved of what it answers. Each but
`unlinkedByte` is applied to the model's own counter `State.free`, which every use advances, so two uses are two independent
values. -/

namespace Sys2Proof.Config

/-- R14: the number drawn at random on entering BACKOFF, before it is taken modulo the contention window.
Every value is possible at every draw. Log entry 3. -/
opaque backoffDraw : Nat → Nat

/-- What a byte of non-volatile memory holds after an operation on it was cut by a reset or a loss of
supply, or ended with a failure of the engine's verify (R163, R169): the spec states no value. Log entry 4. -/
opaque tornByte : Nat → BitVec 8

/-- What a read of a CLOSED file shows at an offset past the end of a chain that the start scan has cut (R174, R182): the
spec states no value. Applied to the offset in the file. Log entry 51. -/
opaque unlinkedByte : Nat → BitVec 8

/-- Which of several expiries that come together is taken first (R26, R27, R31, R80: "either may be taken
first"). Log entry 5. -/
opaque tieChoice : Nat → Nat

/-- R9: the transmit queue holds at most 12 frames. -/
def queueSize : Nat := 12

/-- R21: the peer channel table holds at most 48 entries. -/
def pictureSize : Nat := 48

/-- R130: the alarm table holds at most 48 entries. -/
def tableSize : Nat := 48

/-- R133: the log set holds at most 16 keys. -/
def logSetSize : Nat := 16

/-- R137: the retry list holds at most 8 notices. -/
def retrySize : Nat := 8

/-- R93: the item queue holds at most 16 items. -/
def itemQueueSize : Nat := 16

/-- R56: the dropped-item history holds at most 32 entries. -/
def historySize : Nat := 32

/-- R123: the rising list holds at most 32 entries. -/
def risingSize : Nat := 32

/-- R168: the append queue holds at most 16 records. -/
def appendSize : Nat := 16

/-- R172: one erase is suspended at most 8 times. -/
def maxSuspensions : Nat := 8

/-- Conventions, Units and ranges: floor sums saturate at 1,048,575 kW. -/
def sumCap : Nat := 1048575

/-- Conventions, Units and ranges: a heat rate is 0 to 400,000 kW. -/
def heatCap : Nat := 400000

/-- R151, R107: accumulators and item counters are counts of 0 to 4,294,967,295. -/
def count32 : Nat := 4294967295

/-- R163: a granule holds 16 pages of 256 bytes. -/
def granuleBytes : Nat := 4096

/-- R176: the configuration area holds 1,024 bytes. -/
def configBytes : Nat := 1024

/-- The most internal alarm requests one command's settling takes (model's own bound; log entry 9). -/
def settleFuel : Nat := 1024

end Sys2Proof.Config
end

