-- ==== Sys2Proof/Syntax.lean ====
section
/-! DEFINITION. The commands of the station: one constructor of `Instr` for each row of spec/opcode_table.json,
with the operands that the rule named by the row takes. -/

namespace Sys2Proof

/-- The four position confirmations of an item gate (R98). -/
inductive GateSwitch where
  | upperOpen | upperClosed | lowerOpen | lowerClosed
deriving DecidableEq, Repr

/-- The discrete input lines that R68 gives an initial level. The trip line is not among them (R144). -/
inductive InputLine where
  /-- The run permit of a channel slot. -/
  | runPermit (slot : Fin 4)
  /-- One position confirmation of a DI slot's gate. -/
  | gate (slot : Fin 4) (switch : GateSwitch)
  /-- The jam-clear line of a DI slot. -/
  | jamClear (slot : Fin 4)
  /-- The desk's take line. -/
  | take
  /-- The panel's acknowledge line. -/
  | acknowledge
  /-- The panel's silence line. -/
  | silence
deriving DecidableEq, Repr

/-- The commands and events of the part (spec/opcode_table.json), one constructor per row. -/
inductive Instr where
  /-- R176: the supply rises; the COMMISSION strap's level is sampled. -/
  | powerOnStart (strap : Bool)
  /-- R176: the RESET input is asserted. -/
  | resetAsserted
  /-- R176: the RESET input is released; the COMMISSION strap's level is sampled. -/
  | lineRestart (strap : Bool)
  /-- R37: the listen timer expires. -/
  | listenTimerExpiry
  /-- R3, R4: a burst of another station, as the bytes heard from its first. -/
  | frameReceived (burst : List Byte)
  /-- R3: a burst cut short by a quiet gap or a coding violation, as the bytes heard up to then. -/
  | frameCutShort (burst : List Byte)
  /-- R6: the duplicate timer expires. -/
  | duplicateTimerExpiry
  /-- R18: the silence timer expires. -/
  | silenceTimerExpiry
  /-- R1, R14: 20 bit times have passed with no transition; the medium is idle. -/
  | quietGap
  /-- R14: one backoff slot passes with the medium idle. -/
  | backoffSlot
  /-- R14: the medium turns busy. -/
  | defer
  /-- R15: the echo differs from a bit sent. -/
  | collision
  /-- R16: the last bit of a frame is sent with no difference between echo and bit. -/
  | sentCleanly
  /-- R26: stale_time has passed for the peer channel entry of this key. -/
  | staleTimeExpiry (station channel : Nat)
  /-- R27: lost_time has passed for the peer channel entry of this key. -/
  | lostTimeExpiry (station channel : Nat)
  /-- R28: the loss hold timer expires. -/
  | lossHoldExpiry
  /-- R31: lost_time has passed since this station was last heard. -/
  | stationAbsent (station : Nat)
  /-- R34: a taken rising edge of the take line. -/
  | take
  /-- R35: the refresh timer expires. -/
  | refreshTimerExpiry
  /-- R39: the update timer expires. -/
  | controlUpdate
  /-- R80: the start timer of a CF slot expires. -/
  | startTimerExpiry (slot : Fin 4)
  /-- R63: a word of the sample stream: input number, raw value, and whether its parity holds. -/
  | sampleWord (input : Fin 16) (raw : BitVec 16) (parityOk : Bool)
  /-- R65: the fresh timer of an input expires. -/
  | freshTimeExpiry (input : Fin 16)
  /-- R65: the hold timer of an input expires. -/
  | holdTimeExpiry (input : Fin 16)
  /-- R68, R83: a taken edge of a slot's run permit, with the new level. -/
  | runPermitEdge (slot : Fin 4) (level : Bool)
  /-- R98: a taken edge of a flap position confirmation, with the new level. -/
  | gateConfirmation (slot : Fin 4) (switch : GateSwitch) (level : Bool)
  /-- R100: the phase timer of a DI slot expires. -/
  | phaseTimerExpiry (slot : Fin 4)
  /-- R101: a taken rising edge of a DI slot's jam-clear line. -/
  | jamClear (slot : Fin 4)
  /-- R94: the divert timer of a DI slot expires. -/
  | divertTimerExpiry (slot : Fin 4)
  /-- R72: the drive word on the stream completes. -/
  | driveWord
  /-- R72: the drive refresh timer expires. -/
  | driveRefreshTimerExpiry
  /-- R144: the trip line has held this level without a break for 2 ms. -/
  | tripLineObserved (asserted : Bool)
  /-- R135: a taken rising edge of the panel's acknowledge line. -/
  | acknowledge
  /-- R145: a taken rising edge of the panel's silence line. -/
  | silence
  /-- R153: the shift timer expires. -/
  | shiftTimerExpiry
  /-- R157: the collation timer expires. -/
  | collationTimerExpiry
  /-- R169: a program of the array completes, with the engine's verify. -/
  | programCompletion (pass : Bool)
  /-- R171: an erase of a granule completes, with the engine's verify. -/
  | eraseCompletion (pass : Bool)
  /-- R183: the STATUS command. -/
  | status
  /-- R183: the IDENT command. -/
  | ident
  /-- R183: the DIR ENTRY command with its index byte. -/
  | dirEntry (index : Byte)
  /-- R183: the PICTURE ENTRY command with its index byte. -/
  | pictureEntry (index : Byte)
  /-- R183: the ALARM ENTRY command with its index byte. -/
  | alarmEntry (index : Byte)
  /-- R183: the CHANNEL VIEW command with its slot byte. -/
  | channelView (slot : Byte)
  /-- R182: the WINDOW command: entry byte, mode byte, 3-byte offset. -/
  | window (entry mode : Byte) (offset : BitVec 24)
  /-- R182: the STREAM command, with how many response bytes the master clocks. -/
  | stream (clocked : Nat)
  /-- R182: an array read for the prefetch buffer ends. -/
  | prefetchReadDone
  /-- R181: the WRITE ENABLE command. -/
  | writeEnable
  /-- R181: the CONFIG WRITE command: 2-byte offset, count byte, data bytes. -/
  | configWrite (offset : BitVec 16) (count : Byte) (data : List Byte)
  /-- R181: the CONFIG ERASE command. -/
  | configErase
  /-- R181: the engine completes a configuration program or erase, with its verify. -/
  | configOperationCompletion (pass : Bool)
  /-- R180: the OTP WRITE command: block byte, lock-request byte, 32 data bytes. -/
  | otpWrite (block lockRequest : Byte) (data : List Byte)
  /-- R180: the FREEZE command. -/
  | freeze
  /-- R180: the engine completes an OTP program, with its verify. -/
  | otpProgramCompletion (pass : Bool)
  /-- R172: the FLUSH command. -/
  | flush
  /-- R181: a write command whose transaction ends early or on a partial byte. -/
  | commandDiscarded
  /-- R181: a command byte that names no command. -/
  | unknownCommand (byte : Byte)
  /-- R163, R20: the supply fails; `mapWrites` is how many of the latest event's map writes had completed
  (none: the failure falls after that event). -/
  | supplyFailure (mapWrites : Option Nat)
  /-- R68: the initial level of a discrete input line is delivered to its owner. -/
  | initialLevel (line : InputLine) (level : Bool)
deriving DecidableEq, Repr

end Sys2Proof
end

