-- ==== Sys2Proof/Machine/State.lean ====
section
/-! DEFINITION. Everything the spec gives the station, as plain data, block by block in the order of the chapters, and
the part as it stands before its first start. -/

namespace Sys2Proof.Machine

/-- Why a step could stop. The spec gives no condition that stops the part, so there is none (log entry 2). -/
inductive Fault where
deriving DecidableEq, Repr

/-- Why a command could have no meaning. -/
inductive Refusal where
  /-- Raised by an arm of `exec` for a command that is not modelled yet; no arm of this model raises it. Safe. -/
  | notModelled (mnemonic : String)
deriving DecidableEq, Repr

/-- R163, R176: a non-volatile memory as (address, byte) pairs: addresses strictly rising, no byte listed that
equals the erased value 0xFF, which every unlisted address reads as. -/
abbrev Memory := List Host.Cell

/-! ## Alarm names (08, codes table) -/

/-- The 21 alarm codes in the order of the code table. -/
inductive AlarmCode where
  | feedFailedToStart | feedDeviation | feedStarved | gateJam | inputStale | fanDeviation | clinkerHot
  | bedPressureHigh | flush | peerLost | pictureFull | overfire | underfire | noFiringOrder | linkFault
  | duplicateStation | floorTrip | storeFull | journalGap | alarmFlood | configClamped
deriving DecidableEq, Repr

/-- R131, R132: a raise or clear request that a block has sent the alarm unit and that is not taken yet. -/
inductive AlarmRequest where
  | raise (code : AlarmCode) (channel : Nat)
  | clear (code : AlarmCode) (channel : Nat)
deriving DecidableEq, Repr

/-! ## Configuration (R178, Formats) -/

/-- R63: the role of an input. -/
inductive Role where
  | unmapped | mass | itemWeight | airFlow | airTemperature | clinkerOutlet | bedPressure | ambient | firing
deriving DecidableEq, Repr

/-- R63 to R65: one input record as taken; times in ms. -/
structure InputCfg where
  lo : Int := 0
  hi : Int := 0
  freshTime : Nat := 500
  holdTime : Nat := 3000
  role : Role := .unmapped
  /-- The consumer: a slot number, or 255 for the station. -/
  consumer : Nat := 255
deriving DecidableEq, Repr

/-- R129: one row of the response table. -/
structure Response where
  cls : Nat := 3
  propagate : Bool := false
  floor : Bool := false
deriving DecidableEq, Repr

/-- R177, R178: the accepted configuration image as taken, less the slot blocks (which stand in the slots). -/
structure Cfg where
  station : Nat
  desk : Bool
  /-- R39: period_ms, prescale × count, at least 50. -/
  period : Nat
  /-- R40: the publish divisor. -/
  divisor : Nat
  /-- R26: stale_time, ms. -/
  staleTime : Nat
  /-- R27: lost_time, ms. -/
  lostTime : Nat
  /-- R28: loss_hold, s. -/
  lossHold : Nat
  /-- R36: target_slew, kW/s. -/
  targetSlew : Nat
  /-- R35: firing_refresh, s. -/
  firingRefresh : Nat
  /-- R43: cap_pct. -/
  capPct : Nat
  /-- R59: fire_tol, per cent. -/
  fireTol : Nat
  /-- R60: fire_dev_time, s. -/
  fireDevTime : Nat
  /-- R150: shift_len, h. -/
  shiftLen : Nat
  /-- R155: collate_s. -/
  collateS : Nat
  /-- R171: retain. -/
  retain : Nat
  /-- R111: shc, kJ/kg. -/
  shc : Nat
  /-- R112: decay_pm. -/
  decayPm : Nat
  /-- R112: cr_start, ckg/s. -/
  crStart : Nat
  /-- R51: the fuel table, kJ/kg. -/
  fuel : Vector Nat 8
  inputs : Vector InputCfg 16
  /-- R129: the response table, one row per code in the order of the codes. -/
  responses : Vector Response 21
deriving DecidableEq, Repr

/-! ## The floor link (01) -/

/-- The seven notices with their fields (01, The seven notices; Formats). -/
inductive Notice where
  /-- Kind 1. -/
  | heat (channel rank fuel state actual commanded : Nat) (held starved : Bool)
  /-- Kind 2; `role` is 0 for a fan and 1 for a grate. -/
  | air (channel role : Nat) (recuperating flush : Bool) (state recovered flow clinker : Nat)
  /-- Kind 3. -/
  | order (epoch : Serial) (target : Nat)
  /-- Kind 4; `event` is 1 for a raise and 2 for a clear. -/
  | alarm (code channel cls event : Nat) (occurrence : Serial)
  /-- Kind 5. -/
  | ack (origin code channel : Nat) (occurrence : Serial)
  /-- Kind 6. -/
  | mark (shift : Serial)
  /-- Kind 7, as its payload bytes, which a receiver copies unchanged (R185). -/
  | summary (payload : List Byte)
deriving DecidableEq, Repr

/-- R9: one frame of the transmit queue. -/
structure QFrame where
  notice : Notice
  entry : Nat
  attempts : Nat := 0
  committed : Bool := false
deriving DecidableEq, Repr

/-- R14: the medium-access state. -/
inductive Access where
  | idle | awaitGap | backoff | sending
deriving DecidableEq, Repr

/-- R19: the link counters, in the order of the Counters table. -/
structure LinkCounters where
  accepted : Nat := 0
  badCheck : Nat := 0
  badLength : Nat := 0
  badOrigin : Nat := 0
  unknownKind : Nat := 0
  lengthMismatch : Nat := 0
  ownOrigin : Nat := 0
  sent : Nat := 0
  collisions : Nat := 0
  exhaustionDiscards : Nat := 0
  coalesced : Nat := 0
  evicted : Nat := 0
  droppedA : Nat := 0
  droppedB : Nat := 0
  droppedC : Nat := 0
  droppedD : Nat := 0
deriving DecidableEq, Repr

/-- The state the link interface owns (01, R20). -/
structure Link where
  /-- R9: in order of class and then of entry number. -/
  queue : List QFrame := []
  /-- R9: the running count that entry numbers are taken from. -/
  entryCount : Nat := 0
  access : Access := .idle
  window : Nat := 4
  backoff : Nat := 0
  /-- R15: the entry number of the frame being transmitted. -/
  sendingEntry : Option Nat := none
  /-- R1: whether the medium is idle. -/
  mediumIdle : Bool := false
  /-- R5: the burst on the medium is this station's own echo, so the receive side takes none of it. -/
  deaf : Bool := false
  /-- R18: the consecutive-discard count, 0 to 4. -/
  discardsInRow : Nat := 0
  /-- R18: when the silence timer expires, while it runs. -/
  silenceDue : Option Nat := none
  /-- R6: when the duplicate timer expires, while it runs. -/
  duplicateDue : Option Nat := none
  exhaustionCause : Bool := false
  silenceCause : Bool := false
  counters : LinkCounters := {}
deriving DecidableEq, Repr

/-! ## The floor picture (02) -/

/-- R22: the age state of an entry; LOST is a removal. -/
inductive Age where
  | fresh | stale
deriving DecidableEq, Repr

/-- R22: what an entry holds besides its key, its channel state, its age and its time. -/
inductive PeerBody where
  | feed (actual commanded fuel rank : Nat) (held starved : Bool)
  | air (role : Nat) (recuperating : Bool) (recovered flow clinker : Nat) (flush : Bool)
deriving DecidableEq, Repr

/-- R21, R22: one entry of the peer channel table. -/
structure PeerEntry where
  station : Nat
  channel : Nat
  /-- The channel state byte as received (R185). -/
  state : Nat
  age : Age
  /-- The time of the last notice used, ms. -/
  last : Nat
  body : PeerBody
deriving DecidableEq, Repr

/-- R30: one entry of the station list. -/
structure PeerStation where
  station : Nat
  /-- The time a frame from it was last accepted, ms. -/
  last : Nat
  present : Bool
deriving DecidableEq, Repr

/-- R32: the adopted firing order. -/
structure FiringOrder where
  epoch : Serial
  target : Nat
  origin : Nat
deriving DecidableEq, Repr

/-- R38: the picture counters. -/
structure PictureCounters where
  refusedNotices : Nat := 0
  fullRefusals : Nat := 0
  kindChanges : Nat := 0
  entriesLost : Nat := 0
  returns : Nat := 0
  absences : Nat := 0
  ordersAdopted : Nat := 0
  ordersConfirmed : Nat := 0
  ordersRefused : Nat := 0
  takesRefused : Nat := 0
deriving DecidableEq, Repr

/-- The state the floor picture owns (02, R38). -/
structure Picture where
  /-- R21: feed entries by merit key, then air entries by key. -/
  entries : List PeerEntry := []
  /-- R30: by station number. -/
  stations : List PeerStation := []
  order : Option FiringOrder := none
  /-- R36: the effective target T, kW. -/
  target : Nat := 0
  lossHoldDue : Option Nat := none
  refreshDue : Option Nat := none
  listenDue : Option Nat := none
  counters : PictureCounters := {}
deriving DecidableEq, Repr

/-! ## Heat allocation (03) -/

/-- R47: the causes of a hold. -/
structure HoldCauses where
  picture : Bool := false
  class2 : Bool := false
  flush : Bool := false
  deviation : Bool := false
deriving DecidableEq, Repr

/-- R41: the allocation record of a feed slot. -/
structure AllocRec where
  credit : Nat := 0
  effective : Nat := 0
  required : Nat := 0
  fill : Nat := 0
  remainder : Int := 0
  share : Nat := 0
  heat : Nat := 0
  held : Bool := false
  causes : HoldCauses := {}
  /-- The mass target m of a CF slot. -/
  mass : Nat := 0
deriving DecidableEq, Repr

/-- The allocator's state that belongs to no slot (03, R62). -/
structure Heat where
  /-- R39: when the update timer expires, while it runs. -/
  updateDue : Option Nat := none
  /-- R58, R61: whether the station supervised at the last update. -/
  supervising : Bool := false
  /-- R60: the run of OVERFIRE, as the time of its first update. -/
  overRun : Option Nat := none
  underRun : Option Nat := none
deriving DecidableEq, Repr

/-! ## Field inputs and drive outputs (04) -/

/-- R65: the freshness state of an input. -/
inductive Freshness where
  | fresh | held | failed
deriving DecidableEq, Repr

/-- R63 to R67: what an input slot holds. -/
structure Input where
  value : Int := 0
  freshness : Freshness := .fresh
  freshDue : Option Nat := none
  holdDue : Option Nat := none
  neverSampled : Bool := false
  samples : Nat := 0
  holds : Nat := 0
deriving DecidableEq, Repr

/-- The measurement stage (04). -/
structure Fields where
  inputs : Vector Input 16 := Vector.replicate 16 {}
  sampleErrors : Nat := 0
  unmappedSamples : Nat := 0
  /-- R68: the taken levels of the four run permit lines. -/
  permits : Vector Bool 4 := Vector.replicate 4 false
deriving DecidableEq, Repr

/-- R70: the kind of an output. -/
inductive OutputKind where
  | feed | cooler | unused
deriving DecidableEq, Repr

/-- R70: one output latch record. -/
structure Latch where
  count : Nat := 0
  kind : OutputKind := .unused
  owner : Option (Fin 4) := none
  gain : Int := 0
  offset : Int := 0
  fallback : Nat := 0
  feedMark : Bool := false
  carried : Bool := false
  pending : Bool := false
deriving DecidableEq, Repr

/-- The output stage (04). -/
structure Output where
  latches : Vector Latch 8 := Vector.replicate 8 {}
  /-- R72: whether the drive stream runs. -/
  streaming : Bool := false
  /-- R72: the word on the drive stream: output number and count. -/
  word : Option (Fin 8 × Nat) := none
  refreshDue : Option Nat := none
  calibrationUnusable : Nat := 0
  feedMarkMismatches : Nat := 0
deriving DecidableEq, Repr

/-! ## Channel slots (05, 06, 07) -/

/-- 05: the parameters of a CF slot as taken. -/
structure CfParams where
  rank : Nat
  fuel : Fin 8
  minHeat : Nat
  maxHeat : Nat
  rampUp : Nat
  rampDown : Nat
  massScale : Nat
  input : Fin 16
  output : Fin 8
  startTime : Nat
  devPct : Nat
  devAbs : Nat
  devTime : Nat
deriving DecidableEq, Repr

/-- 05, States. -/
inductive CfState where
  | off | starting | dosing | hold | tripped | fault
deriving DecidableEq, Repr

/-- A CF slot (R91). Runs are the time, in ms, of their first update. -/
structure CfSlot where
  par : CfParams
  state : CfState := .off
  alloc : AllocRec := {}
  startDue : Option Nat := none
  /-- R85: the deviation state: DEVIATED. -/
  deviated : Bool := false
  raiseRun : Option Nat := none
  clearRun : Option Nat := none
  publish : Nat := 0
  massCarry : Nat := 0
  heatCarry : Nat := 0
  timeCarry : Nat := 0
deriving DecidableEq, Repr

/-- 06: the parameters of a DI slot as taken. -/
structure DiParams where
  rank : Nat
  fuel : Fin 8
  minHeat : Nat
  maxHeat : Nat
  rampUp : Nat
  rampDown : Nat
  input : Fin 16
  minItem : Nat
  maxItem : Nat
  lowWater : Nat
  highWater : Nat
  windowS : Nat
  phaseTimeout : Nat
  divertMs : Nat
  /-- R92: max_item_energy, kJ. -/
  maxItemEnergy : Nat
deriving DecidableEq, Repr

/-- R105: a DI slot has no STARTING. -/
inductive DiState where
  | off | dosing | hold | tripped | fault
deriving DecidableEq, Repr

/-- R98. -/
inductive GateState where
  | ready | upperOpening | upperClosing | lowerOpening | lowerClosing | jammed
deriving DecidableEq, Repr

/-- R93: an item. -/
structure Item where
  weight : Nat
  fuel : Fin 8
  energy : Nat
  arrival : Nat
deriving DecidableEq, Repr

/-- R98: the item gate: its state, its two flap commands, its confirmations, its item and its timer. -/
structure Gate where
  state : GateState := .lowerClosing
  upperOpenCmd : Bool := false
  lowerOpenCmd : Bool := false
  upperOpen : Bool := false
  upperClosed : Bool := false
  lowerOpen : Bool := false
  lowerClosed : Bool := false
  /-- The gate item; in READY it is the chamber item. -/
  item : Option Item := none
  interrupted : Bool := false
  phaseDue : Option Nat := none
deriving DecidableEq, Repr

/-- R107 and R100: the item counters and the jams counter. -/
structure ItemCounters where
  weighed : Nat := 0
  fed : Nat := 0
  diverted : Nat := 0
  lost : Nat := 0
  divertedWeight : Nat := 0
  divertedFull : Nat := 0
  jams : Nat := 0
deriving DecidableEq, Repr

/-- A DI slot (R110). -/
structure DiSlot where
  par : DiParams
  state : DiState := .off
  alloc : AllocRec := {}
  queue : List Item := []
  gate : Gate := {}
  /-- R96: the heat debt D, kJ. -/
  debt : Nat := 0
  /-- R94: the divert line is active while this runs. -/
  divertDue : Option Nat := none
  call : Bool := false
  counters : ItemCounters := {}
  /-- R56: (drop time in ms, energy in kJ), oldest first. -/
  history : List (Nat × Nat) := []
  publish : Nat := 0
  timeCarry : Nat := 0
deriving DecidableEq, Repr

/-- 07: the parameters of a CA slot as taken. -/
structure CaParams where
  specAir : Nat
  airScale : Nat
  minAir : Nat
  maxAir : Nat
  hotLimit : Nat
  boostStep : Nat
  boostMax : Nat
  airTol : Nat
  devTime : Nat
  recuperating : Bool
  flowInput : Fin 16
  tempInput : Option (Fin 16)
  outletInput : Option (Fin 16)
  output : Fin 8
deriving DecidableEq, Repr

/-- 07, States of a fan slot. -/
inductive CaState where
  | off | running | forced | fault
deriving DecidableEq, Repr

/-- A CA slot (R128). R128 gives no start value for the target air and the boost, which CHANNEL VIEW shows before the
first control update: the model starts both at 0 (DESIGN CHOICE, log entry 35). -/
structure CaSlot where
  par : CaParams
  state : CaState := .off
  /-- R114: the target air as formed at the latest update. -/
  target : Nat := 0
  /-- R114: the boost pct in force. -/
  boost : Nat := 0
  deviated : Bool := false
  raiseRun : Option Nat := none
  clearRun : Option Nat := none
  responseRun : Option Nat := none
  hotRaiseRun : Option Nat := none
  hotClearRun : Option Nat := none
  publish : Nat := 0
  airCarry : Nat := 0
  heatCarry : Nat := 0
  timeCarry : Nat := 0
deriving DecidableEq, Repr

/-- 07: the parameters of the CG slot as taken. -/
structure CgParams where
  setpoint : Nat
  band : Nat
  step : Nat
  speedScale : Nat
  minSpeed : Nat
  maxSpeed : Nat
  startSpeed : Nat
  pHigh : Nat
  flushRise : Nat
  flushWindow : Nat
  flushEnd : Nat
  input : Fin 16
  output : Fin 8
deriving DecidableEq, Repr

/-- R120. -/
inductive CgState where
  | stopped | running | flush | fault
deriving DecidableEq, Repr

/-- The CG slot (R128). -/
structure CgSlot where
  par : CgParams
  state : CgState := .stopped
  /-- The stroke rate r. -/
  rate : Nat := 0
  /-- R123: (update's time in ms, pressure), head first. -/
  rising : List (Nat × Int) := []
  calmRun : Option Nat := none
  raiseRun : Option Nat := none
  clearRun : Option Nat := none
  publish : Nat := 0
  strokeCarry : Nat := 0
  timeCarry : Nat := 0
deriving DecidableEq, Repr

/-- One of the four channel slots. -/
inductive SlotUnit where
  | unused
  | cf (c : CfSlot)
  | di (d : DiSlot)
  | ca (a : CaSlot)
  | cg (g : CgSlot)
deriving DecidableEq, Repr

/-- The channel units and the cooler's station-level estimate. The marks are the model's own: they hold, inside a
control update or the entry to RUN, which slots have offered a notice (R88) and which left OFF or STOPPED at it; they
are clear between commands. R111 gives no raw rate for the time between acceptance and the first control update: the model
starts it at 0 (DESIGN CHOICE, log entry 35). -/
structure Channels where
  slots : Vector SlotUnit 4 := Vector.replicate 4 .unused
  /-- R112: the clinker rate estimate. -/
  estimate : Nat := 0
  /-- R111: the raw rate at the latest update. -/
  rawRate : Nat := 0
  updating : Bool := false
  noticed : Vector Bool 4 := Vector.replicate 4 false
  leftOff : Vector Bool 4 := Vector.replicate 4 false
  /-- R110: the in-hand count each slot keeps through RESET; none is "unknown". -/
  inHand : Vector (Option Nat) 4 := Vector.replicate 4 none
deriving DecidableEq, Repr

/-! ## Alarms and the trip line (08) -/

/-- R130. -/
inductive AlarmState where
  | new | standing | returned
deriving DecidableEq, Repr

/-- R130: one entry of the alarm table. -/
structure AlarmEntry where
  origin : Nat
  code : AlarmCode
  channel : Nat
  cls : Nat
  occurrence : Serial
  state : AlarmState := .new
  /-- Station time, ms. -/
  raised : Nat
  latched : Bool := false
  unpublished : Bool := false
  ackUnpublished : Bool := false
  orphaned : Bool := false
deriving DecidableEq, Repr

/-- R148. -/
structure AlarmCounters where
  duplicates : Nat := 0
  staleNotices : Nat := 0
  staleAcks : Nat := 0
  superseded : Nat := 0
  retryLost : Nat := 0
  reoffers : Nat := 0
  evictions : Nat := 0
  lostRaises : Nat := 0
deriving DecidableEq, Repr

/-- The state the alarm unit owns (08, R149). Horn, lamps and pull are functions of it. -/
structure Alarms where
  /-- R130: in order of class and raised time. -/
  table : List AlarmEntry := []
  /-- R140. -/
  flood : Option AlarmEntry := none
  lostCount : Nat := 0
  /-- R133: code, channel and the occurrence of the raise (log entry 11), in the order of their raises. -/
  logSet : List (AlarmCode × Nat × Serial) := []
  /-- R137: alarm and acknowledgement notices, oldest first. -/
  retry : List Notice := []
  occurrence : Serial := 0
  /-- R144: the trip line is observed asserted. -/
  observed : Bool := false
  /-- R145. -/
  silenced : Bool := false
  /-- R147, ms. -/
  class1Carry : Nat := 0
  counters : AlarmCounters := {}
deriving DecidableEq, Repr

/-! ## Shift accounting (09) -/

/-- R151, R152: the accumulators and remainders of one slot; each kind uses its own. -/
structure SlotAcc where
  mass : Nat := 0
  heat : Nat := 0
  running : Nat := 0
  tripped : Nat := 0
  deviations : Nat := 0
  divertedWeight : Nat := 0
  divertedFull : Nat := 0
  lostInGate : Nat := 0
  jams : Nat := 0
  air : Nat := 0
  recovered : Nat := 0
  forced : Nat := 0
  strokes : Nat := 0
  flushes : Nat := 0
  flushSeconds : Nat := 0
  gramRem : Nat := 0
  kjRem : Nat := 0
deriving DecidableEq, Repr

/-- R162. -/
structure ShiftCounters where
  marksIgnored : Nat := 0
  collated : Nat := 0
  duplicateSummaries : Nat := 0
  lateSummaries : Nat := 0
deriving DecidableEq, Repr

/-- The state the shift accountant owns (09, R162). -/
structure Accountant where
  shift : Option Serial := none
  shiftDue : Option Nat := none
  acc : Vector SlotAcc 4 := Vector.replicate 4 {}
  clinker : Nat := 0
  raised : Vector Nat 4 := Vector.replicate 4 0
  class1Seconds : Nat := 0
  clinkerRem : Nat := 0
  saturated : Bool := false
  collating : Option Serial := none
  collationDue : Option Nat := none
  /-- The collated set, in the order the summaries were collated. -/
  collated : List Nat := []
  /-- The directory entries of the current shift's file and of the file in collation. -/
  file : Option (Fin 32) := none
  collFile : Option (Fin 32) := none
  /-- R161: the RESTART record of this start is still to be offered. -/
  restartDue : Bool := false
  /-- The kind of the last start: a line restart. -/
  lineStart : Bool := false
  counters : ShiftCounters := {}
deriving DecidableEq, Repr

/-! ## The report store (10) -/

/-- R164: the state of a granule; `last p` has p from 1 to 16. -/
inductive Granule where
  | free | next (g : Fin 128) | last (p : Nat) | erasing | bad
deriving DecidableEq, Repr

/-- R165. -/
inductive FileState where
  | empty | opened | collating | closed
deriving DecidableEq, Repr

/-- R165: a directory entry. -/
structure DirEntry where
  state : FileState := .empty
  shift : Serial := 0
  first : Option (Fin 128) := none
  last : Option (Fin 128) := none
  /-- The write position: page index and byte. -/
  page : Nat := 0
  byte : Nat := 0
  records : Nat := 0
  /-- 0 is absent. -/
  closeSeq : Nat := 0
  openedTime : Nat := 0
  closedTime : Nat := 0
  restartMark : Bool := false
  gap : Bool := false
  cut : Bool := false
  saturated : Bool := false
  late : Nat := 0
deriving DecidableEq, Repr

/-- R167: the file steps that can stand pending. -/
inductive FileStep where
  | opened (shift : Serial)
  | collating
  | closed (cut : Bool)
deriving DecidableEq, Repr

/-- R165: what the store keeps for an entry in volatile memory. A pending step carries the number of its request,
before which a record bound to the file holds it back. -/
structure FileAux where
  reserved : Bool := false
  steps : List (FileStep × Nat) := []
  /-- R165: the time base, in station seconds (negative after a resumption); 0 for a file that a start does not resume (DESIGN
  CHOICE, log entry 49). -/
  base : Int := 0
  /-- R168: the journal gap flag is due when the entry is written. -/
  gapDue : Bool := false
deriving DecidableEq, Repr

/-- R168: what a queued record is bound to; `unopened` is a file that could not be opened (R173). -/
inductive Binding where
  | file (e : Fin 32) | next | unopened
deriving DecidableEq, Repr

/-- R166. -/
inductive RecordType where
  | restart | order | journal | totals | summary | close
deriving DecidableEq, Repr

/-- R166, R168: a record of the append queue: the body after its time, and the second it was offered at. -/
structure QRecord where
  /-- The number of the offer, from the running number of `Store.seq`. -/
  seq : Nat
  type : RecordType
  rest : List Byte
  offered : Nat
  bound : Binding
  priority : Bool := false
  /-- A TOTALS or CLOSE record that carries the saturation mark. -/
  saturated : Bool := false
  /-- R172: a FLUSH waits for this record. -/
  flushed : Bool := false
  /-- R169: how often its program has failed. -/
  fails : Nat := 0
deriving DecidableEq, Repr

/-- R169: the PROGRAM in flight: its records, the position it starts at and the array address of that position. -/
structure ProgramOp where
  file : Fin 32
  records : List QRecord
  page : Nat
  byte : Nat
  address : Nat
deriving DecidableEq, Repr

/-- R171, R172: the ERASE in flight. -/
structure EraseOp where
  granule : Fin 128
  suspended : Bool := false
  count : Nat := 0
deriving DecidableEq, Repr

/-- R180, R181: an operation the engine carries out for the service port. -/
inductive AreaOp where
  | write (offset : Nat) (data : List Byte)
  | erase
  | otp (block : Fin 16) (data : List Byte) (lock : Bool)
  | freeze
deriving DecidableEq, Repr

/-- R175. -/
structure StoreCounters where
  queueDrops : Nat := 0
  refusedAppends : Nat := 0
  programFailures : Nat := 0
  erases : Nat := 0
  eraseFailures : Nat := 0
  links : Nat := 0
  reclaims : Nat := 0
  suspensions : Nat := 0
  orphans : Nat := 0
  chainsRepaired : Nat := 0
deriving DecidableEq, Repr

/-- The map region (R163 to R165): the allocation table and the directory, non-volatile. -/
structure MapRegion where
  alloc : Vector Granule 128 := Vector.replicate 128 .free
  dir : Vector DirEntry 32 := Vector.replicate 32 {}
deriving DecidableEq, Repr

/-- The volatile state of the report store (R175). -/
structure Store where
  aux : Vector FileAux 32 := Vector.replicate 32 {}
  queue : List QRecord := []
  /-- R167, R168: the running number that offers and file requests are numbered by. -/
  seq : Nat := 0
  current : Option (Fin 32) := none
  /-- R168: a record bound to the next file was dropped. -/
  nextGapDue : Bool := false
  program : Option ProgramOp := none
  erase : Option EraseOp := none
  area : Option AreaOp := none
  counters : StoreCounters := {}
deriving DecidableEq, Repr

/-! ## Start and the service port (11) -/

/-- R176. -/
inductive StationState where
  | start | listen | run | commission | startHalt
deriving DecidableEq, Repr

/-- R179. -/
inductive Protection where
  | frozen | commission | locked
deriving DecidableEq, Repr

/-- R181, Formats: the last command result. -/
inductive Result where
  | none | done | inProgress | locked | busy | range | invalid | verifyFailed
deriving DecidableEq, Repr

/-- R182: the read window; `dead` is a file reclaimed while the window is open (R171). -/
structure ReadWindow where
  entry : Fin 32
  fixed : Bool
  offset : Nat
  dead : Bool := false
deriving DecidableEq, Repr

/-- The service port (11). -/
structure Port where
  writeEnable : Bool := false
  lastResult : Result := .none
  commandsDiscarded : Nat := 0
  window : Option ReadWindow := none
  /-- R182: the prefetch buffer, at most 32 bytes, from the window's offset. -/
  buffer : List Byte := []
  /-- R182: a read for the buffer is wanted or in progress. -/
  reading : Bool := false
  /-- The bytes the last read command answered with. -/
  response : List Byte := []
deriving DecidableEq, Repr

/-- The non-volatile memories besides the map region: the paged array, the configuration area, the OTP blocks. -/
structure Nonvolatile where
  array : Memory := []
  config : Memory := []
  otp : Memory := []
  otpLocks : Vector Bool 16 := Vector.replicate 16 false
  /-- R177: the offsets of the configuration area torn by a loss of supply (log entry 17). -/
  tornImage : List Nat := []
deriving DecidableEq, Repr

/-- A map write that can be taken back: the entry's old content (R163). -/
inductive MapUndo where
  | granule (g : Fin 128) (old : Granule)
  | dir (e : Fin 32) (old : DirEntry)
deriving DecidableEq, Repr

/-- The whole station. -/
structure State where
  /-- The commands that wait, first in, first out. -/
  pending : List Instr := []
  /-- Whether the supply is present. -/
  supply : Bool := false
  /-- Whether RESET is asserted. -/
  resetHeld : Bool := false
  /-- Station time in ms since the last start; station seconds are its whole thousands. -/
  now : Nat := 0
  station : StationState := .start
  /-- R176: the strap's level as sampled. -/
  strap : Bool := false
  protection : Protection := .locked
  /-- The accepted image as taken; none before acceptance and in START HALT. -/
  cfg : Option Cfg := none
  /-- R178. -/
  clampedFields : Nat := 0
  nv : Nonvolatile := {}
  map : MapRegion := {}
  link : Link := {}
  picture : Picture := {}
  heat : Heat := {}
  fields : Fields := {}
  output : Output := {}
  channels : Channels := {}
  alarms : Alarms := {}
  accountant : Accountant := {}
  store : Store := {}
  port : Port := {}
  /-- MODEL'S OWN: alarm requests sent and not taken yet; empty between commands. -/
  agenda : List AlarmRequest := []
  /-- MODEL'S OWN: the map writes of the latest event, newest first (R163). -/
  mapLog : List MapUndo := []
  /-- MODEL'S OWN: the PROGRAM in flight was begun by the latest event, after its map writes (R163). -/
  programNew : Bool := false
  /-- MODEL'S OWN: how many free values have been used (Config). -/
  free : Nat := 0
deriving DecidableEq, Repr

/-- The part before its first start: no supply, every block at its value after either start, the memories erased,
every granule FREE and every directory entry EMPTY (log entry 1). -/
def State.reset : State := {}

end Sys2Proof.Machine
end

