-- ==== Sys2Proof/Machine/Ops.lean ====
section
/-! DEFINITION. The shared operations over memory, counters, serial numbers, timers and the parts of the state. -/

namespace Sys2Proof.Machine

/-! ## Non-volatile memory (R163, R176, R180) -/

/-- R163: an erased byte reads 0xFF; so does every address that is not listed. -/
def Memory.erasedByte : Byte := 0xFF

/-- The byte at an address. -/
def Memory.read : Memory → Nat → Byte
  | [], _ => Memory.erasedByte
  | (k, b) :: m, a => if a = k then b else if a < k then Memory.erasedByte else Memory.read m a

/-- Store one byte, keeping the canonical form. -/
def Memory.write : Memory → Nat → Byte → Memory
  | [], a, v => if v = Memory.erasedByte then [] else [(a, v)]
  | (k, b) :: m, a, v =>
    if a < k then (if v = Memory.erasedByte then (k, b) :: m else (a, v) :: (k, b) :: m)
    else if a = k then (if v = Memory.erasedByte then m else (a, v) :: m)
    else (k, b) :: Memory.write m a v

/-- The canonical form: addresses strictly rising, no byte that equals the erased value. -/
def Memory.wf : Memory → Bool
  | [] => true
  | [(_, b)] => b != Memory.erasedByte
  | (k, b) :: (k', b') :: m => b != Memory.erasedByte && decide (k < k') && Memory.wf ((k', b') :: m)

/-- Store bytes at consecutive addresses. -/
def Memory.writeBytes : Memory → Nat → List Byte → Memory
  | m, _, [] => m
  | m, a, b :: bs => Memory.writeBytes (Memory.write m a b) (a + 1) bs

/-- The `n` bytes from an address. -/
def Memory.readBytes (m : Memory) (a n : Nat) : List Byte :=
  (List.range n).map fun i => Memory.read m (a + i)

/-- Return `n` bytes from an address to 0xFF. -/
def Memory.eraseBytes (m : Memory) (a n : Nat) : Memory :=
  m.filter fun c => !(decide (a ≤ c.1) && decide (c.1 < a + n))

/-- R180, R181: program bytes at consecutive addresses: a byte still erased takes its new value, a programmed byte
stays as it is. -/
def Memory.program : Memory → Nat → List Byte → Memory
  | m, _, [] => m
  | m, a, b :: bs =>
    Memory.program (if Memory.read m a = Memory.erasedByte then Memory.write m a b else m) (a + 1) bs

/-- `n` free bytes, from the free-value counter `k`. -/
def tornBytes (k n : Nat) : List Byte :=
  (List.range n).map fun i => Config.tornByte (k + i)

/-! ## Counters, serial numbers, time -/

/-- R19, R38, R148, R162, R175: a counter holds 0 to 65,535 and saturates. -/
def up16 (c : Nat) : Nat := min (c + 1) 65535

/-- R107: an item counter holds 0 to 4,294,967,295. -/
def up32 (c : Nat) : Nat := min (c + 1) Config.count32

/-- 00_scope, Serial-number comparison: `e` is newer than `c`. -/
def newer (e c : Serial) : Bool := 1 ≤ (e - c).toNat && (e - c).toNat ≤ 32767

/-- Station seconds. -/
def State.seconds (s : State) : Nat := s.now / 1000

/-- The clock at the expiry of a timer that was due at `t` (log entry 7). -/
def State.reach (s : State) (t : Nat) : State := { s with now := max s.now t }

/-- R60, R85: whether a run that is kept has lasted `length` ms. -/
def ranFor (now length : Nat) : Option Nat → Bool
  | none => false
  | some t => decide (t + length ≤ now)

/-- R60, R85: a run after an update at which its test held or failed: started where none is kept, ended where the
test fails. -/
def nextRun (test : Bool) (now : Nat) (run : Option Nat) : Option Nat :=
  if test then some (run.getD now) else none

/-! ## Parts of the state -/

/-- The unit in a slot. -/
def State.slot (s : State) (i : Fin 4) : SlotUnit := s.channels.slots[i]

/-- Replace the unit in a slot. -/
def State.setSlot (s : State) (i : Fin 4) (u : SlotUnit) : State :=
  { s with channels := { s.channels with slots := s.channels.slots.set i u } }

/-- The input in an input slot. -/
def State.input (s : State) (k : Fin 16) : Input := s.fields.inputs[k]

/-- Replace an input. -/
def State.setInput (s : State) (k : Fin 16) (x : Input) : State :=
  { s with fields := { s.fields with inputs := s.fields.inputs.set k x } }

/-- The taken level of a slot's run permit. -/
def State.permit (s : State) (i : Fin 4) : Bool := s.fields.permits[i]

/-- The latch of an output. -/
def State.latch (s : State) (o : Fin 8) : Latch := s.output.latches[o]

/-- Replace a latch. -/
def State.setLatch (s : State) (o : Fin 8) (l : Latch) : State :=
  { s with output := { s.output with latches := s.output.latches.set o l } }

/-- The slots in slot order. -/
def slotList : List (Fin 4) := [0, 1, 2, 3]

/-- The inputs in input order. -/
def inputList : List (Fin 16) := List.finRange 16

/-- The outputs in output order. -/
def outputList : List (Fin 8) := [0, 1, 2, 3, 4, 5, 6, 7]

/-- Carry an operation over every slot, in slot order. -/
def State.eachSlot (f : State → Fin 4 → State) (s : State) : State :=
  f (f (f (f s 0) 1) 2) 3

/-- R131, R132: send the alarm unit a request; requests are taken in the order they are sent (log entry 8). -/
def State.ask (s : State) (r : AlarmRequest) : State := { s with agenda := s.agenda ++ [r] }

/-- The number of free values used moves on. -/
def State.useFree (s : State) (n : Nat) : State := { s with free := s.free + n }

/-- The station's own number; 0 while it has none. -/
def State.ownNumber (s : State) : Nat :=
  match s.cfg with
  | none => 0
  | some c => c.station

/-- R39: period_ms; 0 while no image is accepted, when no update falls. -/
def State.period (s : State) : Nat :=
  match s.cfg with
  | none => 0
  | some c => c.period

/-- lost_time, ms. -/
def State.lostTime (s : State) : Nat :=
  match s.cfg with
  | none => 0
  | some c => c.lostTime

/-- R51: the NCV of a fuel kind. -/
def State.ncv (s : State) (k : Fin 8) : Nat :=
  match s.cfg with
  | none => 0
  | some c => c.fuel[k]

/-- R63: the record of an input as taken. -/
def State.inputCfg (s : State) (k : Fin 16) : InputCfg :=
  match s.cfg with
  | none => {}
  | some c => c.inputs[k]

/-- R163: one allocation entry is written; the write is logged so that a loss of supply can cut after it. -/
def State.writeGranule (s : State) (g : Fin 128) (v : Granule) : State :=
  { s with map := { s.map with alloc := s.map.alloc.set g v }, mapLog := .granule g s.map.alloc[g] :: s.mapLog }

/-- R163: one directory entry is written. -/
def State.writeDir (s : State) (e : Fin 32) (v : DirEntry) : State :=
  { s with map := { s.map with dir := s.map.dir.set e v }, mapLog := .dir e s.map.dir[e] :: s.mapLog }

/-- R163: one map write is taken back. -/
def MapRegion.undo (m : MapRegion) : MapUndo → MapRegion
  | .granule g old => { m with alloc := m.alloc.set g old }
  | .dir e old => { m with dir := m.dir.set e old }

end Sys2Proof.Machine
end

