-- ==== Sys2Proof/Machine/Operands.lean ====
section
/-! DEFINITION. The byte forms of everything that crosses the link, the archive and the port: big-endian fields, the
checks, the alarm codes, the notices and the frame (R2 to R4, R184, R185, Formats). -/

namespace Sys2Proof.Machine

/-! ## Fields, most significant byte first (Formats) -/

/-- One byte. -/
def byte (n : Nat) : Byte := BitVec.ofNat 8 n

/-- Two bytes, most significant first. -/
def be2 (n : Nat) : List Byte := [byte (n / 256), byte n]

/-- Three bytes, most significant first. -/
def be3 (n : Nat) : List Byte := [byte (n / 65536), byte (n / 256), byte n]

/-- Four bytes, most significant first. -/
def be4 (n : Nat) : List Byte := [byte (n / 16777216), byte (n / 65536), byte (n / 256), byte n]

/-- A signed field of three bytes, in two's complement. -/
def sbe3 (v : Int) : List Byte := be3 (v % 16777216).toNat

/-- Bytes as a number, most significant first. -/
def fromBytes (bs : List Byte) : Nat := bs.foldl (fun n b => n * 256 + b.toNat) 0

/-- A number from the byte at an index of a list; 0 where there is none. -/
def at1 (bs : List Byte) (i : Nat) : Nat := (bs.getD i 0).toNat

/-- Two bytes at an index. -/
def at2 (bs : List Byte) (i : Nat) : Nat := at1 bs i * 256 + at1 bs (i + 1)

/-- Three bytes at an index. -/
def at3 (bs : List Byte) (i : Nat) : Nat := at2 bs i * 256 + at1 bs (i + 2)

/-- A three-byte number as signed, in two's complement. -/
def signed3 (n : Nat) : Int := if n < 8388608 then n else (n : Int) - 16777216

/-- A flag as a bit. -/
def bit (b : Bool) : Nat := if b then 1 else 0

/-! ## Checks (R2, R184) -/

/-- R2: one shift of the CRC register. -/
def crcShift (r : BitVec 16) : BitVec 16 :=
  if r.msb then (r <<< 1) ^^^ 0x1021#16 else r <<< 1

/-- R2: the CRC register after one byte, most significant bit first. -/
def crcByte (r : BitVec 16) (b : Byte) : BitVec 16 :=
  let r := r ^^^ ((b.setWidth 16) <<< 8)
  crcShift (crcShift (crcShift (crcShift (crcShift (crcShift (crcShift (crcShift r)))))))

/-- R2, R184: the CRC-16 of some bytes: all ones at the start, not inverted at the end. -/
def crc16 (bs : List Byte) : BitVec 16 := bs.foldl crcByte 0xFFFF#16

/-- R166, R184: the sum of some bytes modulo 256. -/
def byteSum (bs : List Byte) : Byte := bs.foldl (· + ·) 0

/-- R166, R184: the check byte that makes the sum of all bytes 0 modulo 256. -/
def sumCheck (bs : List Byte) : Byte := 0 - byteSum bs

/-! ## Alarm codes (Formats: numbered 1 to 21 in the order of the code table) -/

/-- The codes in table order. -/
def AlarmCode.all : List AlarmCode :=
  [.feedFailedToStart, .feedDeviation, .feedStarved, .gateJam, .inputStale, .fanDeviation, .clinkerHot,
   .bedPressureHigh, .flush, .peerLost, .pictureFull, .overfire, .underfire, .noFiringOrder, .linkFault,
   .duplicateStation, .floorTrip, .storeFull, .journalGap, .alarmFlood, .configClamped]

/-- The place of a code in the table, from 0. -/
def AlarmCode.index : AlarmCode → Fin 21
  | .feedFailedToStart => 0 | .feedDeviation => 1 | .feedStarved => 2 | .gateJam => 3 | .inputStale => 4
  | .fanDeviation => 5 | .clinkerHot => 6 | .bedPressureHigh => 7 | .flush => 8 | .peerLost => 9
  | .pictureFull => 10 | .overfire => 11 | .underfire => 12 | .noFiringOrder => 13 | .linkFault => 14
  | .duplicateStation => 15 | .floorTrip => 16 | .storeFull => 17 | .journalGap => 18 | .alarmFlood => 19
  | .configClamped => 20

/-- The number of a code, 1 to 21. -/
def AlarmCode.number (c : AlarmCode) : Nat := c.index.val + 1

/-- The code of a number; none outside 1 to 21. -/
def AlarmCode.ofNumber (n : Nat) : Option AlarmCode := if n = 0 then none else AlarmCode.all[n - 1]?

/-- 08, codes table: the default class of a code. -/
def AlarmCode.defaultClass : AlarmCode → Nat
  | .feedFailedToStart => 1 | .feedDeviation => 2 | .feedStarved => 2 | .gateJam => 2 | .inputStale => 2
  | .fanDeviation => 3 | .clinkerHot => 3 | .bedPressureHigh => 2 | .flush => 2 | .peerLost => 3
  | .pictureFull => 3 | .overfire => 3 | .underfire => 3 | .noFiringOrder => 2 | .linkFault => 3
  | .duplicateStation => 1 | .floorTrip => 1 | .storeFull => 3 | .journalGap => 4 | .alarmFlood => 3
  | .configClamped => 4

/-! ## State codes (Formats: channel states, slot kinds) -/

/-- The channel state code of a CF slot. -/
def CfState.code : CfState → Nat
  | .off => 0 | .starting => 1 | .dosing => 2 | .hold => 3 | .tripped => 4 | .fault => 5

/-- The channel state code of a DI slot. -/
def DiState.code : DiState → Nat
  | .off => 0 | .dosing => 2 | .hold => 3 | .tripped => 4 | .fault => 5

/-- The channel state code of a CA slot. -/
def CaState.code : CaState → Nat
  | .off => 0 | .running => 6 | .forced => 7 | .fault => 5

/-- The channel state code of the CG slot. -/
def CgState.code : CgState → Nat
  | .stopped => 8 | .running => 6 | .flush => 9 | .fault => 5

/-- The kind code of a slot. -/
def SlotUnit.kind : SlotUnit → Nat
  | .unused => 0 | .cf _ => 1 | .di _ => 2 | .ca _ => 3 | .cg _ => 4

/-! ## Notices (01, The seven notices; Formats) -/

/-- The kind number of a notice. -/
def Notice.kind : Notice → Nat
  | .heat .. => 1 | .air .. => 2 | .order .. => 3 | .alarm .. => 4 | .ack .. => 5 | .mark .. => 6 | .summary .. => 7

/-- R8: the class of a notice: A 0, B 1, C 2, D 3; a greater number is a lower class. -/
def Notice.cls : Notice → Nat
  | .alarm .. => 0 | .ack .. => 0 | .order .. => 1 | .mark .. => 1 | .heat .. => 2 | .air .. => 2 | .summary .. => 3

/-- Formats: the payload of a notice. -/
def Notice.payload : Notice → List Byte
  | .heat ch rank fuel st act cmd held starved =>
    [byte ch, byte (rank * 16 + fuel), byte st] ++ be3 act ++ be3 cmd ++ [byte (bit held + 2 * bit starved)]
  | .air ch role recup flush st q flow cr =>
    [byte ch, byte (role + 4 * bit recup + 8 * bit flush), byte st] ++ be3 q ++ be2 flow ++ be2 cr
  | .order e t => be2 e.toNat ++ be3 t
  | .alarm code ch cls ev occ => [byte code, byte ch, byte cls, byte ev] ++ be2 occ.toNat
  | .ack o code ch occ => [byte o, byte code, byte ch] ++ be2 occ.toNat
  | .mark n => be2 n.toNat
  | .summary p => p

/-- Formats: the notice that a payload of a kind carries; the payload has its kind's length (R4). -/
def Notice.parse (kind : Nat) (p : List Byte) : Option Notice :=
  match kind with
  | 1 => some (.heat (at1 p 0) (at1 p 1 / 16) (at1 p 1 % 16) (at1 p 2) (at3 p 3) (at3 p 6)
      (at1 p 9 % 2 == 1) (at1 p 9 / 2 % 2 == 1))
  | 2 => some (.air (at1 p 0) (at1 p 1 % 4) (at1 p 1 / 4 % 2 == 1) (at1 p 1 / 8 % 2 == 1) (at1 p 2)
      (at3 p 3) (at2 p 6) (at2 p 8))
  | 3 => some (.order (BitVec.ofNat 16 (at2 p 0)) (at3 p 2))
  | 4 => some (.alarm (at1 p 0) (at1 p 1) (at1 p 2) (at1 p 3) (BitVec.ofNat 16 (at2 p 4)))
  | 5 => some (.ack (at1 p 0) (at1 p 1) (at1 p 2) (BitVec.ofNat 16 (at2 p 3)))
  | 6 => some (.mark (BitVec.ofNat 16 (at2 p 0)))
  | 7 => some (.summary p)
  | _ => none

/-- R4: the length rule of a kind. -/
def lengthFits (kind : Nat) (p : List Byte) : Bool :=
  match kind with
  | 1 => p.length == 10
  | 2 => p.length == 10
  | 3 => p.length == 5
  | 4 => p.length == 6
  | 5 => p.length == 5
  | 6 => p.length == 2
  | 7 => decide (at1 p 2 ≤ 4) && p.length == 15 + 12 * at1 p 2
  | _ => false

/-- R2: the bytes from the origin through the last payload byte. -/
def frameBody (origin : Nat) (n : Notice) : List Byte :=
  [byte origin, byte n.kind, byte n.payload.length] ++ n.payload

/-- R2: a whole frame. -/
def frameBytes (origin : Nat) (n : Notice) : List Byte :=
  [0x7E, 0xC3] ++ frameBody origin n ++ be2 (crc16 (frameBody origin n)).toNat

/-- R3: what becomes of the bytes of a burst. -/
inductive Assembly where
  /-- The first two bytes are not the sync pair. -/
  | ignored
  /-- A length byte of 121 to 255. -/
  | badLength
  /-- The burst ended before the frame was complete. -/
  | short
  /-- A complete frame. -/
  | frame (origin kind : Nat) (payload : List Byte) (checkHolds : Bool)
deriving DecidableEq, Repr

/-- R3: assemble a burst into at most one frame. -/
def assemble (burst : List Byte) : Assembly :=
  match burst with
  | s0 :: s1 :: rest =>
    if s0 = 0x7E ∧ s1 = 0xC3 then
      match rest with
      | o :: k :: n :: tail =>
        if 120 < n.toNat then .badLength
        else if tail.length < n.toNat + 2 then .short
        else
          .frame o.toNat k.toNat (tail.take n.toNat)
            (decide ((crc16 (o :: k :: n :: tail.take n.toNat)).toNat = at2 tail n.toNat))
      | _ => .short
    else .ignored
  | _ => .ignored

/-! ## The record bytes (R166) -/

/-- Formats: the type byte of a record. -/
def RecordType.number : RecordType → Nat
  | .restart => 1 | .order => 2 | .journal => 3 | .totals => 4 | .summary => 5 | .close => 6

/-- R166: how many bytes a record takes: type, length, 4 bytes of time, the rest of the body, check. -/
def QRecord.size (r : QRecord) : Nat := r.rest.length + 7

/-- R166: the bytes of a record in a file with this time base. -/
def QRecord.bytes (base : Int) (r : QRecord) : List Byte :=
  let front := [byte r.type.number, byte (r.rest.length + 4)] ++ be4 ((r.offered : Int) - base).toNat ++ r.rest
  front ++ [sumCheck front]

/-- Formats: an allocation entry as a byte. -/
def Granule.code : Granule → Nat
  | .free => 0xFF | .next g => g.val | .last p => 0x7F + p | .erasing => 0xF0 | .bad => 0xF1

end Sys2Proof.Machine
end

