-- ==== Sys2Proof/Machine/Flags.lean ====
section
/-! DEFINITION. The conditions that are functions of the state and are kept nowhere: which alarms stand, what holds and
trips a slot, the panel's horn and lamps, the pull on the trip line, and the levels of the discrete outputs. -/

namespace Sys2Proof.Machine

/-! ## Alarms that stand (R130) -/

/-- R129: the response of a code; the default class while no table has been taken. -/
def State.response (s : State) (c : AlarmCode) : Response :=
  match s.cfg with
  | none => { cls := c.defaultClass }
  | some g => g.responses[c.index]

/-- R130: an entry stands while it is in NEW or STANDING. -/
def AlarmEntry.stands (e : AlarmEntry) : Bool := e.state != .returned

/-- Whether an entry carries this key. -/
def AlarmEntry.hasKey (e : AlarmEntry) (origin : Nat) (code : AlarmCode) (channel : Nat) : Bool :=
  e.origin == origin && e.code == code && e.channel == channel

/-- The table and the flood slot after it (R130, R140). -/
def Alarms.all (a : Alarms) : List AlarmEntry := a.table ++ a.flood.toList

/-- The entry of a key; the station's own ALARM FLOOD stands in the flood slot and nowhere else (R140). -/
def State.findAlarm (s : State) (origin : Nat) (code : AlarmCode) (channel : Nat) : Option AlarmEntry :=
  s.alarms.all.find? (·.hasKey origin code channel)

/-- R130: an own alarm stands while its entry is in NEW or STANDING, or its key is in the log set. -/
def State.stands (s : State) (code : AlarmCode) (channel : Nat) : Bool :=
  (match s.findAlarm s.ownNumber code channel with
   | none => false
   | some e => e.stands) || s.alarms.logSet.any fun k => k.1 == code && k.2.1 == channel

/-- R133: the log set has no place left. -/
def State.logFull (s : State) : Bool := decide (Config.logSetSize ≤ s.alarms.logSet.length)

/-- R77, R142: the second part of the trip cause: an own class-1 entry in NEW or STANDING scoped to the slot. -/
def State.classTrip (s : State) (i : Fin 4) : Bool :=
  s.alarms.all.any fun e =>
    e.origin == s.ownNumber && e.cls == 1 && e.stands && (e.channel == i.val || e.channel == 255)

/-- R77: the trip cause of a feed slot. -/
def State.tripCause (s : State) (i : Fin 4) : Bool := s.alarms.observed || s.classTrip i

/-- R47: a class-2 entry in NEW or STANDING, whatever its origin, code and channel. -/
def State.class2Stands (s : State) : Bool := s.alarms.all.any fun e => e.cls == 2 && e.stands

/-- R143: the station pulls the trip line. -/
def State.pulls (s : State) : Bool :=
  s.alarms.all.any fun e =>
    e.origin == s.ownNumber && e.cls == 1 && e.stands && (s.response e.code).floor

/-! ## The panel (R145) -/

/-- R145: what a class lamp shows. -/
inductive Lamp where
  | dark | steady | flashing
deriving DecidableEq, Repr

/-- R145, R75: the horn sounds. -/
def State.horn (s : State) : Bool :=
  s.station != .startHalt && !s.alarms.silenced && s.alarms.all.any (·.state == .new)

/-- R145: the lamp of a class; all three flash in START HALT. -/
def State.lamp (s : State) (cls : Nat) : Lamp :=
  if s.supply && !s.resetHeld && s.station == .startHalt then .flashing
  else if s.alarms.all.any fun e => e.cls == cls && e.state == .new then .flashing
  else if s.alarms.all.any fun e => e.cls == cls && e.state == .standing then .steady
  else .dark

/-! ## Holds (R29, R47) -/

/-- R29: a STALE entry, feed or air, or the loss hold running. -/
def State.pictureHold (s : State) : Bool :=
  s.picture.entries.any (·.age == .stale) || s.picture.lossHoldDue.isSome

/-- R47: the station's own CG slot is in FLUSH. -/
def SlotUnit.inFlush : SlotUnit → Bool
  | .cg g => g.state == .flush
  | _ => false

/-- R47, R115: the station's CG slot stands in FLUSH. -/
def State.localFlush (s : State) : Bool := slotList.any fun i => (s.slot i).inFlush

/-! ## Inputs (R65, R66) -/

/-- Whether an input stands FAILED. -/
def State.inputFailed (s : State) (k : Fin 16) : Bool := (s.input k).freshness == .failed

/-- Whether an input stands FRESH. -/
def State.inputFresh (s : State) (k : Fin 16) : Bool := (s.input k).freshness == .fresh

/-- R65: whether an input is mapped and carries a freshness state. -/
def Role.timed : Role → Bool
  | .unmapped => false
  | .itemWeight => false
  | _ => true

/-- R66: how many inputs of a consumer stand FAILED. -/
def State.failedInputs (s : State) (consumer : Nat) : Nat :=
  inputList.countP fun k => (s.inputCfg k).role.timed && (s.inputCfg k).consumer == consumer && s.inputFailed k

/-- The input of a station-level role, if one is mapped. -/
def State.stationInput (s : State) (r : Role) : Option (Fin 16) :=
  inputList.find? fun k => (s.inputCfg k).role == r && (s.inputCfg k).consumer == 255

/-! ## Discrete outputs of an item gate (R95, R98) -/

/-- R95: the infeed stop line. R101 has it follow R95 again at READY and R95 ties it to JAMMED alone; the model releases
it as the gate leaves JAMMED, at the jam clear edge (DESIGN CHOICE, log entry 40). -/
def DiSlot.stopLine (d : DiSlot) : Bool := d.queue.length == Config.itemQueueSize || d.gate.state == .jammed

/-- R94: the divert line. -/
def DiSlot.divertLine (d : DiSlot) : Bool := d.divertDue.isSome

/-- R75: the discrete output lines of a slot. -/
structure Lines where
  /-- The flap commands, true for open. -/
  upperOpen : Bool := false
  lowerOpen : Bool := false
  call : Bool := false
  stop : Bool := false
  divert : Bool := false
deriving DecidableEq, Repr

/-- R75: the rest levels: both flaps commanded closed, the call line, the infeed stop line and the divert pulse
released. -/
def Lines.rest : Lines := {}

/-- R94, R95, R98: the levels a DI slot drives. -/
def DiSlot.lines (d : DiSlot) : Lines :=
  { upperOpen := d.gate.upperOpenCmd, lowerOpen := d.gate.lowerOpenCmd, call := d.call, stop := d.stopLine,
    divert := d.divertLine }

/-- R75: the levels of a slot's lines: at rest until a DI slot drives them, which it does from the acceptance of the
image on. No unit stands in a slot before that, in RESET or without a supply. -/
def State.lines (s : State) (i : Fin 4) : Lines :=
  match s.slot i with
  | .di d => d.lines
  | _ => Lines.rest

/-- R107: the in-hand count. -/
def DiSlot.inHand (d : DiSlot) : Nat := d.queue.length + (if d.gate.item.isSome then 1 else 0)

end Sys2Proof.Machine
end

