-- ==== Sys2Proof/Machine/Link.lean ====
section
/-! DEFINITION. The transmit queue, the medium and the ends of a transmission (R8 to R18), and the publication of alarm
traffic that the queue hands back (R137, R138). -/

namespace Sys2Proof.Machine

/-! ## The transmit queue (R9 to R11) -/

/-- R10: an offer coalesces with a queued uncommitted frame. -/
def Notice.coalescesWith (n : Notice) (f : QFrame) : Bool :=
  !f.committed &&
    match n, f.notice with
    | .heat ch .., .heat ch' .. => ch == ch'
    | .air ch .., .air ch' .. => ch == ch'
    | .order .., .order .. => true
    | .mark .., .mark .. => true
    | _, _ => false

/-- R9: a new frame takes its place by class and entry number. -/
def insertFrame (f : QFrame) : List QFrame → List QFrame
  | [] => [f]
  | g :: q => if g.notice.cls ≤ f.notice.cls then g :: insertFrame f q else f :: g :: q

/-- R10: the payload of the first frame an offer coalesces with is replaced. -/
def coalesceInto (n : Notice) : List QFrame → List QFrame
  | [] => []
  | f :: q => if n.coalescesWith f then { f with notice := n } :: q else f :: coalesceInto n q

/-- R11: the frame a new frame of this class evicts: the newest uncommitted frame of the lowest class among the
uncommitted frames, when that class is lower. The queue's order makes it the last uncommitted frame. -/
def evictee (cls : Nat) (q : List QFrame) : Option QFrame :=
  match q.reverse.find? (fun f => !f.committed) with
  | none => none
  | some f => if cls < f.notice.cls then some f else none

/-- R11, R13: a drop is counted in the dropped counter of its class. -/
def LinkCounters.drop (c : LinkCounters) (n : Notice) : LinkCounters :=
  match n.cls with
  | 0 => { c with droppedA := up16 c.droppedA }
  | 1 => { c with droppedB := up16 c.droppedB }
  | 2 => { c with droppedC := up16 c.droppedC }
  | _ => { c with droppedD := up16 c.droppedD }

/-- R9, R10: a new frame for an offer that does not coalesce, in its place. -/
def Link.insert (l : Link) (n : Notice) : Link :=
  { l with queue := insertFrame { notice := n, entry := l.entryCount } l.queue, entryCount := l.entryCount + 1 }

/-- R10, R11: an offer is entered, or dropped (false). -/
def Link.enter (l : Link) (n : Notice) : Link × Bool :=
  if l.queue.any n.coalescesWith then
    ({ l with queue := coalesceInto n l.queue, counters := { l.counters with coalesced := up16 l.counters.coalesced } },
      true)
  else if l.queue.length < Config.queueSize then (l.insert n, true)
  else
    match evictee n.cls l.queue with
    | some f =>
      (Link.insert { l with queue := l.queue.filter (·.entry != f.entry),
                            counters := { l.counters with evicted := up16 l.counters.evicted } } n, true)
    | none => ({ l with counters := l.counters.drop n }, false)

/-! ## Handed-back notices (R12, R137) -/

/-- R130: the current notice of an entry. -/
def AlarmEntry.currentNotice (e : AlarmEntry) : Notice :=
  .alarm e.code.number e.channel e.cls (if e.state = .returned ∨ (e.state = .new ∧ e.latched) then 2 else 1)
    e.occurrence

/-- An entry's new content in its place in the table or the flood slot. -/
def Alarms.replace (a : Alarms) (e : AlarmEntry) : Alarms :=
  let put := fun f : AlarmEntry => if f.hasKey e.origin e.code e.channel then e else f
  { a with table := a.table.map put, flood := a.flood.map put }

/-- R137: a notice joins the retry list; a full list loses its oldest. -/
def Alarms.retryPush (a : Alarms) (n : Notice) : Alarms :=
  if a.retry.length < Config.retrySize then { a with retry := a.retry ++ [n] }
  else
    { a with retry := a.retry.drop 1 ++ [n], counters := { a.counters with retryLost := up16 a.counters.retryLost } }

/-- R137: a notice is forgotten. -/
def Alarms.supersede (a : Alarms) : Alarms :=
  { a with counters := { a.counters with superseded := up16 a.counters.superseded } }

/-- R137: a handed-back notice is sorted against the present table. -/
def State.handBack (s : State) (n : Notice) : State :=
  match n with
  | .alarm code ch _ ev _ =>
    if s.station = .startHalt then { s with alarms := s.alarms.supersede }
    else
      match (AlarmCode.ofNumber code).bind fun c => s.findAlarm s.ownNumber c ch with
      | some e =>
        if e.currentNotice = n then { s with alarms := s.alarms.replace { e with unpublished := true } }
        else { s with alarms := s.alarms.supersede }
      | none => if ev = 2 then { s with alarms := s.alarms.retryPush n } else { s with alarms := s.alarms.supersede }
  | .ack o code ch occ =>
    if s.station = .startHalt then { s with alarms := s.alarms.supersede }
    else
      match (AlarmCode.ofNumber code).bind fun c => s.findAlarm o c ch with
      | some e =>
        if e.occurrence = occ then { s with alarms := s.alarms.replace { e with ackUnpublished := true } }
        else { s with alarms := s.alarms.supersede }
      | none => { s with alarms := s.alarms.retryPush n }
  | _ => s

/-! ## Medium access (R14, R15) -/

/-- R14: the class delay, in slots. -/
def classDelay (cls : Nat) : Nat := 2 * cls

/-- R15: the head's committed flag is set, as its attempt begins. -/
def commitHead : List QFrame → List QFrame
  | [] => []
  | f :: q => { f with committed := true } :: q

/-- R15: the head is sent; the medium is the station's own and its receive side takes nothing (R5). The backoff count is 0
outside BACKOFF (DESIGN CHOICE, log entry 54). -/
def Link.send (l : Link) : Link :=
  { l with access := .sending, backoff := 0, mediumIdle := false, deaf := true,
           queue := commitHead l.queue, sendingEntry := l.queue.head?.map (·.entry) }

/-- R14: BACKOFF is entered with the class delay of the head plus a fresh draw; at 0 the head is sent at once. -/
def State.enterBackoff (s : State) : State :=
  match s.link.queue with
  | [] => { s with link := { s.link with access := .idle } }
  | h :: _ =>
    let s' := s.useFree 1
    match Config.backoffDraw s.free % s.link.window + classDelay h.notice.cls with
    | 0 => { s' with link := s.link.send }
    | n + 1 => { s' with link := { s.link with access := .backoff, backoff := n + 1 } }

/-- R14: IDLE with a queued frame moves on to AWAIT GAP, and AWAIT GAP with the medium idle to BACKOFF. -/
def State.kickAccess (s : State) : State :=
  if s.station = .run then
    match s.link.access with
    | .idle =>
      if s.link.queue.isEmpty then s
      else if s.link.mediumIdle then s.enterBackoff
      else { s with link := { s.link with access := .awaitGap } }
    | .awaitGap => if s.link.mediumIdle then s.enterBackoff else s
    | _ => s
  else s

/-- R8, R13: a block offers a notice. -/
def State.offer (s : State) (n : Notice) : State :=
  if s.station = .startHalt ∨ s.station = .commission then
    State.handBack { s with link := { s.link with counters := s.link.counters.drop n } } n
  else
    let r := s.link.enter n
    let s' := { s with link := r.1 }
    if r.2 then
      if s.link.access = .backoff then
        if r.1.queue.head?.map (·.entry) = s.link.queue.head?.map (·.entry) then s' else s'.enterBackoff
      else s'.kickAccess
    else s'.handBack n

/-- R2, R15: the frame on the medium, while the station is sending. -/
def State.onMedium (s : State) : Option (List Byte) :=
  match s.link.sendingEntry with
  | none => none
  | some k => (s.link.queue.find? (·.entry == k)).map fun f => frameBytes s.ownNumber f.notice

/-! ## Re-offers at a room signal (R138) -/

/-- R138: a re-offer is counted and offered. -/
def State.reoffer (s : State) (n : Notice) : State :=
  State.offer
    { s with alarms := { s.alarms with counters := { s.alarms.counters with reoffers := up16 s.alarms.counters.reoffers } } } n

/-- R138: the unpublished flag of an entry. -/
def State.reofferAlarm (s : State) (k : AlarmEntry) : State :=
  match s.findAlarm k.origin k.code k.channel with
  | none => s
  | some e =>
    if e.unpublished then
      State.reoffer { s with alarms := s.alarms.replace { e with unpublished := false } } e.currentNotice
    else s

/-- R138: the ack unpublished flag of an entry. -/
def State.reofferAck (s : State) (k : AlarmEntry) : State :=
  match s.findAlarm k.origin k.code k.channel with
  | none => s
  | some e =>
    if e.ackUnpublished then
      State.reoffer { s with alarms := s.alarms.replace { e with ackUnpublished := false } }
        (.ack e.origin e.code.number e.channel e.occurrence)
    else s

/-- R138: the oldest notice of the retry list is removed and offered, `n` times. -/
def State.reofferRetry : Nat → State → State
  | 0, s => s
  | n + 1, s =>
    match s.alarms.retry with
    | [] => s
    | r :: rs => State.reofferRetry n (State.reoffer { s with alarms := { s.alarms with retry := rs } } r)

/-- R12, R138: a frame has left the queue; the alarm unit offers what it holds: the table in order, the flood slot
last, then the retry list, each item once. -/
def State.room (s : State) : State :=
  let s' := s.alarms.all.foldl (fun t k => (t.reofferAlarm k).reofferAck k) s
  s'.reofferRetry s'.alarms.retry.length

/-! ## The exhaustion cause (R18) -/

/-- R19: change the link counters. -/
def State.countLink (s : State) (f : LinkCounters → LinkCounters) : State :=
  { s with link := { s.link with counters := f s.link.counters } }

/-- R18: the exhaustion cause is set. -/
def State.setExhaustion (s : State) : State :=
  if s.link.exhaustionCause then s
  else
    let s1 := { s with link := { s.link with exhaustionCause := true } }
    if s.link.silenceCause then s1 else s1.ask (.raise .linkFault 255)

/-- R18: the exhaustion cause ends. -/
def State.clearExhaustion (s : State) : State :=
  if s.link.exhaustionCause then
    let s1 := { s with link := { s.link with exhaustionCause := false } }
    if s.link.silenceCause then s1 else s1.ask (.clear .linkFault 255)
  else s

/-! ## The ends of a transmission (R15 to R17) -/

/-- R16, R17: AWAIT GAP if the queue still holds a frame, IDLE otherwise. -/
def State.afterSending (s : State) : State :=
  { s with link := { s.link with
      access := if s.link.queue.isEmpty || s.station != .run then .idle else .awaitGap, sendingEntry := none } }

/-- The frame on the medium. -/
def State.sendingFrame (s : State) : Option QFrame :=
  match s.link.sendingEntry with
  | none => none
  | some k => s.link.queue.find? (·.entry == k)

/-- A frame leaves the queue. -/
def State.unqueue (s : State) (f : QFrame) : State :=
  { s with link := { s.link with queue := s.link.queue.filter (·.entry != f.entry) } }

/-- R17: a frame is discarded after its eighth collision. -/
def State.discard (s : State) (f : QFrame) : State :=
  let s1 := (s.unqueue f).countLink fun c => { c with exhaustionDiscards := up16 c.exhaustionDiscards }
  let n := min 4 (s.link.discardsInRow + 1)
  let s2 := { s1 with link := { s1.link with discardsInRow := n, window := 4 } }
  let s3 := if n = 4 then s2.setExhaustion else s2
  (s3.handBack f.notice).room

/-- R15: a collision: the attempt is counted and the window doubles; the eighth discards. -/
def State.collide (s : State) : State :=
  match s.sendingFrame with
  | none => s
  | some f =>
    let s1 := s.countLink fun c => { c with collisions := up16 c.collisions }
    let bump := fun g : QFrame => if g.entry = f.entry then { g with attempts := g.attempts + 1 } else g
    let s2 := { s1 with link := { s1.link with window := min 64 (2 * s.link.window), queue := s1.link.queue.map bump } }
    let s3 := if 8 ≤ f.attempts + 1 then s2.discard { f with attempts := f.attempts + 1 } else s2
    s3.afterSending

/-- R16: a frame has been sent cleanly. -/
def State.sent (s : State) : State :=
  match s.sendingFrame with
  | none => s
  | some f =>
    let s1 := (s.unqueue f).countLink fun c => { c with sent := up16 c.sent }
    let s2 := { s1 with link := { s1.link with window := 4, discardsInRow := 0 } }
    s2.clearExhaustion.room.afterSending

/-- R14, R15: the link interface as the station leaves RUN: a transmission stops at once and its attempt is counted as a
collision, and the medium-access state is IDLE. A wait that is cut short leaves a backoff count of 0 (DESIGN CHOICE, log
entry 54). -/
def State.leaveRun (s : State) : State :=
  let t := { s with station := .start }
  let u := if s.link.access = .sending then t.collide else t
  { u with link := { u.link with access := .idle, backoff := 0, sendingEntry := none } }

end Sys2Proof.Machine
end

