-- ==== Sys2Proof/Machine/Store.lean ====
section
/-! DEFINITION. The report store: chains and places in the paged array, the append queue, file steps, reclaim and the
store engine (R163 to R173). -/

namespace Sys2Proof.Machine

/-! ## Chains and places (R164 to R166) -/

/-- R164: the granules reached from one by following NEXT entries to a LAST entry, at most `n`. -/
def MapRegion.walk (m : MapRegion) : Nat → Fin 128 → List (Fin 128)
  | 0, _ => []
  | n + 1, g =>
    match m.alloc[g] with
    | .next h => g :: MapRegion.walk m n h
    | .last _ => [g]
    | _ => []

/-- R164: a file's chain. -/
def MapRegion.chain (m : MapRegion) (d : DirEntry) : List (Fin 128) :=
  match d.first with
  | none => []
  | some g => m.walk 128 g

/-- R164: whether a granule is allocated. -/
def Granule.allocated : Granule → Bool
  | .next _ => true
  | .last _ => true
  | _ => false

/-- The granules in order. -/
def granuleList : List (Fin 128) := List.finRange 128

/-- The directory entries in order. -/
def entryList : List (Fin 32) := List.finRange 32

/-- The lowest-numbered granule in a state. -/
def MapRegion.lowest (m : MapRegion) (v : Granule) : Option (Fin 128) := granuleList.find? fun g => m.alloc[g] == v

/-- R163, R165: the array address of a position in a chain. No address belongs to a position past the chain's end: the
store never programs there, and a read there takes a free value (`State.fileByte`). -/
def chainAddress (chain : List (Fin 128)) (page byte : Nat) : Nat :=
  (chain.getD (page / 16) 0).val * Config.granuleBytes + (page % 16) * 256 + byte

/-- R165: a file's length; 0 for an EMPTY entry. -/
def DirEntry.length (d : DirEntry) : Nat := if d.state = .empty then 0 else d.page * 256 + d.byte

/-- R166: where a record of a size goes, and whether a granule must be linked for it. -/
structure Place where
  page : Nat
  byte : Nat
  needs : Bool
deriving DecidableEq, Repr

/-- R166: a record never straddles a page. -/
def MapRegion.place (m : MapRegion) (d : DirEntry) (size : Nat) : Place :=
  let pages := 16 * (m.chain d).length
  if d.page < pages then
    if d.byte + size ≤ 256 then { page := d.page, byte := d.byte, needs := false }
    else { page := d.page + 1, byte := 0, needs := decide (pages ≤ d.page + 1) }
  else { page := d.page, byte := 0, needs := true }

/-! ## Volatile entries and counters -/

/-- What the store keeps for a directory entry. -/
def State.aux (s : State) (e : Fin 32) : FileAux := s.store.aux[e]

/-- Replace what the store keeps for a directory entry. -/
def State.setAux (s : State) (e : Fin 32) (x : FileAux) : State :=
  { s with store := { s.store with aux := s.store.aux.set e x } }

/-- A directory entry. -/
def State.dir (s : State) (e : Fin 32) : DirEntry := s.map.dir[e]

/-- Change the store's counters. -/
def State.countStore (s : State) (f : StoreCounters → StoreCounters) : State :=
  { s with store := { s.store with counters := f s.store.counters } }

/-! ## Drops (R168) -/

/-- R168: a record is dropped: the gap flag of its file, the counter, and JOURNAL GAP. -/
def State.dropRecord (s : State) (r : QRecord) : State :=
  let s1 : State :=
    match r.bound with
    | .file e =>
      if (s.dir e).state = .empty then s.setAux e { s.aux e with gapDue := true }
      else if (s.dir e).gap then s
      else s.writeDir e { s.dir e with gap := true }
    | .next => { s with store := { s.store with nextGapDue := true } }
    | .unopened => s
  let s2 := s1.countStore fun c => { c with queueDrops := up16 c.queueDrops }
  s2.ask (.raise .journalGap 255)

/-- Records leave the queue. -/
def State.takeOut (s : State) (gone : QRecord → Bool) : State :=
  { s with store := { s.store with queue := s.store.queue.filter fun r => !gone r } }

/-- R168: records leave the queue; JOURNAL GAP is cleared when the queue becomes empty while it stands. -/
def State.dequeue (s : State) (gone : QRecord → Bool) : State :=
  let s1 := s.takeOut gone
  if !s.store.queue.isEmpty && s1.store.queue.isEmpty && s.stands .journalGap 255 then s1.ask (.clear .journalGap 255)
  else s1

/-! ## Reclaim (R171) -/

/-- R171: whether an entry is a CLOSED file outside the retention fence. -/
def State.reclaimable (s : State) (e : Fin 32) : Bool :=
  let retain := match s.cfg with
    | none => 16
    | some c => c.retain
  (s.dir e).state == .closed && !(s.aux e).reserved && (s.aux e).steps.isEmpty &&
    decide (retain ≤ entryList.countP fun f => (s.dir f).state == .closed && (s.dir e).closeSeq < (s.dir f).closeSeq)

/-- The entry of least close sequence number among some. -/
def State.oldest (s : State) : List (Fin 32) → Option (Fin 32)
  | [] => none
  | e :: es =>
    match State.oldest s es with
    | none => some e
    | some f => if (s.dir e).closeSeq ≤ (s.dir f).closeSeq then some e else some f

/-- R130: an own alarm of the station as a whole stands, or will once the requests sent already are taken. -/
def State.willStand (s : State) (c : AlarmCode) : Bool :=
  match s.agenda.reverse.find? fun q => q == .raise c 255 || q == .clear c 255 with
  | some q => q == .raise c 255
  | none => s.stands c 255

/-- R173: a granule has become FREE or an entry EMPTY: STORE FULL is cleared where it stands, or where its raise is on its
way already. R173 does not say whether the clear is asked for while the alarm does not stand, where the request would be
counted as a stale notice in START HALT (R148): the model does not ask for it then (DESIGN CHOICE, log entry 67). -/
def State.clearStoreFull (s : State) : State :=
  if s.willStand .storeFull then s.ask (.clear .storeFull 255) else s

/-- R171: a file is reclaimed: its entry is written EMPTY, then its chain ERASING one by one; a window open on it
sees a length of 0 from then on; STORE FULL is cleared, an entry being EMPTY (R173). -/
def State.reclaimFile (s : State) (e : Fin 32) : State :=
  let chain := s.map.chain (s.dir e)
  let s1 := chain.foldl (fun t g => t.writeGranule g .erasing) (s.writeDir e {})
  let s2 := s1.countStore fun c => { c with reclaims := up16 c.reclaims }
  let s3 := { s2 with port := { s2.port with
    window := s2.port.window.map fun (w : ReadWindow) => if w.entry = e then { w with dead := true } else w } }
  s3.clearStoreFull

/-- R171: the CLOSED file with the least close sequence number outside the fence, if there is one, is reclaimed. -/
def State.reclaim (s : State) : Option State :=
  (s.oldest (entryList.filter s.reclaimable)).map s.reclaimFile

/-! ## Programs, links and erases (R169, R170) -/

/-- R170: the lowest-numbered FREE granule is linked to a file by three map writes in order. -/
def State.linkGranule (s : State) (e : Fin 32) (g : Fin 128) : State :=
  let d := s.dir e
  let s1 := s.writeGranule g (.last 1)
  let s2 := match d.last with
    | none => s1
    | some l => s1.writeGranule l (.next g)
  let s3 := s2.writeDir e { d with last := some g, first := some (d.first.getD g) }
  s3.countStore fun c => { c with links := up16 c.links }

/-- R169: as many records of a list, from its head, as fit in `room` bytes. -/
def takeFit : Nat → List QRecord → List QRecord
  | _, [] => []
  | room, r :: rs => if r.size ≤ room then r :: takeFit (room - r.size) rs else []

/-- R169: the page count of the file's last granule, rewritten before a program that begins a new page in it. -/
def State.widenLast (s : State) (e : Fin 32) (page : Nat) : State :=
  match (s.dir e).last with
  | none => s
  | some g =>
    match s.map.alloc[g] with
    | .last p =>
      if p < page % 16 + 1 ∧ page / 16 + 1 = (s.map.chain (s.dir e)).length then s.writeGranule g (.last (page % 16 + 1))
      else s
    | _ => s

/-- R169: the engine starts a program of some records at a place. -/
def State.startProgram (s : State) (e : Fin 32) (p : Place) (rs : List QRecord) : State :=
  let s1 := s.widenLast e p.page
  let op : ProgramOp :=
    { file := e, records := rs, page := p.page, byte := p.byte,
      address := chainAddress (s1.map.chain (s1.dir e)) p.page p.byte }
  { s1 with programNew := true, store := { s1.store with program := some op } }

/-- Whether a record's file is written in the map. -/
def State.fileOf (s : State) (r : QRecord) : Option (Fin 32) :=
  match r.bound with
  | .file e => if (s.dir e).state = .empty then none else some e
  | _ => none

/-- R169, R172: whether a record can be programmed now: its file is written, and its place needs no granule or can
take a FREE one. -/
def State.programmable (s : State) (r : QRecord) : Bool :=
  match s.fileOf r with
  | none => false
  | some e => !(s.map.place (s.dir e) r.size).needs || (s.map.lowest .free).isSome

/-- R169: program a record that can be programmed, with those of the followers that fit after it in its page. -/
def State.programFrom (s : State) (e : Fin 32) (r : QRecord) (followers : List QRecord) : State :=
  let p := s.map.place (s.dir e) r.size
  let s1 := if p.needs then
      match s.map.lowest .free with
      | none => s
      | some g => s.linkGranule e g
    else s
  s1.startProgram e p (r :: takeFit (256 - p.byte - r.size) followers)

/-- R169: the records after `r` in the queue that are bound to the same file and pass a test. -/
def State.followers (s : State) (r : QRecord) (test : QRecord → Bool) : List QRecord :=
  s.store.queue.filter fun q => q.bound == r.bound && decide (r.seq < q.seq) && test q

/-- R169: an erase begins, with a suspension count of 0. -/
def State.startErase (s : State) (g : Fin 128) : State :=
  { s with store := { s.store with erase := some { granule := g } } }

/-- R168: the binding of a JOURNAL or ORDER record. -/
def State.currentBinding (s : State) : Binding :=
  match s.store.current with
  | none => .next
  | some e => .file e

/-- R146: whether a record of the queue shows a change of the station's own JOURNAL GAP. -/
def State.showsJournalGap (s : State) (r : QRecord) : Bool :=
  r.type == .journal && at1 r.rest 1 == s.ownNumber && at1 r.rest 2 == AlarmCode.journalGap.number

/-- R168, R173: a run without end: the head to be dropped for want of a granule is a JOURNAL record of JOURNAL GAP itself,
of class 1 to 3, and the record of the clear that its drop would ask for would be such a head in its turn, and so on. That
clear alone is not asked for (DESIGN CHOICE, log entry 10). -/
def State.endlessClear (s : State) (r : QRecord) : Bool :=
  let next := { r with bound := s.currentBinding }
  s.showsJournalGap r && (s.response .journalGap).cls != 4 && (s.fileOf next).isSome && !s.programmable next

/-- R173: a head that can have no granule is dropped as by R168, and STORE FULL is raised. Where the queue becomes empty by it
while JOURNAL GAP stands, the clear is asked for first and the raise for the dropped record after it: R168 does not order them
(DESIGN CHOICE, log entry 68). -/
def State.dropHead (s : State) (r : QRecord) : State :=
  let s1 := s.ask (.raise .storeFull 255)
  let this := fun q : QRecord => q.seq == r.seq
  State.dropRecord (if s.endlessClear r then s1.takeOut this else s1.dequeue this) r

/-- R169: the choice of an idle engine; true where it is to choose again: after a reclaim, a drop, and the beginning of an
erase, which a cause that stands already suspends at once (R172). -/
def State.chooseIdle (s : State) : State × Bool :=
  match s.store.queue.find? fun r => (s.fileOf r).isSome with
  | none =>
    match s.map.lowest .erasing with
    | none => (s, false)
    | some g => (s.startErase g, true)
  | some r =>
    match s.fileOf r with
    | none => (s, false)
    | some e =>
      if s.programmable r then (s.programFrom e r (s.followers r fun _ => true), false)
      else
        match s.map.lowest .erasing with
        | some g => (s.startErase g, true)
        | none =>
          match s.reclaim with
          | some s1 => (s1, true)
          | none => (s.dropHead r, true)

/-- R172: the first priority record in queue order that can be programmed. -/
def State.priorityRecord (s : State) : Option QRecord := s.store.queue.find? fun r => r.priority && s.programmable r

/-- R172: the first record that a FLUSH waits for and that can be programmed. -/
def State.flushRecord (s : State) : Option QRecord := s.store.queue.find? fun r => r.flushed && s.programmable r

/-- R172: what the engine serves while an erase stands suspended: a priority record alone, then a FLUSH's records; a
read needs nothing of it. -/
def State.serveSuspended (s : State) : State :=
  match s.priorityRecord with
  | some r => match s.fileOf r with
    | none => s
    | some e => s.programFrom e r []
  | none => match s.flushRecord with
    | none => s
    | some r => match s.fileOf r with
      | none => s
      | some e => s.programFrom e r (s.followers r QRecord.flushed)

/-- R172: the choice of the engine with an erase in flight and no program running. A record that a FLUSH still waits for
suspends the erase also where this began after the command was taken: R172 speaks of the erase in flight alone (DESIGN CHOICE,
log entry 73). -/
def State.chooseErasing (s : State) (x : EraseOp) : State :=
  if s.priorityRecord.isNone && s.flushRecord.isNone && !s.port.reading then
    { s with store := { s.store with erase := some { x with suspended := false } } }
  else if x.suspended then s.serveSuspended
  else if x.count < Config.maxSuspensions then
    let x' := { x with suspended := true, count := x.count + 1 }
    let s' := State.countStore { s with store := { s.store with erase := some x' } }
      fun c => { c with suspensions := up16 c.suspensions }
    s'.serveSuspended
  else s

/-- R169: the engine chooses, when the start scan has ended and it runs no program and no operation of the port. -/
def State.engineStep (s : State) : State × Bool :=
  if s.station = .start ∨ s.store.program.isSome ∨ s.store.area.isSome then (s, false)
  else
    match s.store.erase with
    | some x => (s.chooseErasing x, false)
    | none => s.chooseIdle

/-! ## File steps (R167) -/

/-- The greatest close sequence number in the directory. -/
def State.greatestClose (s : State) : Nat := entryList.foldl (fun n e => max n (s.dir e).closeSeq) 0

/-- R167: whether a record that was bound to a file and offered before a step still stands in the queue. -/
def State.stillQueued (s : State) (e : Fin 32) (before : Nat) : Bool :=
  s.store.queue.any fun r => r.bound == .file e && decide (r.seq < before)

/-- R167: whether another entry stands in a state in the map. -/
def State.otherIn (s : State) (e : Fin 32) (st : FileState) : Bool :=
  entryList.any fun f => f != e && (s.dir f).state == st

/-- R167: a file step's conditions. -/
def State.stepAllowed (s : State) (e : Fin 32) : FileStep × Nat → Bool
  | (.opened _, _) => !s.otherIn e .opened
  | (.collating, n) => !s.stillQueued e n && !s.otherIn e .collating
  | (.closed _, n) => !s.stillQueued e n

/-- R167: a file step is written. An entry that is OPEN or COLLATING has no closed time, and no rule gives it a value: it is 0 until
the CLOSED step (DESIGN CHOICE, log entry 69). -/
def State.writeStep (s : State) (e : Fin 32) : FileStep → State
  | .opened n =>
    let s1 := s.writeDir e { state := .opened, shift := n, openedTime := s.seconds, gap := (s.aux e).gapDue }
    s1.setAux e { s1.aux e with reserved := false, gapDue := false }
  | .collating => s.writeDir e { s.dir e with state := .collating }
  | .closed cut =>
    s.writeDir e { s.dir e with state := .closed, closeSeq := s.greatestClose + 1, closedTime := s.seconds, cut := cut }

/-- R167: of two steps that can be written, the one that was requested first. -/
def earlierStep (x : Fin 32 × FileStep × Nat) : Option (Fin 32 × FileStep × Nat) → Fin 32 × FileStep × Nat
  | none => x
  | some y => if x.2.2 ≤ y.2.2 then x else y

/-- R167: the next step to be written: of the entries' first pending steps whose conditions allow, the one that was
requested first, with its entry. -/
def State.nextStep (s : State) : List (Fin 32) → Option (Fin 32 × FileStep × Nat)
  | [] => none
  | e :: es =>
    match (s.aux e).steps with
    | [] => State.nextStep s es
    | st :: _ => if s.stepAllowed e st then some (earlierStep (e, st) (State.nextStep s es)) else State.nextStep s es

/-- R167: an entry's first pending step is taken and written. -/
def State.takeStep (s : State) (e : Fin 32) (st : FileStep) : State :=
  State.writeStep (s.setAux e { s.aux e with steps := (s.aux e).steps.drop 1 }) e st

/-- R167: the next step is written; none where no step can be. -/
def State.stepOnce (s : State) : Option State :=
  match s.nextStep entryList with
  | none => none
  | some x => some (s.takeStep x.1 x.2.1)

/-- R167: pending steps are written as their conditions allow. -/
def State.runSteps : Nat → State → State
  | 0, s => s
  | n + 1, s =>
    match s.stepOnce with
    | none => s
    | some s1 => State.runSteps n s1

/-- R167, R169: pending steps are written and the engine chooses, again after each drop or reclaim. -/
def State.storeLoop : Nat → State → State
  | 0, s => s
  | n + 1, s =>
    let r := (s.runSteps 64).engineStep
    if r.2 then State.storeLoop n r.1 else r.1

/-- The store goes on as far as it can at one moment. -/
def State.runStore (s : State) : State := s.storeLoop 64

/-! ## Offers (R168) -/

/-- R168: the binding of a record from the accountant. -/
def fileBinding : Option (Fin 32) → Binding
  | none => .unopened
  | some e => .file e

/-- R168: a record joins the queue at its tail. -/
def State.enqueue (s : State) (r : QRecord) : State :=
  { s with store := { s.store with queue := s.store.queue ++ [r] } }

/-- R168: the newest record in the queue that is not a priority record. -/
def State.newestOrdinary (s : State) : Option QRecord := s.store.queue.reverse.find? fun r => !r.priority

/-- R168, R173: a record offered to a queue that is open. -/
def State.takeRecord (s : State) (r : QRecord) : State :=
  if r.bound = .unopened then s.dropRecord r
  else if s.store.queue.length < Config.appendSize then s.enqueue r
  else if r.priority then
    match s.newestOrdinary with
    | none => s.dropRecord r
    | some v =>
      State.dropRecord
        (State.enqueue { s with store := { s.store with queue := s.store.queue.filter (·.seq != v.seq) } } r) v
  else s.dropRecord r

/-- R167, R168: the running number of offers and file requests goes on by one. -/
def State.nextNumber (s : State) : State := { s with store := { s.store with seq := s.store.seq + 1 } }

/-- R168: a record is offered to the append queue. -/
def State.append (s : State) (type : RecordType) (rest : List Byte) (bound : Binding)
    (priority saturated : Bool) : State :=
  if s.cfg.isNone ∨ s.station = .commission ∨ s.station = .startHalt then
    s.countStore fun c => { c with refusedAppends := up16 c.refusedAppends }
  else
    State.runStore <|
      State.takeRecord s.nextNumber
        { seq := s.store.seq, type := type, rest := rest, offered := s.seconds, bound := bound,
          priority := priority, saturated := saturated }

/-! ## The accountant's requests (R167) -/

/-- R167: the entry a file is opened in: the lowest EMPTY entry that is neither reserved nor the subject of a
pending step. -/
def State.openEntry (s : State) : Option (Fin 32) :=
  entryList.find? fun e => (s.dir e).state == .empty && !(s.aux e).reserved && (s.aux e).steps.isEmpty

/-- R168: the records bound to the next file are bound to the file that has become current. -/
def State.bindNext (s : State) (e : Fin 32) : State :=
  { s with store := { s.store with
      queue := s.store.queue.map fun r => if r.bound = .next then { r with bound := .file e } else r
      current := some e, nextGapDue := false } }

/-- R167, Open: an entry is reserved, its writing requested, and it becomes the current file. -/
def State.reserve (s : State) (e : Fin 32) (shift : Serial) : State :=
  State.runStore <|
    State.bindNext
      (s.nextNumber.setAux e
        { reserved := true, steps := [(.opened shift, s.store.seq)], base := s.seconds, gapDue := s.store.nextGapDue }) e

/-- R173: no entry can be had for a file: STORE FULL is raised, and the records bound to it, the next file, are dropped
with no flag to set. For each, the clear of JOURNAL GAP that an empty queue asks for comes before its raise (DESIGN CHOICE, log
entry 68). -/
def State.openFails (s : State) : State :=
  let s1 := State.ask { s with store := { s.store with current := none } } (.raise .storeFull 255)
  (s1.store.queue.filter fun r => r.bound == .next).foldl
    (fun t r => (t.dequeue fun q => q.seq == r.seq).dropRecord { r with bound := .unopened }) s1

/-- R167, R173: a file is asked for; the accountant learns the entry, or that none could be had. -/
def State.openFile (s : State) (shift : Serial) : State × Option (Fin 32) :=
  match s.openEntry with
  | some e => (s.reserve e shift, some e)
  | none =>
    match s.reclaim with
    | none => (s.openFails, none)
    | some s1 =>
      match s1.openEntry with
      | none => (s1.openFails, none)
      | some e => (s1.reserve e shift, some e)

/-- R167: a COLLATING or CLOSED step is requested for a file; ignored where the store has not opened it. -/
def State.requestStep (s : State) (file : Option (Fin 32)) (st : FileStep) : State :=
  match file with
  | none => s
  | some e =>
    if (s.dir e).state = .empty ∧ (s.aux e).reserved = false then s
    else
      State.runStore <|
        s.nextNumber.setAux e
          { s.aux e with steps := (s.aux e).steps ++ [(st, s.store.seq)] }

/-- R167, Resume: the file becomes current with a time base that continues from its age. -/
def State.resumeFile (s : State) (e : Fin 32) (age : Nat) : State :=
  let s1 := State.bindNext (s.setAux e { s.aux e with base := (s.seconds : Int) - age }) e
  let s2 := if s.store.nextGapDue && !(s.dir e).gap then s1.writeDir e { s.dir e with gap := true } else s1
  s2.runStore

/-- R167, Late summary: the count of the entry named is written at once. An entry that is reserved and not yet written
has no count in the map, so a late summary that names its file is not counted there (DESIGN CHOICE, log entry 61). -/
def State.lateSummary (s : State) (file : Option (Fin 32)) : State :=
  match file with
  | none => s
  | some e => if (s.dir e).state = .empty then s else s.writeDir e { s.dir e with late := up16 (s.dir e).late }

end Sys2Proof.Machine
end

