-- ==== Sys2Proof/Machine/Accounts.lean ====
section
/-! DEFINITION. The postings that blocks make to the shift accountant (R151, R152). -/

namespace Sys2Proof.Machine

/-- R151: an accumulator saturates at 4,294,967,295. -/
def add32 (x n : Nat) : Nat := min (x + n) Config.count32

/-- R151: a posting that would carry an accumulator past its end sets the saturation mark. -/
def over32 (x n : Nat) : Bool := decide (Config.count32 < x + n)

/-- The accumulators of a slot. -/
def State.acc (s : State) (i : Fin 4) : SlotAcc := s.accountant.acc[i]

/-- R151: replace a slot's accumulators, setting the saturation mark where asked. -/
def State.setAcc (s : State) (i : Fin 4) (a : SlotAcc) (sat : Bool) : State :=
  { s with accountant := { s.accountant with
      acc := s.accountant.acc.set i a, saturated := s.accountant.saturated || sat } }

/-- R152: mass in grams, through the gram remainder. -/
def State.postMass (s : State) (i : Fin 4) (grams : Nat) : State :=
  let a := s.acc i
  let t := a.gramRem + grams
  s.setAcc i { a with mass := add32 a.mass (t / 1000), gramRem := t % 1000 } (over32 a.mass (t / 1000))

/-- R152: fuel heat in kilojoules, through the kilojoule remainder. -/
def State.postHeat (s : State) (i : Fin 4) (kj : Nat) : State :=
  let a := s.acc i
  let t := a.kjRem + kj
  s.setAcc i { a with heat := add32 a.heat (t / 1000), kjRem := t % 1000 } (over32 a.heat (t / 1000))

/-- R151: running seconds. -/
def State.postRunning (s : State) (i : Fin 4) (n : Nat) : State :=
  let a := s.acc i
  s.setAcc i { a with running := add32 a.running n } (over32 a.running n)

/-- R151: tripped seconds. -/
def State.postTripped (s : State) (i : Fin 4) (n : Nat) : State :=
  let a := s.acc i
  s.setAcc i { a with tripped := add32 a.tripped n } (over32 a.tripped n)

/-- R151: one deviation. -/
def State.postDeviation (s : State) (i : Fin 4) : State :=
  let a := s.acc i
  s.setAcc i { a with deviations := add32 a.deviations 1 } (over32 a.deviations 1)

/-- R109: one diverted item with reason WEIGHT. -/
def State.postDivertedWeight (s : State) (i : Fin 4) : State :=
  let a := s.acc i
  s.setAcc i { a with divertedWeight := add32 a.divertedWeight 1 } (over32 a.divertedWeight 1)

/-- R109: one diverted item with reason FULL. -/
def State.postDivertedFull (s : State) (i : Fin 4) : State :=
  let a := s.acc i
  s.setAcc i { a with divertedFull := add32 a.divertedFull 1 } (over32 a.divertedFull 1)

/-- R109: one item lost in gate. -/
def State.postLost (s : State) (i : Fin 4) : State :=
  let a := s.acc i
  s.setAcc i { a with lostInGate := add32 a.lostInGate 1 } (over32 a.lostInGate 1)

/-- R109: one jam. -/
def State.postJam (s : State) (i : Fin 4) : State :=
  let a := s.acc i
  s.setAcc i { a with jams := add32 a.jams 1 } (over32 a.jams 1)

/-- R127: air, Nm³. -/
def State.postAir (s : State) (i : Fin 4) (n : Nat) : State :=
  let a := s.acc i
  s.setAcc i { a with air := add32 a.air n } (over32 a.air n)

/-- R127: recovered heat, MJ. -/
def State.postRecovered (s : State) (i : Fin 4) (n : Nat) : State :=
  let a := s.acc i
  s.setAcc i { a with recovered := add32 a.recovered n } (over32 a.recovered n)

/-- R127: forced seconds. -/
def State.postForced (s : State) (i : Fin 4) (n : Nat) : State :=
  let a := s.acc i
  s.setAcc i { a with forced := add32 a.forced n } (over32 a.forced n)

/-- R127: strokes. -/
def State.postStrokes (s : State) (i : Fin 4) (n : Nat) : State :=
  let a := s.acc i
  s.setAcc i { a with strokes := add32 a.strokes n } (over32 a.strokes n)

/-- R123: one flush. -/
def State.postFlush (s : State) (i : Fin 4) : State :=
  let a := s.acc i
  s.setAcc i { a with flushes := add32 a.flushes 1 } (over32 a.flushes 1)

/-- R127: flush seconds. -/
def State.postFlushSeconds (s : State) (i : Fin 4) (n : Nat) : State :=
  let a := s.acc i
  s.setAcc i { a with flushSeconds := add32 a.flushSeconds n } (over32 a.flushSeconds n)

/-- R152: the station's clinker, through the clinker remainder of 0.00001 kg. -/
def State.postClinker (s : State) (n : Nat) : State :=
  let t := s.accountant.clinkerRem + n
  { s with accountant := { s.accountant with
      clinker := add32 s.accountant.clinker (t / 100000), clinkerRem := t % 100000,
      saturated := s.accountant.saturated || over32 s.accountant.clinker (t / 100000) } }

/-- R147: one own raise of a class from 1 to 4. -/
def State.postRaise (s : State) (cls : Nat) : State :=
  let k : Fin 4 := Fin.ofNat 4 (cls - 1)
  let x := s.accountant.raised[k]
  { s with accountant := { s.accountant with
      raised := s.accountant.raised.set k (add32 x 1),
      saturated := s.accountant.saturated || over32 x 1 } }

/-- R147: class-1 active seconds. -/
def State.postClass1 (s : State) (n : Nat) : State :=
  { s with accountant := { s.accountant with
      class1Seconds := add32 s.accountant.class1Seconds n,
      saturated := s.accountant.saturated || over32 s.accountant.class1Seconds n } }

end Sys2Proof.Machine
end

