-- ==== Sys2Proof/Machine/Drive.lean ====
section
/-! DEFINITION. The output stage: drive counts, latches and the drive stream (R52 to R54, R70 to R74). -/

namespace Sys2Proof.Machine

/-- A ratio rounded to the nearest whole number, a value exactly halfway taken to the greater (toward +∞). -/
def roundRatio (num den : Int) : Int := (2 * num + den) / (2 * den)

/-- R52, R53: the drive count of a target `x` against a full scale `f`, with gain `g` and offset `o`. -/
def driveCount (x f : Nat) (g o : Int) : Nat :=
  let x' := min x f
  if x' = 0 then 0
  else
    let den : Int := 2 * 131072 * f
    let num : Int := 2 * 65535 * x' * (131072 + g) + o * 131072 * f
    (min 65535 (max 0 (roundRatio num den))).toNat

/-- R72: the lowest-numbered latch whose pending flag is set. -/
def State.lowestPending (s : State) : Option (Fin 8) := outputList.find? fun o => (s.latch o).pending

/-- R72: whenever the stream is free and a latch is pending, a word begins for the lowest-numbered one. -/
def State.kickStream (s : State) : State :=
  if s.output.streaming && s.output.word.isNone then
    match s.lowestPending with
    | none => s
    | some o =>
      let s1 := s.setLatch o { s.latch o with pending := false }
      { s1 with output := { s1.output with word := some (o, (s.latch o).count) } }
  else s

/-- R70: a count is written; a write that changes it sets the pending flag. -/
def State.writeLatch (s : State) (o : Fin 8) (count : Nat) : State :=
  if (s.latch o).count = count then s
  else State.kickStream (s.setLatch o { s.latch o with count := count, pending := true })

/-- R71: a feed slot that is stopped. -/
def SlotUnit.feedStopped : SlotUnit → Bool
  | .cf c => c.state == .off || c.state == .tripped || c.state == .fault
  | .di d => d.state == .off || d.state == .tripped || d.state == .fault
  | _ => false

/-- R71: a FEED latch holds 0 while its slot is stopped or the trip line is observed asserted. -/
def State.latchHeldAtZero (s : State) (o : Fin 8) : Bool :=
  (s.latch o).kind == .feed &&
    (s.alarms.observed ||
      match (s.latch o).owner with
      | none => true
      | some i => (s.slot i).feedStopped)

/-- R74: while a latch is carried its slot's targets and requests are not taken; the first one after the station has
entered RUN is taken and clears the mark. -/
def State.uncarry (s : State) (o : Fin 8) : State :=
  if (s.latch o).carried then s.setLatch o { s.latch o with carried := false } else s

/-- R70, R71, R74: an owner's count is written to its latch. -/
def State.takeCount (s : State) (o : Fin 8) (count : Nat) : State :=
  if (s.latch o).carried ∧ s.station ≠ .run then s
  else (s.uncarry o).writeLatch o (if s.latchHeldAtZero o then 0 else count)

/-- R54: a slot hands its output a target. -/
def State.handTarget (s : State) (o : Fin 8) (x f : Nat) : State :=
  s.takeCount o (driveCount x f (s.latch o).gain (s.latch o).offset)

/-- R70: a slot hands its output a fallback request. -/
def State.handFallback (s : State) (o : Fin 8) : State := s.takeCount o (s.latch o).fallback

/-- R72: the pending flags of all 8 latches are set. -/
def State.markAllPending (s : State) : State :=
  { s with output := { s.output with latches := s.output.latches.map fun (l : Latch) => { l with pending := true } } }

end Sys2Proof.Machine
end

