-- ==== Sys2Proof/Machine/Heat.lean ====
section
/-! DEFINITION. The heat allocator: actual heat, credit, merit fill, share, holds, ramp and mass target (R36, R42 to R51,
R55 to R59), and the recovered heat of a fan (R115). -/

namespace Sys2Proof.Machine

/-! ## Measured values -/

/-- A scaled value taken as 0 when below 0. -/
def floorZero (v : Int) : Nat := v.toNat

/-- R89: the measured mass of a CF slot: FRESH or HELD, 0 while FAILED. -/
def State.cfMeasured (s : State) (c : CfSlot) : Nat :=
  if s.inputFailed c.par.input then 0 else floorZero (s.input c.par.input).value

/-- R55: the actual heat of a CF slot. -/
def State.cfActual (s : State) (c : CfSlot) : Nat :=
  min Config.heatCap (s.cfMeasured c * s.ncv c.par.fuel / 1000)

/-- R57: the energy of the dropped items whose age is less than the window. -/
def windowEnergy (now windowS : Nat) (h : List (Nat × Nat)) : Nat :=
  ((h.filter fun x => decide (now - x.1 < windowS * 1000)).map Prod.snd).sum

/-- R57: the actual heat of a DI slot. -/
def State.diActual (s : State) (d : DiSlot) : Nat :=
  min Config.heatCap (windowEnergy s.now d.par.windowS d.history / d.par.windowS)

/-- R55, R57: the actual heat of a slot; a cooler slot fires nothing. -/
def State.actualHeat (s : State) : SlotUnit → Nat
  | .cf c => s.cfActual c
  | .di d => s.diActual d
  | _ => 0

/-- R115: the ambient temperature. -/
def State.ambient (s : State) : Int :=
  match s.stationInput .ambient with
  | none => 20
  | some k => if s.inputFailed k then 20 else (s.input k).value

/-- R117: the measured flow of a fan, 0 while the input is FAILED. -/
def State.caFlow (s : State) (a : CaSlot) : Nat :=
  if s.inputFailed a.par.flowInput then 0 else floorZero (s.input a.par.flowInput).value

/-- R115: the recovered heat of some air flow at a temperature above ambient. -/
def recoveredKw (flow : Nat) (above : Int) : Nat := min Config.heatCap (flow * 130 * floorZero above / 10000)

/-- R115: the recovered heat Q of a CA slot. -/
def State.recoveredHeat (s : State) (a : CaSlot) : Nat :=
  match a.par.tempInput with
  | none => 0
  | some k =>
    if s.inputFailed a.par.flowInput || s.inputFailed k then 0
    else recoveredKw (s.caFlow a) ((s.input k).value - s.ambient)

/-! ## The effective target (R36) -/

/-- R36: the step of the effective target. -/
def slewStep (rate period : Nat) : Nat := rate * period / 1000

/-- R36: the effective target moved toward the adopted one by at most a step. -/
def slewTarget (t adopted step : Nat) : Nat :=
  if t ≤ adopted then min adopted (t + step) else max adopted (t - step)

/-! ## Credit, fill, share, ramp, mass (R42 to R51) -/

/-- R42: the recovered heat a slot of the station adds to the credit. -/
def State.slotCredit (s : State) : SlotUnit → Nat
  | .ca a => if a.par.recuperating then s.recoveredHeat a else 0
  | _ => 0

/-- R42: the recovered heat a peer entry adds to the credit; a grate entry and an entry whose recuperation flag is clear
add nothing. -/
def PeerEntry.credit (e : PeerEntry) : Nat :=
  match e.body with
  | .air role recuperating q _ _ _ => if role = 0 ∧ recuperating = true then q else 0
  | .feed .. => 0

/-- A quantity summed over the station's slots. -/
def State.slotSum (s : State) (f : SlotUnit → Nat) : Nat := f (s.slot 0) + f (s.slot 1) + f (s.slot 2) + f (s.slot 3)

/-- R42: the credit C. -/
def State.credit (s : State) : Nat :=
  min Config.sumCap ((s.picture.entries.map PeerEntry.credit).sum + s.slotSum s.slotCredit)

/-- R43: the cap on the credit. -/
def creditCap (t capPct : Nat) : Nat := t * capPct / 100

/-- R43: the effective credit. -/
def effectiveCredit (c t capPct : Nat) : Nat := min c (creditCap t capPct)

/-- cap_pct. -/
def State.capPct (s : State) : Nat :=
  match s.cfg with
  | none => 0
  | some c => c.capPct

/-- R43: the required fuel heat R. -/
def State.required (s : State) : Nat :=
  s.picture.target - effectiveCredit s.credit s.picture.target s.capPct

/-- R44: the merit key. -/
structure MeritKey where
  rank : Nat
  station : Nat
  channel : Nat
deriving DecidableEq, Repr

/-- R44: rank first, then station, then channel. -/
def MeritKey.lt (a b : MeritKey) : Bool :=
  decide (a.rank < b.rank ∨ (a.rank = b.rank ∧ (a.station < b.station ∨ (a.station = b.station ∧ a.channel < b.channel))))

/-- R44: the key of a feed entry. -/
def PeerEntry.meritKey (e : PeerEntry) : Option MeritKey :=
  match e.body with
  | .feed _ _ _ rank _ _ => some { rank := rank, station := e.station, channel := e.channel }
  | .air .. => none

/-- The actual heat a feed entry published. -/
def PeerEntry.actual (e : PeerEntry) : Nat :=
  match e.body with
  | .feed a _ _ _ _ _ => a
  | .air .. => 0

/-- R44: the key of a feed slot of the station. -/
def State.slotKey (s : State) (i : Fin 4) : Option MeritKey :=
  match s.slot i with
  | .cf c => some { rank := c.par.rank, station := s.ownNumber, channel := i.val }
  | .di d => some { rank := d.par.rank, station := s.ownNumber, channel := i.val }
  | _ => none

/-- R44: whether a key is present and smaller. -/
def keyAhead (k : MeritKey) : Option MeritKey → Bool
  | none => false
  | some j => j.lt k

/-- R44: the merit fill B of a key. -/
def State.meritFill (s : State) (k : MeritKey) : Nat :=
  min Config.sumCap
    ((s.picture.entries.map fun e => if keyAhead k e.meritKey then e.actual else 0).sum +
      (slotList.map fun i => if keyAhead k (s.slotKey i) then s.actualHeat (s.slot i) else 0).sum)

/-- R46: the share of a slot that is running. -/
def shareOf (a : Int) (minHeat maxHeat : Nat) : Nat :=
  if a ≤ 0 then 0
  else if a < minHeat then minHeat
  else min a.toNat maxHeat

/-- R48: the step of a ramp. -/
def rampStep (rate period : Nat) : Nat := if rate = 0 then 0 else max 1 (rate * period / 1000)

/-- R48: the commanded heat after an update. -/
def rampHeat (h share up down : Nat) (held : Bool) : Nat :=
  if share = h then h
  else if h < share then (if held then h else if share - h ≤ up then share else h + up)
  else if h - share ≤ down then share else h - down

/-- R51: the mass target of a commanded heat. -/
def massTarget (h ncv scale : Nat) : Nat := min scale (roundRatio (h * 1000) ncv).toNat

/-- R47: the holds that stand for a slot. -/
def State.holdsOf (s : State) : SlotUnit → HoldCauses
  | .cf c => { picture := s.pictureHold, class2 := s.class2Stands, flush := s.localFlush, deviation := c.deviated }
  | _ => { picture := s.pictureHold, class2 := s.class2Stands, flush := s.localFlush, deviation := false }

/-- R47: the slot is held when any of the four stands. -/
def HoldCauses.any (h : HoldCauses) : Bool := h.picture || h.class2 || h.flush || h.deviation

/-- R46: the states in which a share is formed. -/
def SlotUnit.sharing : SlotUnit → Bool
  | .cf c => c.state == .dosing || c.state == .hold || c.state == .starting
  | .di d => d.state == .dosing || d.state == .hold
  | _ => false

/-- R41 to R51: the allocation record that an update forms for a feed slot; `scale` is the mass full scale of a CF
slot and 0 for a DI slot, whose record has no mass target. -/
def State.formRecord (s : State) (i : Fin 4) (k : MeritKey) (old : AllocRec)
    (minHeat maxHeat rampUp rampDown ncv scale : Nat) : AllocRec :=
  let u := s.slot i
  let b := s.meritFill k
  let a : Int := (s.required : Int) - b
  let share := if u.sharing then shareOf a minHeat maxHeat else 0
  let causes := s.holdsOf u
  let h := rampHeat old.heat share (rampStep rampUp s.period) (rampStep rampDown s.period) causes.any
  { credit := s.credit, effective := effectiveCredit s.credit s.picture.target s.capPct, required := s.required,
    fill := b, remainder := a, share := share, heat := h, held := causes.any, causes := causes,
    mass := massTarget h ncv scale }

/-- The unit of a slot with the record this update forms for it. -/
def State.withRecord (s : State) (i : Fin 4) : SlotUnit :=
  match s.slot i with
  | .cf c =>
    let r := s.formRecord i { rank := c.par.rank, station := s.ownNumber, channel := i.val } c.alloc c.par.minHeat
      c.par.maxHeat c.par.rampUp c.par.rampDown (s.ncv c.par.fuel) c.par.massScale
    .cf { c with alloc := r }
  | .di d =>
    let r := s.formRecord i { rank := d.par.rank, station := s.ownNumber, channel := i.val } d.alloc d.par.minHeat
      d.par.maxHeat d.par.rampUp d.par.rampDown (s.ncv d.par.fuel) 0
    .di { d with alloc := r }
  | u => u

/-- R41: the records of all feed slots, each formed from the state before any of them is written. R39 and R41 have the
allocator compute every feed slot at every update; R76 lets a CF slot take part in RUN alone. The model forms the record
at updates in LISTEN and COMMISSION too, where no slot shares and H stays 0 (DESIGN CHOICE, log entry 34). -/
def State.allocate (s : State) : State :=
  { s with channels := { s.channels with slots := #v[s.withRecord 0, s.withRecord 1, s.withRecord 2, s.withRecord 3] } }

/-! ## The floor's total (R58, R59, R111) -/

/-- R59, R111: the actual heat of every feed entry and every feed slot. -/
def State.totalHeat (s : State) : Nat :=
  min Config.sumCap ((s.picture.entries.map PeerEntry.actual).sum + s.slotSum s.actualHeat)

/-- R58: whether a key is present and greater. -/
def keyBehind (k : MeritKey) : Option MeritKey → Bool
  | none => false
  | some j => k.lt j

/-- R58: the greatest merit key of the floor in this view belongs to a slot of the station. -/
def State.holdsGreatestKey (s : State) : Bool :=
  slotList.any fun i =>
    match s.slotKey i with
    | none => false
    | some k =>
      s.picture.entries.all (fun e => !keyBehind k e.meritKey) && slotList.all fun j => !keyBehind k (s.slotKey j)

/-- R59: above band. -/
def aboveBand (total required tol : Nat) : Bool := decide (required * (100 + tol) < total * 100)

/-- R59: below band. -/
def belowBand (total required tol : Nat) : Bool := decide (total * 100 < required * (100 - tol))

end Sys2Proof.Machine
end

