-- ==== Sys2Proof/Machine/Publish.lean ====
section
/-! DEFINITION. The heat and air notices a slot offers (R87, R108, R126). -/

namespace Sys2Proof.Machine

/-- R87: the heat notice of a CF slot, from the values as they stand. -/
def State.cfNotice (s : State) (i : Fin 4) (c : CfSlot) : Notice :=
  .heat i.val c.par.rank c.par.fuel.val c.state.code (s.cfActual c) c.alloc.heat (!s.inputFresh c.par.input) false

/-- R108: the heat notice of a DI slot. -/
def State.diNotice (s : State) (i : Fin 4) (d : DiSlot) : Notice :=
  .heat i.val d.par.rank d.par.fuel.val d.state.code (s.diActual d) d.alloc.heat false (s.stands .feedStarved i.val)

/-- R126: the air notice of a CA slot. -/
def State.caNotice (s : State) (i : Fin 4) (a : CaSlot) : Notice :=
  .air i.val 0 a.par.recuperating s.localFlush a.state.code (s.recoveredHeat a) (min 65535 (s.caFlow a))
    s.channels.estimate

/-- R126: the air notice of the CG slot. -/
def State.cgNotice (s : State) (i : Fin 4) (g : CgSlot) : Notice :=
  .air i.val 1 false (g.state == .flush) g.state.code 0 0 s.channels.estimate

/-- R87, R108, R126: a slot offers its notice. -/
def State.publish (s : State) (i : Fin 4) : State :=
  match s.slot i with
  | .unused => s
  | .cf c => s.offer (s.cfNotice i c)
  | .di d => s.offer (s.diNotice i d)
  | .ca a => s.offer (s.caNotice i a)
  | .cg g => s.offer (s.cgNotice i g)

/-- R88: inside an update or the entry to RUN, a slot has offered a notice. -/
def State.markNoticed (s : State) (i : Fin 4) : State :=
  if s.channels.updating then
    { s with channels := { s.channels with noticed := s.channels.noticed.set i true } }
  else s

/-- R87, R88: a change of state offers a notice at once, as the values then stand; each change is a separate offer. -/
def State.noteChange (s : State) (i : Fin 4) : State := (s.markNoticed i).publish i

/-- R88, R126: the slot has left OFF or STOPPED at this update. -/
def State.markLeft (s : State) (i : Fin 4) : State :=
  { s with channels := { s.channels with leftOff := s.channels.leftOff.set i true } }

end Sys2Proof.Machine
end

