-- ==== Sys2Proof/Machine/Fuel.lean ====
section
/-! DEFINITION. The continuous fuel slot: its states, its start test and its deviation supervision (R76 to R86). -/

namespace Sys2Proof.Machine

/-- R49, R85: a CF slot as it stands in OFF, TRIPPED or FAULT: share, commanded heat and mass target 0, timer and
supervision ended. -/
def CfSlot.stopped (c : CfSlot) (st : CfState) : CfSlot :=
  { c with state := st, alloc := { c.alloc with share := 0, heat := 0, mass := 0 },
           startDue := none, deviated := false, raiseRun := none, clearRun := none }

/-- R49, R71, R82 to R84: a CF slot enters OFF, TRIPPED or FAULT. -/
def State.cfStop (s : State) (i : Fin 4) (c : CfSlot) (st : CfState) : State :=
  let s1 := State.handTarget (s.setSlot i (.cf (c.stopped st))) c.par.output 0 c.par.massScale
  let s2 := if c.deviated then s1.ask (.clear .feedDeviation i.val) else s1
  s2.noteChange i

/-- R82: the states a trip cause stops. -/
def CfState.runs : CfState → Bool
  | .starting => true
  | .dosing => true
  | .hold => true
  | _ => false

/-- R82: the alarm unit's report of the trip cause to a CF slot. -/
def State.cfTrip (s : State) (i : Fin 4) (c : CfSlot) : State :=
  if s.tripCause i then (if c.state.runs then s.cfStop i c .tripped else s)
  else if c.state = .tripped then s.cfStop i c .off else s

/-- R77: the start condition of a CF slot. -/
def State.cfMayStart (s : State) (i : Fin 4) (c : CfSlot) : Bool :=
  s.station == .run && s.permit i && s.picture.order.isSome && !s.tripCause i && !s.inputFailed c.par.input

/-- R78: OFF passes to STARTING at an update at which the start condition holds. -/
def State.cfPassage (s : State) (i : Fin 4) (c : CfSlot) : State :=
  if c.state = .off ∧ s.cfMayStart i c = true then
    State.markLeft
      (State.noteChange
        (s.setSlot i (.cf { c with state := .starting, startDue := some (s.now + c.par.startTime * 1000), publish := 0 })) i) i
  else s

/-- R79: the start test, after the mass target has been formed. -/
def State.cfStartTest (s : State) (i : Fin 4) (c : CfSlot) : State :=
  if c.alloc.mass = 0 then s.setSlot i (.cf { c with startDue := some (s.now + c.par.startTime * 1000) })
  else if c.alloc.mass ≤ s.cfMeasured c * 2 then
    State.noteChange
      (s.setSlot i (.cf { c with state := if c.alloc.held then .hold else .dosing, startDue := none,
                                 deviated := false, raiseRun := none, clearRun := none })) i
  else s

/-- R81: the hold verdict moves a running slot between DOSING and HOLD. -/
def State.cfVerdict (s : State) (i : Fin 4) (c : CfSlot) : State :=
  if c.state = .dosing ∧ c.alloc.held = true then State.noteChange (s.setSlot i (.cf { c with state := .hold })) i
  else if c.state = .hold ∧ c.alloc.held = false then State.noteChange (s.setSlot i (.cf { c with state := .dosing })) i
  else s

/-- R85: the measured mass is out of band. -/
def massOutOfBand (measured m devPct devAbs : Nat) : Bool :=
  decide (max (devPct * m) (devAbs * 100) < (max measured m - min measured m) * 100)

/-- R85: deviation supervision at an update in DOSING or HOLD. -/
def State.cfSupervise (s : State) (i : Fin 4) (c : CfSlot) : State :=
  let out := massOutOfBand (s.cfMeasured c) c.alloc.mass c.par.devPct c.par.devAbs
  let length := c.par.devTime * 1000
  if c.deviated then
    let run := nextRun (!out) s.now c.clearRun
    if ranFor s.now length run then
      State.ask (s.setSlot i (.cf { c with deviated := false, raiseRun := none, clearRun := none }))
        (.clear .feedDeviation i.val)
    else s.setSlot i (.cf { c with clearRun := run })
  else
    let run := nextRun out s.now c.raiseRun
    if ranFor s.now length run then
      State.postDeviation
        (State.ask (s.setSlot i (.cf { c with deviated := true, raiseRun := none, clearRun := none }))
          (.raise .feedDeviation i.val)) i
    else s.setSlot i (.cf { c with raiseRun := run })

/-- The CF slot in a slot, with an operation on it; any other unit is left alone. -/
def State.onCf (s : State) (i : Fin 4) (f : CfSlot → State) : State :=
  match s.slot i with
  | .cf c => f c
  | _ => s

/-- R50, R79, R81, R85: what a CF slot does with the record an update has formed. R85 does not say whether the update
at which the slot enters DOSING or HOLD from STARTING makes the first band test: the model makes it at that same update
(DESIGN CHOICE, log entry 42). -/
def State.cfHandOn (s : State) (i : Fin 4) : State :=
  let s1 := s.onCf i fun c => s.handTarget c.par.output c.alloc.mass c.par.massScale
  let s2 := s1.onCf i fun c => if c.state = .starting then s1.cfStartTest i c else s1.cfVerdict i c
  s2.onCf i fun c => if c.state = .dosing ∨ c.state = .hold then s2.cfSupervise i c else s2

/-- R84: FAULT is left when the permit is not asserted and the mass input is FRESH. -/
def State.cfLeaveFault (s : State) (i : Fin 4) (c : CfSlot) : State :=
  if c.state = .fault ∧ s.permit i = false ∧ s.inputFresh c.par.input = true then
    State.cfStop (s.ask (.clear .feedFailedToStart i.val)) i c .off
  else s

/-- R83, R84: the falling edge of the permit of a CF slot. -/
def State.cfPermitFalls (s : State) (i : Fin 4) (c : CfSlot) : State :=
  if c.state.runs || c.state == .tripped then s.cfStop i c .off else s.cfLeaveFault i c

/-- R84: the mass input of a CF slot has passed to FAILED. -/
def State.cfInputFailed (s : State) (i : Fin 4) (c : CfSlot) : State :=
  if s.station = .run ∧ c.state ≠ .fault then s.cfStop i c .fault else s

/-- R89: mass and heat are posted at each update in RUN, through the carries. -/
def State.cfPostAmounts (s : State) (i : Fin 4) : State :=
  s.onCf i fun c =>
    let m := c.massCarry + s.cfMeasured c * s.period
    let h := c.heatCarry + s.cfActual c * s.period
    State.postHeat
      (State.postMass (s.setSlot i (.cf { c with massCarry := m % 1000, heatCarry := h % 1000 })) i (m / 1000)) i (h / 1000)

/-- R90: the time of one period is posted by the state in which the slot stood as the update arrived. -/
def State.cfPostTime (s : State) (i : Fin 4) (arrived : CfState) : State :=
  s.onCf i fun c =>
    let t := c.timeCarry + s.period
    let s1 := s.setSlot i (.cf { c with timeCarry := t % 1000 })
    match arrived with
    | .dosing => s1.postRunning i (t / 1000)
    | .hold => s1.postRunning i (t / 1000)
    | .tripped => s1.postTripped i (t / 1000)
    | _ => s

end Sys2Proof.Machine
end

