-- ==== Sys2Proof/Machine/Items.lean ====
section
/-! DEFINITION. The item fuel slot: the item queue, the heat debt, the gate cycle, interruptions and the slot's states
(R92 to R109). -/

namespace Sys2Proof.Machine

/-! ## Records of a DI slot -/

/-- R105: the slot stands in DOSING or HOLD. -/
def DiSlot.runs (d : DiSlot) : Bool := d.state == .dosing || d.state == .hold

/-- R95: the call line after a change of the queue count. -/
def DiSlot.callAfter (d : DiSlot) : DiSlot :=
  if d.runs then
    if d.queue.length ≤ d.par.lowWater then { d with call := true }
    else if d.par.highWater ≤ d.queue.length then { d with call := false }
    else d
  else { d with call := false }

/-- R95: the call line on entry into DOSING or HOLD from another state. -/
def DiSlot.callOnEntry (d : DiSlot) : DiSlot := { d with call := decide (d.queue.length ≤ d.par.lowWater) }

/-- R98: the gate enters a state: its flap commands, and the phase timer of a waiting state. -/
def DiSlot.enterGate (d : DiSlot) (now : Nat) (g : GateState) : DiSlot :=
  let due := some (now + d.par.phaseTimeout * 1000)
  match g with
  | .ready => { d with gate := { d.gate with state := .ready, upperOpenCmd := false, lowerOpenCmd := false, phaseDue := none } }
  | .upperOpening =>
    { d with gate := { d.gate with state := .upperOpening, upperOpenCmd := true, lowerOpenCmd := false, phaseDue := due } }
  | .upperClosing =>
    { d with gate := { d.gate with state := .upperClosing, upperOpenCmd := false, lowerOpenCmd := false, phaseDue := due } }
  | .lowerOpening =>
    { d with gate := { d.gate with state := .lowerOpening, upperOpenCmd := false, lowerOpenCmd := true, phaseDue := due } }
  | .lowerClosing =>
    { d with gate := { d.gate with state := .lowerClosing, upperOpenCmd := false, lowerOpenCmd := false, phaseDue := due } }
  | .jammed => { d with gate := { d.gate with state := .jammed, phaseDue := none } }

/-- R100: a flap shows its open and closed confirmations active together. -/
def Gate.conflict (g : Gate) : Bool := (g.upperOpen && g.upperClosed) || (g.lowerOpen && g.lowerClosed)

/-- R56: an item joins the dropped-item history; a full ring forgets its oldest. -/
def addHistory (h : List (Nat × Nat)) (x : Nat × Nat) : List (Nat × Nat) :=
  if h.length < Config.historySize then h ++ [x] else h.drop 1 ++ [x]

/-- R96: the ceiling of the heat debt. -/
def DiParams.ceiling (p : DiParams) : Nat := 2 * p.maxItemEnergy

/-- R96: the heat debt after an update. -/
def debtAfter (debt heat period ceiling : Nat) : Nat :=
  if heat = 0 then 0 else min ceiling (debt + heat * period / 1000)

/-! ## Operations on the slot in the state -/

/-- The DI slot in a slot, with an operation on it; any other unit is left alone. -/
def State.onDi (s : State) (i : Fin 4) (f : DiSlot → State) : State :=
  match s.slot i with
  | .di d => f d
  | _ => s

/-- R104: FEED STARVED is cleared while it stands. -/
def State.clearStarved (s : State) (i : Fin 4) : State :=
  if s.stands .feedStarved i.val then s.ask (.clear .feedStarved i.val) else s

/-- R49, R96, R105, R106: a DI slot enters OFF, TRIPPED or FAULT. -/
def State.diStop (s : State) (i : Fin 4) (d : DiSlot) (st : DiState) : State :=
  State.noteChange
    (State.clearStarved
      (s.setSlot i (.di { d with state := st, debt := 0, call := false,
                                 alloc := { d.alloc with share := 0, heat := 0 } })) i) i

/-- R100: the gate enters JAMMED; an item in it is lost. R100 speaks of the gate item and R103 gives a chamber item's
exits without this one: a chamber item of a gate in READY that conflicting confirmations jam is counted lost and cleared
likewise (DESIGN CHOICE, log entry 36). The jams counter, to which no rule gives a range, stays at 4,294,967,295 as the item
counters of R107 do (DESIGN CHOICE, log entry 57). -/
def State.gateJam (s : State) (i : Fin 4) (d : DiSlot) : State :=
  let lost := d.gate.item.isSome
  let d1 := d.enterGate s.now .jammed
  let d2 := { d1 with
    call := false, gate := { d1.gate with item := none, interrupted := false },
    counters := { d.counters with lost := if lost then up32 d.counters.lost else d.counters.lost,
                                  jams := up32 d.counters.jams } }
  let s1 := State.postJam (s.setSlot i (.di d2)) i
  let s2 := if lost then s1.postLost i else s1
  let s3 := if s2.stands .gateJam i.val then s2 else s2.ask (.raise .gateJam i.val)
  if s.station = .run ∧ d.state ≠ .fault then s3.diStop i d2 .fault else s3

/-- R97, R103: whether the gate may start a cycle at all (R71). -/
def State.gateMayStart (s : State) (d : DiSlot) : Bool :=
  d.runs && !s.alarms.observed && d.gate.state == .ready

/-- R97, R103: a chamber drop, before any item of the queue; otherwise a cycle for the head item. -/
def State.tryStart (s : State) (i : Fin 4) : State :=
  s.onDi i fun d =>
    if s.gateMayStart d then
      match d.gate.item, d.queue with
      | some it, _ =>
        if 0 < d.debt then
          s.setSlot i (.di ({ d with debt := d.debt - it.energy }.enterGate s.now .lowerOpening))
        else s
      | none, it :: rest =>
        if it.energy ≤ d.debt then
          let d1 : DiSlot := { d with queue := rest, debt := d.debt - it.energy, gate := { d.gate with item := some it } }
          s.setSlot i (.di (d1.callAfter.enterGate s.now .upperOpening))
        else s
      | none, [] => s
    else s

/-- R99: the gate item counts as fed. -/
def State.countFed (s : State) (i : Fin 4) (d : DiSlot) : State :=
  match d.gate.item with
  | none => s
  | some it =>
    let d1 := { d with gate := { d.gate with item := none }, history := addHistory d.history (s.now, it.energy),
                       counters := { d.counters with fed := up32 d.counters.fed } }
    State.postHeat (State.postMass (s.setSlot i (.di d1)) i (it.weight * 100)) i it.energy

/-- R101, R106: the gate has entered READY: GATE JAM is cleared, and FAULT is left where the permit is not asserted. -/
def State.gateReady (s : State) (i : Fin 4) (d : DiSlot) : State :=
  let s1 := s.setSlot i (.di (d.enterGate s.now .ready))
  let s2 := if s1.stands .gateJam i.val then s1.ask (.clear .gateJam i.val) else s1
  if d.state = .fault ∧ s.permit i = false then s2.onDi i fun d' => s2.diStop i d' .off else s2

/-- R98 to R103: the gate goes on as far as its confirmations let it at one moment. A waiting state ends when its
confirmation is active; conflicting confirmations jam it first. -/
def State.gateRun : Nat → State → Fin 4 → State
  | 0, s, _ => s
  | n + 1, s, i =>
    s.onDi i fun d =>
      if d.gate.state ≠ .jammed ∧ d.gate.conflict = true then s.gateJam i d
      else
        match d.gate.state with
        | .upperOpening =>
          if d.gate.upperOpen then State.gateRun n (s.setSlot i (.di (d.enterGate s.now .upperClosing))) i else s
        | .upperClosing =>
          if d.gate.upperClosed then
            if d.gate.interrupted then
              let d1 := { d with gate := { d.gate with interrupted := false } }
              State.gateRun n (State.tryStart (s.gateReady i d1) i) i
            else State.gateRun n (s.setSlot i (.di (d.enterGate s.now .lowerOpening))) i
          else s
        | .lowerOpening =>
          if d.gate.lowerOpen then
            let s1 := s.countFed i d
            State.gateRun n (s1.onDi i fun d1 => s1.setSlot i (.di (d1.enterGate s.now .lowerClosing))) i
          else s
        | .lowerClosing =>
          if d.gate.upperClosed && d.gate.lowerClosed then State.gateRun n (State.tryStart (s.gateReady i d) i) i else s
        | _ => s

/-- The gate goes on (R98); more steps than one moment can hold. -/
def State.gateGo (s : State) (i : Fin 4) : State := s.gateRun 16 i

/-- R102: a cycle in progress is interrupted. -/
def State.interrupt (s : State) (i : Fin 4) : State :=
  s.onDi i fun d =>
    match d.gate.state with
    | .upperOpening =>
      let d1 := d.enterGate s.now .upperClosing
      State.gateGo (s.setSlot i (.di { d1 with gate := { d1.gate with interrupted := true } })) i
    | .upperClosing => s.setSlot i (.di { d with gate := { d.gate with interrupted := true } })
    | _ => s

/-- R102, R105: a DI slot enters OFF or TRIPPED and interrupts its cycle. -/
def State.diLeave (s : State) (i : Fin 4) (d : DiSlot) (st : DiState) : State := (s.diStop i d st).interrupt i

/-- R105: the alarm unit's report of the trip cause to a DI slot. -/
def State.diTrip (s : State) (i : Fin 4) (d : DiSlot) : State :=
  if s.tripCause i then (if d.runs then s.diLeave i d .tripped else s)
  else if d.state = .tripped then s.diLeave i d .off else s

/-- R105: the start condition of a DI slot. -/
def State.diMayStart (s : State) (i : Fin 4) (d : DiSlot) : Bool :=
  s.station == .run && s.permit i && s.picture.order.isSome && !s.tripCause i && d.gate.state != .jammed

/-- R105: OFF passes to DOSING at an update at which the start condition holds. The passage's notice follows the hold
verdict of the same update (`State.diVerdict`). -/
def State.diPassage (s : State) (i : Fin 4) (d : DiSlot) : State :=
  if d.state = .off ∧ s.diMayStart i d = true then
    let d1 : DiSlot := { d with state := .dosing, publish := 0 }
    State.markLeft (s.setSlot i (.di d1.callOnEntry)) i
  else s

/-- R105, R81: the hold verdict moves a running slot between DOSING and HOLD. A slot that has left OFF at this update
offers the one notice of its passage here (R105, log entry 21). -/
def State.diVerdict (s : State) (i : Fin 4) (d : DiSlot) : State :=
  if d.state = .dosing ∧ d.alloc.held = true then State.noteChange (s.setSlot i (.di { d with state := .hold })) i
  else if d.state = .hold ∧ d.alloc.held = false then State.noteChange (s.setSlot i (.di { d with state := .dosing })) i
  else if d.runs ∧ s.channels.leftOff[i] = true then s.noteChange i
  else s

/-- R96, R104: the heat debt is written at an update; FEED STARVED is raised at the ceiling with an empty queue and
cleared when the debt is set to 0. -/
def State.diDebt (s : State) (i : Fin 4) (d : DiSlot) : State :=
  let debt := debtAfter d.debt d.alloc.heat s.period d.par.ceiling
  let s1 := s.setSlot i (.di { d with debt := debt })
  if d.alloc.heat = 0 then s1.clearStarved i
  else if debt = d.par.ceiling ∧ d.queue = [] ∧ s.stands .feedStarved i.val = false then
    s1.ask (.raise .feedStarved i.val)
  else s1

/-- R50, R96, R97, R105: what a DI slot does with the record an update has formed. -/
def State.diHandOn (s : State) (i : Fin 4) : State :=
  let s1 := s.onDi i fun d => s.diVerdict i d
  let s2 := s1.onDi i fun d => s1.diDebt i d
  (s2.tryStart i).gateGo i

/-- R105, R106: the falling edge of the permit of a DI slot. -/
def State.diPermitFalls (s : State) (i : Fin 4) (d : DiSlot) : State :=
  if d.runs || d.state == .tripped then s.diLeave i d .off
  else if d.state = .fault ∧ d.gate.state = .ready then s.diStop i d .off
  else s

/-- R94: a diversion: its counters, its posting and the divert pulse. -/
def State.divert (s : State) (i : Fin 4) (d : DiSlot) (full : Bool) : State :=
  let d1 := { d with
    divertDue := some (s.now + d.par.divertMs),
    counters := { d.counters with
      diverted := up32 d.counters.diverted,
      divertedWeight := if full then d.counters.divertedWeight else up32 d.counters.divertedWeight,
      divertedFull := if full then up32 d.counters.divertedFull else d.counters.divertedFull } }
  let s1 := s.setSlot i (.di d1)
  if full then s1.postDivertedFull i else s1.postDivertedWeight i

/-- R93: the item made from an item-weighed event. -/
def State.makeItem (s : State) (d : DiSlot) (weight : Nat) : Item :=
  { weight := weight, fuel := d.par.fuel, energy := weight * s.ncv d.par.fuel / 10, arrival := s.now }

/-- R94: an item is appended at the tail; FEED STARVED is cleared, and an append to an empty queue is a change that
R97 examines. -/
def State.appendItem (s : State) (i : Fin 4) (d : DiSlot) (it : Item) : State :=
  let d1 : DiSlot := { d with queue := d.queue ++ [it] }
  let s1 := State.clearStarved (s.setSlot i (.di d1.callAfter)) i
  if d.queue.isEmpty then (s1.tryStart i).gateGo i else s1

/-- R94: a DI slot takes an item-weighed event. -/
def State.itemWeighed (s : State) (i : Fin 4) (weight : Nat) : State :=
  s.onDi i fun d =>
    let d1 := { d with counters := { d.counters with weighed := up32 d.counters.weighed } }
    if weight < d.par.minItem ∨ d.par.maxItem < weight then s.divert i d1 false
    else if d.queue.length = Config.itemQueueSize then s.divert i d1 true
    else s.appendItem i d1 (s.makeItem d weight)

/-- R98: the level of one position confirmation. -/
def Gate.withSwitch (g : Gate) (sw : GateSwitch) (level : Bool) : Gate :=
  match sw with
  | .upperOpen => { g with upperOpen := level }
  | .upperClosed => { g with upperClosed := level }
  | .lowerOpen => { g with lowerOpen := level }
  | .lowerClosed => { g with lowerClosed := level }

/-- R98: a confirmation edge or initial level is delivered. -/
def State.confirm (s : State) (i : Fin 4) (sw : GateSwitch) (level : Bool) : State :=
  s.onDi i fun d => State.gateGo (s.setSlot i (.di { d with gate := d.gate.withSwitch sw level })) i

/-- R109, R90: the time of one period is posted by the state in which the slot stood as the update arrived. -/
def State.diPostTime (s : State) (i : Fin 4) (arrived : DiState) : State :=
  s.onDi i fun d =>
    let t := d.timeCarry + s.period
    let s1 := s.setSlot i (.di { d with timeCarry := t % 1000 })
    match arrived with
    | .dosing => s1.postRunning i (t / 1000)
    | .hold => s1.postRunning i (t / 1000)
    | .tripped => s1.postTripped i (t / 1000)
    | _ => s

end Sys2Proof.Machine
end

