-- ==== Sys2Proof/Machine/Cooler.lean ====
section
/-! DEFINITION. The cooler: the clinker rate estimate, the fan slot and the grate slot (R111 to R127). -/

namespace Sys2Proof.Machine

/-! ## The clinker rate estimate (R111, R112) -/

/-- R111: a CA or CG slot. -/
def SlotUnit.isCooler : SlotUnit → Bool
  | .ca _ => true
  | .cg _ => true
  | _ => false

/-- R111: the station keeps an estimate. -/
def State.hasCooler (s : State) : Bool := slotList.any fun i => (s.slot i).isCooler

/-- R111: the raw rate. -/
def rawRate (total shc : Nat) : Nat := total * 100 / shc

/-- R112: the decay step. -/
def decayStep (cr decayPm period : Nat) : Nat := cr * decayPm * period / 60000000

/-- R112: the estimate after an update. -/
def moveEstimate (cr raw step : Nat) : Nat := if cr ≤ raw then raw else max raw (cr - step)

/-- R111, R112: the estimate is formed and moved. -/
def State.updateEstimate (s : State) : State :=
  match s.cfg with
  | none => s
  | some g =>
    if s.hasCooler then
      let raw := rawRate s.totalHeat g.shc
      let cr := moveEstimate s.channels.estimate raw (decayStep s.channels.estimate g.decayPm g.period)
      { s with channels := { s.channels with rawRate := raw, estimate := cr } }
    else s

/-! ## The fan slot (R113 to R119) -/

/-- The CA slot in a slot, with an operation on it; any other unit is left alone. -/
def State.onCa (s : State) (i : Fin 4) (f : CaSlot → State) : State :=
  match s.slot i with
  | .ca a => f a
  | _ => s

/-- R114: the boost for an outlet temperature. -/
def boostFor (t : Int) (hotLimit step most : Nat) : Nat :=
  if t ≤ hotLimit then 0 else min most (step * ((t - hotLimit).toNat / 10))

/-- R114: the boost pct. -/
def State.caBoost (s : State) (a : CaSlot) : Nat :=
  match a.par.outletInput with
  | none => 0
  | some k =>
    if s.inputFailed k then a.par.boostMax
    else boostFor (s.input k).value a.par.hotLimit a.par.boostStep a.par.boostMax

/-- R114: the target air. -/
def targetAir (cr specAir boost minAir maxAir : Nat) : Nat :=
  max minAir (min maxAir (roundRatio (cr * specAir * (100 + boost)) 100000).toNat)

/-- R114: the target air and the boost are formed. -/
def State.caForm (s : State) (i : Fin 4) : State :=
  s.onCa i fun a =>
    let pct := s.caBoost a
    let air := targetAir s.channels.estimate a.par.specAir pct a.par.minAir a.par.maxAir
    s.setSlot i (.ca { a with boost := pct, target := air })

/-- R116: the target a fan slot hands in its state; none for a fallback request. -/
def CaSlot.handed (a : CaSlot) : Option Nat :=
  match a.state with
  | .off => none
  | .running => some a.target
  | .forced => some a.par.maxAir
  | .fault => some a.par.maxAir

/-- R116: a fan slot hands the output stage the entry for its state. -/
def State.caHand (s : State) (a : CaSlot) : State :=
  match a.handed with
  | none => s.handFallback a.par.output
  | some x => s.handTarget a.par.output x a.par.airScale

/-- R116 to R118: a fan slot enters a state: its runs end, FAN DEVIATION is raised on FAULT and cleared where R117 and
R118 say, it hands at once, and it offers a notice. -/
def State.caEnter (s : State) (i : Fin 4) (a : CaSlot) (st : CaState) : State :=
  let run := if st = .running ∨ st = .forced then a.responseRun else none
  let a1 : CaSlot :=
    { a with state := st, deviated := false, raiseRun := none, clearRun := none, responseRun := run }
  let s1 := s.setSlot i (.ca a1)
  let s2 :=
    if st = .fault then (if s1.stands .fanDeviation i.val then s1 else s1.ask (.raise .fanDeviation i.val))
    else if (a.state = .running ∧ a.deviated = true) ∨ a.state = .fault then s1.ask (.clear .fanDeviation i.val)
    else s1
  (s2.caHand a1).noteChange i

/-- R115, R116: the forcing causes of a fan slot. -/
def State.caForced (s : State) (a : CaSlot) : Bool := s.localFlush || s.inputFailed a.par.flowInput

/-- R116: a fan slot leaves OFF at an update at which its permit is asserted. -/
def State.caPassage (s : State) (i : Fin 4) : State :=
  s.onCa i fun a =>
    if a.state = .off ∧ s.station = .run ∧ s.permit i = true then
      let a1 : CaSlot := { a with publish := 0 }
      (s.caEnter i a1 (if s.caForced a then .forced else .running)).markLeft i
    else s

/-- R117: the fan does not respond: measured × 100 is less than 20 × the target handed. -/
def fanSilent (measured target : Nat) : Bool := decide (measured * 100 < 20 * target)

/-- R117: the response run at an update in RUNNING or FORCED. -/
def State.caRespond (s : State) (i : Fin 4) : State :=
  s.onCa i fun a =>
    if a.state = .running ∨ a.state = .forced then
      let test := s.inputFresh a.par.flowInput && fanSilent (s.caFlow a) (a.handed.getD 0)
      let run := nextRun test s.now a.responseRun
      if ranFor s.now (a.par.devTime * 1000) run then s.caEnter i a .fault
      else s.setSlot i (.ca { a with responseRun := run })
    else s

/-- R118: the measured flow is out of band. -/
def airOutOfBand (measured target tol : Nat) : Bool :=
  decide (tol * target < (max measured target - min measured target) * 100)

/-- R118: deviation supervision at an update in RUNNING. -/
def State.caSupervise (s : State) (i : Fin 4) : State :=
  s.onCa i fun a =>
    if a.state = .running then
      let out := airOutOfBand (s.caFlow a) a.target a.par.airTol
      let length := a.par.devTime * 1000
      if a.deviated then
        let run := nextRun (!out) s.now a.clearRun
        if ranFor s.now length run then
          State.ask (s.setSlot i (.ca { a with deviated := false, raiseRun := none, clearRun := none }))
            (.clear .fanDeviation i.val)
        else s.setSlot i (.ca { a with clearRun := run })
      else
        let run := nextRun out s.now a.raiseRun
        if ranFor s.now length run then
          State.postDeviation
            (State.ask (s.setSlot i (.ca { a with deviated := true, raiseRun := none, clearRun := none }))
              (.raise .fanDeviation i.val)) i
        else s.setSlot i (.ca { a with raiseRun := run })
    else s

/-- R119: the runs of CLINKER HOT at an update in RUN. -/
def State.caHot (s : State) (i : Fin 4) : State :=
  s.onCa i fun a =>
    match a.par.outletInput with
    | none => s
    | some k =>
      if s.inputFailed k then s.setSlot i (.ca { a with hotRaiseRun := none, hotClearRun := none })
      else
        let hot := decide ((a.par.hotLimit : Int) < (s.input k).value)
        if s.stands .clinkerHot i.val then
          let run := nextRun (!hot) s.now a.hotClearRun
          if ranFor s.now 60000 run then
            State.ask (s.setSlot i (.ca { a with hotRaiseRun := none, hotClearRun := none })) (.clear .clinkerHot i.val)
          else s.setSlot i (.ca { a with hotRaiseRun := none, hotClearRun := run })
        else
          let run := nextRun hot s.now a.hotRaiseRun
          if ranFor s.now 60000 run then
            State.ask (s.setSlot i (.ca { a with hotRaiseRun := none, hotClearRun := none })) (.raise .clinkerHot i.val)
          else s.setSlot i (.ca { a with hotRaiseRun := run, hotClearRun := none })

/-- R114 to R119: a fan slot at a control update. R117 and R118 do not say whether the update at which the slot leaves OFF
makes the first tests: the model makes them at that same update (DESIGN CHOICE, log entry 45). Nor do the rules order the
tests of one update: the response test of R117 comes first, so that a slot it sends to FAULT posts no deviation, then R118's,
then CLINKER HOT's (DESIGN CHOICE, log entry 58). -/
def State.caUpdate (s : State) (i : Fin 4) : State :=
  let s1 := s.caForm i
  if s.station = .run then
    let s2 := s1.caPassage i
    let s3 := s2.onCa i fun a => s2.caHand a
    ((s3.caRespond i).caSupervise i).caHot i
  else s1

/-- R116, R117: the falling edge of the permit of a fan slot. -/
def State.caPermitFalls (s : State) (i : Fin 4) (a : CaSlot) : State :=
  if a.state = .off then s else s.caEnter i a .off

/-- R116: the CG slot has entered FLUSH: a fan in RUNNING is forced. -/
def State.caForce (s : State) (i : Fin 4) : State :=
  s.onCa i fun a => if a.state = .running then s.caEnter i a .forced else s

/-- R116: a fan in FORCED with no forcing cause left returns to RUNNING. -/
def State.caRelease (s : State) (i : Fin 4) : State :=
  s.onCa i fun a => if a.state = .forced ∧ s.caForced a = false then s.caEnter i a .running else s

/-! ## The grate slot (R120 to R124) -/

/-- The CG slot in a slot, with an operation on it; any other unit is left alone. -/
def State.onCg (s : State) (i : Fin 4) (f : CgSlot → State) : State :=
  match s.slot i with
  | .cg g => f g
  | _ => s

/-- R120: what the grate slot hands in its state. -/
def State.cgHand (s : State) (g : CgSlot) : State :=
  if g.state = .stopped then s.handFallback g.par.output else s.handTarget g.par.output g.rate g.par.speedScale

/-- R120, R123, R124: the grate slot enters STOPPED, RUNNING or FAULT; a flush it leaves is cleared and the forced fans
are released. A grate that is stopped in FLUSH hands its fallback request first, as R120 has it on entry; the clear of FLUSH, the
grate's notice and the release of the fans in slot order follow. R124 names the request last and orders none of these (DESIGN
CHOICE, log entry 72). -/
def State.cgEnter (s : State) (i : Fin 4) (g : CgSlot) (st : CgState) : State :=
  let g1 : CgSlot := { g with state := st, calmRun := none, rising := if st = .running then g.rising else [] }
  let s1 := (State.cgHand (s.setSlot i (.cg g1)) g1)
  if g.state = .flush then
    State.eachSlot State.caRelease ((s1.ask (.clear .flush i.val)).noteChange i)
  else s1.noteChange i

/-- R123: a flush begins: the grate goes to its greatest rate, FLUSH is raised, one flush is posted and the fans are
forced, in slot order (DESIGN CHOICE, log entry 72). -/
def State.cgFlush (s : State) (i : Fin 4) (g : CgSlot) : State :=
  let g1 := { g with state := .flush, rate := g.par.maxSpeed, rising := [], calmRun := none }
  let s1 := State.cgHand (s.setSlot i (.cg g1)) g1
  State.eachSlot State.caForce (((s1.ask (.raise .flush i.val)).postFlush i).noteChange i)

/-- R120: the grate slot leaves STOPPED at an update at which its permit is asserted. -/
def State.cgPassage (s : State) (i : Fin 4) : State :=
  s.onCg i fun g =>
    if g.state = .stopped ∧ s.station = .run ∧ s.permit i = true then
      let g1 : CgSlot := { g with publish := 0 }
      (s.cgEnter i g1 (if s.inputFailed g.par.input then .fault else .running)).markLeft i
    else s

/-- R123: the entries no older than the window. -/
def risingWithin (now window : Nat) (l : List (Nat × Int)) : List (Nat × Int) :=
  l.dropWhile fun x => decide (x.1 + window * 1000 < now)

/-- R123: the head's pressure has been exceeded by the flush rise. -/
def risenBy (p : Int) (rise : Nat) : List (Nat × Int) → Bool
  | [] => false
  | x :: _ => decide ((rise : Int) ≤ p - x.2)

/-- R123: the list after an update without a flush: entries at or above the pressure leave from the tail, the update is
appended, and of 33 the entry after the head is forgotten. -/
def risingAppend (now : Nat) (p : Int) (l : List (Nat × Int)) : List (Nat × Int) :=
  let kept := (l.reverse.dropWhile fun x => decide (p ≤ x.2)).reverse ++ [(now, p)]
  if kept.length ≤ Config.risingSize then kept else kept.eraseIdx 1

/-- R121: the stroke rate after an update. -/
def strokeAfter (r : Nat) (p : Int) (sp band step least most : Nat) : Nat :=
  let r1 : Int := if ((sp : Int) + band) < p then (r : Int) + step else if p < (sp : Int) - band then (r : Int) - step else r
  (max (least : Int) (min most r1)).toNat

/-- R121, R123: the grate at an update in RUNNING with its input FRESH or HELD. -/
def State.cgRunning (s : State) (i : Fin 4) (g : CgSlot) (p : Int) : State :=
  let kept := risingWithin s.now g.par.flushWindow g.rising
  if risenBy p g.par.flushRise kept then s.cgFlush i { g with rising := kept }
  else
    let r := strokeAfter g.rate p g.par.setpoint g.par.band g.par.step g.par.minSpeed g.par.maxSpeed
    s.setSlot i (.cg { g with rising := risingAppend s.now p kept, rate := r })

/-- R124: the grate at an update in FLUSH. -/
def State.cgFlushing (s : State) (i : Fin 4) (g : CgSlot) (calm : Bool) : State :=
  let run := nextRun calm s.now g.calmRun
  if ranFor s.now (g.par.flushEnd * 1000) run then s.cgEnter i { g with rate := g.par.maxSpeed } .running
  else s.setSlot i (.cg { g with rate := g.par.maxSpeed, calmRun := run })

/-- R122: the runs of BED PRESSURE HIGH at an update in RUN. -/
def State.cgPressure (s : State) (i : Fin 4) : State :=
  s.onCg i fun g =>
    if s.inputFailed g.par.input then s.setSlot i (.cg { g with raiseRun := none, clearRun := none })
    else
      let high := decide ((g.par.pHigh : Int) < (s.input g.par.input).value)
      if s.stands .bedPressureHigh i.val then
        let run := nextRun (!high) s.now g.clearRun
        if ranFor s.now 10000 run then
          State.ask (s.setSlot i (.cg { g with raiseRun := none, clearRun := none })) (.clear .bedPressureHigh i.val)
        else s.setSlot i (.cg { g with raiseRun := none, clearRun := run })
      else
        let run := nextRun high s.now g.raiseRun
        if ranFor s.now 10000 run then
          State.ask (s.setSlot i (.cg { g with raiseRun := none, clearRun := none })) (.raise .bedPressureHigh i.val)
        else s.setSlot i (.cg { g with raiseRun := run, clearRun := none })

/-- R121, R123, R124: the grate acts on its pressure. -/
def State.cgAct (s : State) (i : Fin 4) : State :=
  s.onCg i fun g =>
    let failed := s.inputFailed g.par.input
    let p := (s.input g.par.input).value
    match g.state with
    | .running => if failed then s else s.cgRunning i g p
    | .flush => s.cgFlushing i g (!failed && decide (p < (g.par.setpoint : Int) + g.par.band))
    | _ => s

/-- R120 to R124: the grate slot at a control update in RUN. The rules do not say whether the update at which the slot
leaves STOPPED already appends to the rising list and moves the stroke rate: the model does both at that same update
(DESIGN CHOICE, log entry 45). Nor do they order the tests: BED PRESSURE HIGH is tested after a flush has begun or ended, so
that FLUSH's request comes first (DESIGN CHOICE, log entry 59). -/
def State.cgUpdate (s : State) (i : Fin 4) : State :=
  if s.station = .run then
    let s1 := (s.cgPassage i).cgAct i
    let s2 := s1.onCg i fun g => s1.cgHand g
    s2.cgPressure i
  else s

/-- R120, R124: the falling edge of the permit of the grate slot. -/
def State.cgPermitFalls (s : State) (i : Fin 4) (g : CgSlot) : State :=
  if g.state = .stopped then s else s.cgEnter i g .stopped

/-! ## Postings (R127) -/

/-- R127: a fan slot's postings at an update in RUN; the time by the state as the update arrived. -/
def State.caPost (s : State) (i : Fin 4) (arrived : CaState) : State :=
  s.onCa i fun a =>
    let air := a.airCarry + s.caFlow a * s.period
    let q := a.heatCarry + s.recoveredHeat a * s.period
    let t := a.timeCarry + s.period
    let carry := if arrived = .off then a.timeCarry else t % 1000
    let a1 : CaSlot := { a with airCarry := air % 100000, heatCarry := q % 1000000, timeCarry := carry }
    let s1 := State.postRecovered (State.postAir (s.setSlot i (.ca a1)) i (air / 100000)) i (q / 1000000)
    match arrived with
    | .off => s1
    | .running => s1.postRunning i (t / 1000)
    | _ => s1.postForced i (t / 1000)

/-- R127: the grate slot's postings at an update in RUN. -/
def State.cgPost (s : State) (i : Fin 4) (arrived : CgState) : State :=
  s.onCg i fun g =>
    let strokes := if g.state = .stopped then g.strokeCarry else g.strokeCarry + g.rate * s.period
    let t := g.timeCarry + s.period
    let carry := if arrived = .flush then t % 1000 else g.timeCarry
    let g1 : CgSlot := { g with strokeCarry := strokes % 600000, timeCarry := carry }
    let s1 := State.postStrokes (s.setSlot i (.cg g1)) i (strokes / 600000)
    if arrived = .flush then s1.postFlushSeconds i (t / 1000) else s1

end Sys2Proof.Machine
end

