-- ==== Sys2Proof/Machine/Alarm.lean ====
section
/-! DEFINITION. The alarm unit: the table and its flood slot, own raises and clears, peers' notices, acknowledgements,
orphans and the journal (R130 to R142, R146), and the settling of the requests that the blocks send it. -/

namespace Sys2Proof.Machine

/-! ## The journal (R146) -/

/-- Formats: the body of a JOURNAL record after its time. -/
def journalRest (event : Nat) (e : AlarmEntry) (resulting ackStation lost : Nat) : List Byte :=
  [byte event, byte e.origin, byte e.code.number, byte e.channel, byte e.cls] ++ be2 e.occurrence.toNat ++
    [byte resulting, byte ackStation] ++ be2 lost

/-- R146: a change is offered to the append queue; a class-1 entry's record is a priority record. -/
def State.journal (s : State) (event : Nat) (e : AlarmEntry) (resulting ackStation lost : Nat) : State :=
  s.append .journal (journalRest event e resulting ackStation lost) s.currentBinding (e.cls == 1) false

/-- Formats: the code of a resulting state. -/
def AlarmState.number : AlarmState → Nat
  | .new => 1 | .standing => 2 | .returned => 3

/-! ## The table (R130) -/

/-- R130: the table's order: class, then raised time; equals stand in the order in which they were made. -/
def insertAlarm (e : AlarmEntry) : List AlarmEntry → List AlarmEntry
  | [] => [e]
  | f :: t => if f.cls < e.cls ∨ (f.cls = e.cls ∧ f.raised ≤ e.raised) then f :: insertAlarm e t else e :: f :: t

/-- R140: the flood slot's key. -/
def State.isFloodKey (s : State) (e : AlarmEntry) : Bool := e.hasKey s.ownNumber .alarmFlood 255

/-- Take the entry of a key out of the table or the flood slot; an emptied flood slot has no lost count. -/
def State.dropAlarm (s : State) (e : AlarmEntry) : State :=
  if s.isFloodKey e then { s with alarms := { s.alarms with flood := none, lostCount := 0 } }
  else
    { s with alarms := { s.alarms with table := s.alarms.table.filter fun f => !f.hasKey e.origin e.code e.channel } }

/-- R130, R140: an entry that has been made or re-raised takes its place. -/
def State.placeAlarm (s : State) (e : AlarmEntry) : State :=
  if s.isFloodKey e then { s with alarms := { s.alarms with flood := some e } }
  else
    let rest := s.alarms.table.filter fun f => !f.hasKey e.origin e.code e.channel
    { s with alarms := { s.alarms with table := insertAlarm e rest } }

/-- Change an entry in its place. -/
def State.setAlarm (s : State) (e : AlarmEntry) : State := { s with alarms := s.alarms.replace e }

/-- R148: change the alarm unit's counters. -/
def State.countAlarm (s : State) (f : AlarmCounters → AlarmCounters) : State :=
  { s with alarms := { s.alarms with counters := f s.alarms.counters } }

/-- R148: a request or notice that is ignored and counted. -/
def State.staleNotice (s : State) : State := s.countAlarm fun c => { c with staleNotices := up16 c.staleNotices }

/-- R142: the alarm unit reports the trip cause to every feed slot. Where one change trips or frees several, the rules do not
order them: they take the report in the order of their numbers (DESIGN CHOICE, log entry 71). -/
def State.evalTrips (s : State) : State :=
  s.eachSlot fun t i =>
    match t.slot i with
    | .cf c => t.cfTrip i c
    | .di d => t.diTrip i d
    | _ => t

/-- R137: whether a notice of the retry list carries a key. -/
def Notice.ofKey (own origin : Nat) (code : AlarmCode) (channel : Nat) : Notice → Bool
  | .alarm c ch _ _ _ => own == origin && c == code.number && ch == channel
  | .ack o c ch _ => o == origin && c == code.number && ch == channel
  | _ => false

/-- R137: a key that gets a new entry loses its items of the retry list. -/
def State.forgetRetry (s : State) (e : AlarmEntry) : State :=
  { s with alarms := { s.alarms with
      retry := s.alarms.retry.filter fun n => !n.ofKey s.ownNumber e.origin e.code e.channel } }

/-- R131, R134, R145: an entry made or re-raised in NEW: placed, the silenced mark cleared, journalled. -/
def State.enterNew (s : State) (e : AlarmEntry) : State :=
  let s1 := s.placeAlarm e
  State.journal { s1 with alarms := { s1.alarms with silenced := false } } 1 e 1 0 0

/-! ## Own raises (R131, R133) -/

/-- The next value of the occurrence count. -/
def State.nextOccurrence (s : State) : Serial := s.alarms.occurrence + 1

/-- R131: the entry that a raise of an own key makes. -/
def State.ownEntry (s : State) (code : AlarmCode) (channel : Nat) : AlarmEntry :=
  { origin := s.ownNumber, code := code, channel := channel, cls := (s.response code).cls,
    occurrence := s.nextOccurrence, raised := s.now }

/-- R131: an own entry is made or re-raised, room being present. The alarm notice is offered before the trip cause is reported to
the feed slots, whose passages offer heat notices: R131 and R142 do not order the two (DESIGN CHOICE, log entry 66). -/
def State.enterOwn (s : State) (code : AlarmCode) (channel : Nat) : State :=
  let e := s.ownEntry code channel
  let s1 := State.enterNew { s with alarms := { s.alarms with occurrence := e.occurrence } } e
  let s2 := s1.postRaise e.cls
  let s3 := if (s.response code).propagate then s2.offer e.currentNotice else s2
  s3.evalTrips

/-- R133: a class-4 raise. -/
def State.logRaise (s : State) (code : AlarmCode) (channel : Nat) : State :=
  if s.alarms.logSet.any fun k => k.1 == code && k.2.1 == channel then s
  else
    let e := s.ownEntry code channel
    let s1 := { s with alarms := { s.alarms with occurrence := e.occurrence } }
    let s2 := (s1.journal 1 e 4 0 0).postRaise 4
    if !s2.logFull then
      { s2 with alarms := { s2.alarms with logSet := s2.alarms.logSet ++ [(code, channel, e.occurrence)] } }
    else s2

/-- R139: the entry a full table evicts: in RETURNED, of the least severe class among those, the first in order. -/
def evictedAlarm (t : List AlarmEntry) : Option AlarmEntry :=
  let r := t.filter fun e => e.state == .returned
  r.find? fun e => r.all fun f => decide (f.cls ≤ e.cls)

/-- R139: an entry is evicted; an own one whose clear notice was unpublished leaves it in the retry list. -/
def State.evictAlarm (s : State) (e : AlarmEntry) : State :=
  let s1 := (s.dropAlarm e).countAlarm fun c => { c with evictions := up16 c.evictions }
  let s2 := if e.origin == s.ownNumber && e.unpublished then { s1 with alarms := s1.alarms.retryPush e.currentNotice } else s1
  s2.journal 5 e 4 0 0

/-- R137, R140: ALARM FLOOD is raised; a flood slot that was empty gets a new entry, so the key's items of the retry list
are forgotten. -/
def State.raiseFlood (s : State) : State :=
  let s1 := match s.findAlarm s.ownNumber .alarmFlood 255 with
    | none => s.forgetRetry (s.ownEntry .alarmFlood 255)
    | some _ => s
  State.enterOwn { s1 with alarms := { s1.alarms with lostCount := 1 } } .alarmFlood 255

/-- R140: a raise has been lost: ALARM FLOOD is raised, or its lost count rises. -/
def State.loseRaise (s : State) : State :=
  let s1 := s.countAlarm fun c => { c with lostRaises := up16 c.lostRaises }
  if (s1.response .alarmFlood).cls = 4 then s1.logRaise .alarmFlood 255
  else if s1.stands .alarmFlood 255 then
    { s1 with alarms := { s1.alarms with lostCount := up16 s1.alarms.lostCount } }
  else s1.raiseFlood

/-- R139: room for a new entry: none where no entry is in RETURNED. -/
def State.makeRoom (s : State) : Option State :=
  if s.alarms.table.length < Config.tableSize then some s
  else (evictedAlarm s.alarms.table).map s.evictAlarm

/-- R131: a raise request of an own key. -/
def State.takeRaise (s : State) (code : AlarmCode) (channel : Nat) : State :=
  if s.cfg.isNone then s.staleNotice
  else if (s.response code).cls = 4 then s.logRaise code channel
  else
    match s.findAlarm s.ownNumber code channel with
    | some e =>
      if e.state = .returned ∨ (e.state = .new ∧ e.latched = true) then s.enterOwn code channel else s
    | none =>
      match s.makeRoom with
      | none => s.loseRaise
      | some s1 => State.enterOwn (s1.forgetRetry (s.ownEntry code channel)) code channel

/-! ## Own clears (R132, R133, R140) -/

/-- R133: a class-4 clear. -/
def State.logClear (s : State) (code : AlarmCode) (channel : Nat) : State :=
  match s.alarms.logSet.find? fun k => k.1 == code && k.2.1 == channel with
  | none => s
  | some k =>
    let rest := s.alarms.logSet.filter fun j => !(j.1 == code && j.2.1 == channel)
    let e : AlarmEntry := { s.ownEntry code channel with occurrence := k.2.2 }
    State.journal { s with alarms := { s.alarms with logSet := rest } } 3 e 4 0
      (if code = .alarmFlood then s.alarms.lostCount else 0)

/-- R132: whether a clear latches the entry. -/
def State.latches (s : State) (e : AlarmEntry) : Bool :=
  e.state == .new && !e.latched && e.cls == 1 && (s.response e.code).floor

/-- R132: a clear that takes effect offers a clear notice where the code propagates. -/
def State.offerClear (s : State) (e : AlarmEntry) : State :=
  if (s.response e.code).propagate then s.offer (.alarm e.code.number e.channel e.cls 2 e.occurrence) else s

/-- R132: a clear of an own entry. -/
def State.clearEntry (s : State) (e : AlarmEntry) : State :=
  let lost := if e.code = .alarmFlood then s.alarms.lostCount else 0
  if s.latches e then
    let e1 := { e with latched := true, unpublished := false }
    ((s.setAlarm e1).journal 3 e1 1 0 lost).offerClear e1
  else
    match e.state with
    | .new =>
      if e.latched then s
      else
        let e1 := { e with state := .returned, unpublished := false }
        ((s.setAlarm e1).journal 3 e1 3 0 lost).offerClear e1
    | .standing => ((s.dropAlarm e).journal 4 e 4 0 lost).offerClear e
    | .returned => s

/-- R132, R133: a clear of an own key, before its consequences for ALARM FLOOD. -/
def State.clearKey (s : State) (code : AlarmCode) (channel : Nat) : State :=
  if (s.response code).cls = 4 then s.logClear code channel
  else
    match s.findAlarm s.ownNumber code channel with
    | none => s
    | some e => s.clearEntry e

/-- R140: the table's count has fallen below 40 while ALARM FLOOD stands. -/
def State.floodCheck (s : State) : State :=
  if s.alarms.table.length < 40 ∧ s.stands .alarmFlood 255 = true then s.clearKey .alarmFlood 255 else s

/-- R142, R140: what follows any change of the table, after the change's own journal record and notice: R132 and R142 do not order
the report of the trip cause against them (DESIGN CHOICE, log entry 66). -/
def State.afterChange (s : State) : State := s.floodCheck.evalTrips

/-- R132: a clear request of an own key. -/
def State.takeClear (s : State) (code : AlarmCode) (channel : Nat) : State :=
  if s.cfg.isNone then s.staleNotice else (s.clearKey code channel).afterChange

/-! ## Peers' notices (R134, R136) -/

/-- R134: a peer's entry is made or re-raised. -/
def State.enterPeer (s : State) (origin : Nat) (code : AlarmCode) (channel cls : Nat) (occ : Serial) : State :=
  s.enterNew { origin := origin, code := code, channel := channel, cls := cls, occurrence := occ, raised := s.now }

/-- R134: a raise notice of a peer. -/
def State.peerRaise (s : State) (origin : Nat) (code : AlarmCode) (channel cls : Nat) (occ : Serial) : State :=
  match s.findAlarm origin code channel with
  | none =>
    match s.makeRoom with
    | none => s.loseRaise
    | some s1 =>
      let e : AlarmEntry := { s.ownEntry code channel with origin := origin }
      State.enterPeer (s1.forgetRetry e) origin code channel cls occ
  | some e =>
    if e.orphaned || newer occ e.occurrence then s.enterPeer origin code channel cls occ
    else if occ = e.occurrence ∧ e.state ≠ .returned then
      s.countAlarm fun c => { c with duplicates := up16 c.duplicates }
    else s.staleNotice

/-- R134: a clear notice of a peer. -/
def State.peerClear (s : State) (origin : Nat) (code : AlarmCode) (channel : Nat) (occ : Serial) : State :=
  match s.findAlarm origin code channel with
  | none => s.staleNotice
  | some e =>
    if e.orphaned then s.staleNotice
    else if newer occ e.occurrence then (s.dropAlarm e).journal 4 e 4 0 0
    else if occ = e.occurrence then
      match e.state with
      | .new => (s.setAlarm { e with state := .returned }).journal 3 e 3 0 0
      | .standing => (s.dropAlarm e).journal 4 e 4 0 0
      | .returned => s.countAlarm fun c => { c with duplicates := up16 c.duplicates }
    else s.staleNotice

/-- R134, R185: an alarm notice handed on by the receive side. -/
def State.alarmNotice (s : State) (origin code channel cls event : Nat) (occ : Serial) : State :=
  if s.cfg.isNone then s.staleNotice
  else
    match AlarmCode.ofNumber code with
    | none => s.staleNotice
    | some c =>
      if cls = 0 ∨ 4 < cls ∨ event = 0 ∨ 2 < event then s.staleNotice
      else if cls = 4 then
        let e : AlarmEntry :=
          { origin := origin, code := c, channel := channel, cls := 4, occurrence := occ, raised := s.now }
        s.journal (if event = 1 then 1 else 3) e 4 0 0
      else if event = 1 then (s.peerRaise origin c channel cls occ).afterChange
      else (s.peerClear origin c channel occ).afterChange

/-- R135, R136: an entry is acknowledged by a station: NEW passes to STANDING; latched or RETURNED, it is removed. A notice
that a removed entry still held by one of its unpublished flags goes with it: R139 alone keeps such a notice, that of an
eviction, in the retry list (DESIGN CHOICE, log entry 48). -/
def State.acknowledgeEntry (s : State) (e : AlarmEntry) (station : Nat) : State :=
  match e.state with
  | .new =>
    if e.latched then (s.dropAlarm e).journal 4 e 4 station 0
    else (s.setAlarm { e with state := .standing }).journal 2 e 2 station 0
  | .returned => (s.dropAlarm e).journal 4 e 4 station 0
  | .standing => s

/-- R148: an acknowledgement that is ignored and counted. -/
def State.staleAck (s : State) : State := s.countAlarm fun c => { c with staleAcks := up16 c.staleAcks }

/-- R136, R185: an acknowledgement notice handed on by the receive side. -/
def State.ackNotice (s : State) (station origin code channel : Nat) (occ : Serial) : State :=
  if s.cfg.isNone then s.staleNotice
  else
    match AlarmCode.ofNumber code with
    | none => s.staleAck
    | some c =>
      match s.findAlarm origin c channel with
      | none => s.staleAck
      | some e => if e.occurrence = occ then (s.acknowledgeEntry e station).afterChange else s.staleAck

/-! ## The panel's acknowledgement (R135) -/

/-- R135: whether the acknowledgement of an entry is shared with the floor. -/
def State.shared (s : State) (e : AlarmEntry) : Bool := e.origin != s.ownNumber || (s.response e.code).propagate

/-- R135: the entry of a key is acknowledged at the panel. R140's clear of ALARM FLOOD is tested after each entry that the
panel acknowledges, so it can fall before the flood slot's own acknowledgement: the rules do not say whether it falls inside
the walk or after it (DESIGN CHOICE, log entry 60). -/
def State.panelAck (s : State) (k : AlarmEntry) : State :=
  match s.findAlarm k.origin k.code k.channel with
  | none => s
  | some e =>
    if e.state = .standing then s
    else
      let e1 := if s.shared e then { e with ackUnpublished := false } else e
      let s1 := State.acknowledgeEntry (s.setAlarm e1) e1 s.ownNumber
      let s2 := if s.shared e then s1.offer (.ack e.origin e.code.number e.channel e.occurrence) else s1
      s2.afterChange

/-- R135: every entry in NEW or RETURNED is acknowledged, in table order, the flood slot last. -/
def State.panelAckAll (s : State) : State :=
  if s.cfg.isNone then s else s.alarms.all.foldl State.panelAck s

/-! ## Orphans (R141) -/

/-- R141: an entry of an absent origin is orphaned. -/
def State.orphanEntry (s : State) (e : AlarmEntry) : State :=
  match e.state with
  | .new => (s.setAlarm { e with state := .returned, orphaned := true }).journal 6 e 3 0 0
  | .standing => (s.dropAlarm e).journal 6 e 4 0 0
  | .returned => if e.orphaned then s else (s.setAlarm { e with orphaned := true }).journal 6 e 3 0 0

/-- R141: every entry of an absent origin is orphaned. The rules do not order them: the model takes them in table order, and
tests the clear of ALARM FLOOD (R140) after the last of them (DESIGN CHOICE, log entry 47). -/
def State.orphan (s : State) (origin : Nat) : State :=
  State.afterChange ((s.alarms.all.filter fun e => e.origin == origin).foldl State.orphanEntry s)

/-! ## Settling -/

/-- R131, R132: the alarm unit takes one request. -/
def State.takeRequest (s : State) : AlarmRequest → State
  | .raise c ch => s.takeRaise c ch
  | .clear c ch => s.takeClear c ch

/-- The alarm unit takes the first request sent to it, which stays at the head of the requests while it is taken: what it
brings about finds it there (R173), and asks for more behind it. -/
def State.takeFirst (s : State) : State :=
  match s.agenda with
  | [] => s
  | r :: _ =>
    let t := s.takeRequest r
    { t with agenda := t.agenda.drop 1 }

/-- The alarm unit takes the requests sent to it, first sent first, until none is left (log entries 8 and 9). -/
def State.settleSome : Nat → State → State
  | 0, s => s
  | n + 1, s => if s.agenda.isEmpty then s else State.settleSome n s.takeFirst

/-- The alarm unit takes every request, up to the model's bound; none is left over (log entry 9). -/
def State.settle (s : State) : State := { s.settleSome Config.settleFuel with agenda := [] }

/-- R176: an event is taken while the supply is present and RESET is not asserted; otherwise it has no effect. The map
log holds the map writes of the latest event taken (R163). -/
def State.takeEvent (s : State) (f : State → State) : State :=
  if s.supply && !s.resetHeld then State.settle (f { s with mapLog := [], programNew := false }) else s

end Sys2Proof.Machine
end

