-- ==== Sys2Proof/Machine/Picture.lean ====
section
/-! DEFINITION. The floor picture: the peer channel table, the station list, loss and the loss hold, and the firing order
(R21 to R37). -/

namespace Sys2Proof.Machine

/-! ## The table's order (R21) -/

/-- R21: feed entries first, by merit key; then air entries by station and channel. -/
def PeerEntry.before (a b : PeerEntry) : Bool :=
  match a.meritKey, b.meritKey with
  | some j, some k => j.lt k
  | some _, none => true
  | none, some _ => false
  | none, none => decide (a.station < b.station ∨ (a.station = b.station ∧ a.channel < b.channel))

/-- R21: an entry takes its place. -/
def insertPeer (e : PeerEntry) : List PeerEntry → List PeerEntry
  | [] => [e]
  | f :: t => if f.before e then f :: insertPeer e t else e :: f :: t

/-- Whether an entry carries this key. -/
def PeerEntry.hasKey (e : PeerEntry) (station channel : Nat) : Bool := e.station == station && e.channel == channel

/-- Whether an entry is a feed entry. -/
def PeerEntry.isFeed (e : PeerEntry) : Bool := e.meritKey.isSome

/-- The entry of a key. -/
def State.findPeer (s : State) (station channel : Nat) : Option PeerEntry :=
  s.picture.entries.find? (·.hasKey station channel)

/-- An entry takes its place in the table, in place of the one of its key. -/
def State.placePeer (s : State) (e : PeerEntry) : State :=
  let rest := s.picture.entries.filter fun f => !f.hasKey e.station e.channel
  { s with picture := { s.picture with entries := insertPeer e rest } }

/-- R38: change the picture counters. -/
def State.countPicture (s : State) (f : PictureCounters → PictureCounters) : State :=
  { s with picture := { s.picture with counters := f s.picture.counters } }

/-- R22, R37: a notice that is not taken. -/
def State.refuseNotice (s : State) : State := s.countPicture fun c => { c with refusedNotices := up16 c.refusedNotices }

/-! ## Loss (R27, R28) -/

/-- R28: the loss hold is started or restarted, unless it is configured as 0. -/
def State.startLossHold (s : State) : State :=
  match s.cfg with
  | none => s
  | some c =>
    if c.lossHold = 0 then s
    else { s with picture := { s.picture with lossHoldDue := some (s.now + c.lossHold * 1000) } }

/-- R27: the channel value of PEER LOST. -/
def lostKey (station channel : Nat) : Nat := station * 4 + channel

/-- R24, R27, R28: an entry is removed: counted, PEER LOST raised, the loss hold started for a feed entry, PICTURE FULL
cleared where it stands. -/
def State.removePeer (s : State) (e : PeerEntry) : State :=
  let rest := s.picture.entries.filter fun f => !f.hasKey e.station e.channel
  let s1 := State.countPicture { s with picture := { s.picture with entries := rest } }
    fun c => { c with entriesLost := up16 c.entriesLost }
  let s2 := s1.ask (.raise .peerLost (lostKey e.station e.channel))
  let s3 := if e.isFeed then s2.startLossHold else s2
  if s3.stands .pictureFull 255 then s3.ask (.clear .pictureFull 255) else s3

/-! ## Notices (R22 to R25, R185) -/

/-- R23, R24: a notice for a key with no entry. -/
def State.createPeer (s : State) (e : PeerEntry) : State :=
  if s.picture.entries.length < Config.pictureSize then
    (s.placePeer e).ask (.clear .peerLost (lostKey e.station e.channel))
  else
    let s1 := s.countPicture fun c => { c with fullRefusals := up16 c.fullRefusals }
    if s1.stands .pictureFull 255 then s1 else s1.ask (.raise .pictureFull 255)

/-- R22, R23, R25: a notice that passes the range tests, as the entry it makes. -/
def State.useNotice (s : State) (e : PeerEntry) : State :=
  match s.findPeer e.station e.channel with
  | none => s.createPeer e
  | some old =>
    if old.isFeed = e.isFeed then s.placePeer e
    else
      let s1 := (s.placePeer e).countPicture fun c => { c with kindChanges := up16 c.kindChanges }
      if old.isFeed then s1.startLossHold else s1

/-- R22: a heat notice from a station. -/
def State.heatNotice (s : State) (station channel rank fuel state actual commanded : Nat) (held starved : Bool) : State :=
  if s.cfg.isNone ∨ 3 < channel ∨ rank = 0 ∨ 15 < rank ∨ 7 < fuel then s.refuseNotice
  else
    s.useNotice { station := station, channel := channel, state := state, age := .fresh, last := s.now,
                  body := .feed (min Config.heatCap actual) (min Config.heatCap commanded) fuel rank held starved }

/-- R22, R185: an air notice from a station. -/
def State.airNotice (s : State) (station channel role : Nat) (recup flush : Bool)
    (state recovered flow clinker : Nat) : State :=
  if s.cfg.isNone ∨ 3 < channel ∨ 1 < role then s.refuseNotice
  else
    s.useNotice { station := station, channel := channel, state := state, age := .fresh, last := s.now,
                  body := .air role recup (min Config.heatCap recovered) flow clinker flush }

/-! ## The station list (R30) -/

/-- R30: the list with a frame of a station accepted at a time. -/
def heardStations (station now : Nat) : List PeerStation → List PeerStation
  | [] => [{ station := station, last := now, present := true }]
  | p :: t =>
    if p.station < station then p :: heardStations station now t
    else if p.station = station then { p with last := now, present := true } :: t
    else { station := station, last := now, present := true } :: p :: t

/-- The station list's entry of a station. -/
def State.findStation (s : State) (station : Nat) : Option PeerStation :=
  s.picture.stations.find? (·.station == station)

/-- R30: a sign of life; none is taken before an image is accepted (R37). -/
def State.signOfLife (s : State) (station : Nat) : State :=
  if s.cfg.isNone then s
  else
    let returned := match s.findStation station with
      | none => false
      | some p => !p.present
    let s1 := { s with picture := { s.picture with stations := heardStations station s.now s.picture.stations } }
    if returned then s1.countPicture fun c => { c with returns := up16 c.returns } else s1

/-- R31: a station's passage to ABSENT. R31 does not order the removals: the model takes the station's entries in table
order, and each removal sends its PEER LOST raise and then its PICTURE FULL clear (DESIGN CHOICE, log entry 39). -/
def State.goAbsent (s : State) (station : Nat) : State :=
  let mark := fun p : PeerStation => if p.station = station then { p with present := false } else p
  let s1 := State.countPicture { s with picture := { s.picture with stations := s.picture.stations.map mark } }
    fun c => { c with absences := up16 c.absences }
  let s2 := (s1.picture.entries.filter fun e => e.station == station).foldl State.removePeer s1
  s2.settle.orphan station

/-! ## The firing order (R32 to R35) -/

/-- R32: what becomes of a candidate. -/
inductive Verdict where
  | adopted | confirmed | refused
deriving DecidableEq, Repr

/-- R32: the comparison of a candidate with the adopted order. -/
def compareOrder (adopted : Option FiringOrder) (c : FiringOrder) : Verdict :=
  match adopted with
  | none => .adopted
  | some a =>
    if newer c.epoch a.epoch then .adopted
    else if c.epoch = a.epoch ∧ c.target ≠ a.target ∧ c.origin < a.origin then .adopted
    else if c = a then .confirmed
    else .refused

/-- Formats: the body of an ORDER record after its time. -/
def orderRest (c : FiringOrder) (replaced : Option FiringOrder) (local_ : Bool) : List Byte :=
  be2 c.epoch.toNat ++ be3 c.target ++ [byte c.origin] ++
    (match replaced with
     | none => [0xFF, 0xFF]
     | some a => be2 a.epoch.toNat) ++
    [byte (bit local_ + 2 * bit replaced.isNone)]

/-- R35: a desk in RUN starts or restarts its refresh timer. -/
def State.restartRefresh (s : State) : State :=
  match s.cfg with
  | none => s
  | some g =>
    if g.desk ∧ s.station = .run then
      { s with picture := { s.picture with refreshDue := some (s.now + g.firingRefresh * 1000) } }
    else s

/-- R33: a candidate is adopted. -/
def State.adopt (s : State) (c : FiringOrder) (local_ : Bool) : State :=
  let s1 := State.countPicture { s with picture := { s.picture with order := some c } }
    fun k => { k with ordersAdopted := up16 k.ordersAdopted }
  let s2 := s1.append .order (orderRest c s.picture.order local_) s1.currentBinding false false
  let s3 := if s2.stands .noFiringOrder 255 then s2.ask (.clear .noFiringOrder 255) else s2
  s3.restartRefresh

/-- R32: a candidate is compared and adopted, confirmed or refused. -/
def State.considerOrder (s : State) (c : FiringOrder) (local_ : Bool) : State :=
  match compareOrder s.picture.order c with
  | .adopted => s.adopt c local_
  | .confirmed => s.countPicture fun k => { k with ordersConfirmed := up16 k.ordersConfirmed }
  | .refused => s.countPicture fun k => { k with ordersRefused := up16 k.ordersRefused }

/-- R32, R37: a firing order heard from a station. -/
def State.orderNotice (s : State) (station : Nat) (epoch : Serial) (target : Nat) : State :=
  if s.cfg.isNone then s.refuseNotice
  else s.considerOrder { epoch := epoch, target := min Config.heatCap target, origin := station } false

/-- R34: a take is refused. -/
def State.refuseTake (s : State) : State := s.countPicture fun c => { c with takesRefused := up16 c.takesRefused }

/-- R34: the epoch of a new order. -/
def nextEpoch : Option FiringOrder → Serial
  | none => 1
  | some a => a.epoch + 1

/-- R34: a value clamped to 0 to 400,000 kW. -/
def clampHeat (v : Int) : Nat := min Config.heatCap v.toNat

/-- R34: a desk in RUN originates an order. -/
def State.originate (s : State) : State :=
  match s.stationInput .firing with
  | none => s.refuseTake
  | some k =>
    if s.inputFresh k then
      let c : FiringOrder :=
        { epoch := nextEpoch s.picture.order, target := clampHeat (s.input k).value, origin := s.ownNumber }
      (s.considerOrder c true).offer (.order c.epoch c.target)
    else s.refuseTake

/-- R35: the adopted order is offered and the refresh timer started again. -/
def State.refreshOrder (s : State) : State :=
  match s.picture.order with
  | none => s
  | some a => (s.offer (.order a.epoch a.target)).restartRefresh

end Sys2Proof.Machine
end

