-- ==== Sys2Proof/Machine/Inputs.lean ====
section
/-! DEFINITION. The measurement stage: samples, scaling, freshness and what a consumer does when its input fails or
returns (R63 to R67, R84, R116, R120). -/

namespace Sys2Proof.Machine

/-- R64: the scaled value of a sample. -/
def scaled (lo hi : Int) (raw : Nat) : Int := roundRatio (lo * 65535 + raw * (hi - lo)) 65535

/-- R67: the weight of an item-weighed event. -/
def eventWeight (v : Int) : Nat := min 65535 v.toNat

/-- The slot that consumes an input; none for a station-level input. -/
def InputCfg.slot (c : InputCfg) : Option (Fin 4) :=
  if h : c.consumer < 4 then some ⟨c.consumer, h⟩ else none

/-- R84, R116, R120: the consumer's reaction to an input that has passed to FAILED. -/
def State.inputLost (s : State) (k : Fin 16) : State :=
  match (s.inputCfg k).slot with
  | none => s
  | some i =>
    match s.slot i with
    | .cf c => if c.par.input = k then s.cfInputFailed i c else s
    | .ca a => if a.par.flowInput = k ∧ a.state = .running then s.caEnter i a .forced else s
    | .cg g => if g.par.input = k ∧ g.state = .running then s.cgEnter i g .fault else s
    | _ => s

/-- R84, R116, R120: the consumer's reaction to an input that has passed to FRESH. -/
def State.inputBack (s : State) (k : Fin 16) : State :=
  match (s.inputCfg k).slot with
  | none => s
  | some i =>
    match s.slot i with
    | .cf c => if c.par.input = k then s.cfLeaveFault i c else s
    | .ca a => if a.par.flowInput = k then s.caRelease i else s
    | .cg g => if g.par.input = k ∧ g.state = .fault then s.cgEnter i g .running else s
    | _ => s

/-- R65: an input with a sample taken at a time. -/
def Input.sampled (x : Input) (value : Int) (due : Nat) : Input :=
  { x with value := value, freshness := .fresh, freshDue := some due, holdDue := none, neverSampled := false,
           samples := up16 x.samples }

/-- R63, R65, R66: a sample of an input that carries a freshness state. The clear of INPUT STALE is sent before the requests of
the consumer that takes its input back: the rules do not order them (DESIGN CHOICE, log entry 65). -/
def State.takeSample (s : State) (k : Fin 16) (raw : Nat) : State :=
  let c := s.inputCfg k
  let was := (s.input k).freshness
  let s1 := s.setInput k ((s.input k).sampled (scaled c.lo c.hi raw) (s.now + c.freshTime))
  let s2 := if was = .failed ∧ s1.failedInputs c.consumer = 0 then s1.ask (.clear .inputStale c.consumer) else s1
  if was = .fresh then s2 else s2.inputBack k

/-- R67: a sample of an item scale is one item-weighed event. -/
def State.takeItem (s : State) (k : Fin 16) (raw : Nat) : State :=
  let c := s.inputCfg k
  let w := eventWeight (scaled c.lo c.hi raw)
  let x := s.input k
  let s1 := s.setInput k { x with value := w, samples := up16 x.samples }
  match c.slot with
  | none => s1
  | some i => s1.itemWeighed i w

/-- R63: a word of the sample stream. Its parity is tested first: a word that fails it is counted in sample errors alone, also
where it names an unmapped input or arrives before the acceptance of an image or in START HALT, where R63 counts a word as
unmapped and does not say which of the two counters such a word takes (DESIGN CHOICE, log entry 64). -/
def State.takeWord (s : State) (k : Fin 16) (raw : Nat) (parityOk : Bool) : State :=
  if parityOk then
    match (s.inputCfg k).role with
    | .unmapped => { s with fields := { s.fields with unmappedSamples := up16 s.fields.unmappedSamples } }
    | .itemWeight => s.takeItem k raw
    | _ => s.takeSample k raw
  else { s with fields := { s.fields with sampleErrors := up16 s.fields.sampleErrors } }

/-- R65: the fresh timer expires: HELD, the value kept, the hold timer started. -/
def State.freshExpires (s : State) (k : Fin 16) : State :=
  let x := s.input k
  s.setInput k { x with freshness := .held, freshDue := none, holdDue := some (s.now + (s.inputCfg k).holdTime),
                        holds := up16 x.holds }

/-- R65, R66: the hold timer expires: FAILED; INPUT STALE at the consumer's first; the consumer reacts. INPUT STALE's raise is
sent before the consumer's own requests: the rules do not order them (DESIGN CHOICE, log entry 65). -/
def State.holdExpires (s : State) (k : Fin 16) : State :=
  let x := s.input k
  let c := (s.inputCfg k).consumer
  let first := decide (s.failedInputs c = 0)
  let s1 := s.setInput k { x with freshness := .failed, holdDue := none }
  let s2 := if first then s1.ask (.raise .inputStale c) else s1
  s2.inputLost k

end Sys2Proof.Machine
end

