-- ==== Sys2Proof/Machine/Shift.lean ====
section
/-! DEFINITION. The shift accountant: closes, summaries, collation, first shifts and the RESTART record (R150 to R161). -/

namespace Sys2Proof.Machine

/-! ## Record and notice bodies (R155, R156, R161, Formats) -/

/-- R151: a slot's accumulators in the order of its table. -/
def slotAccBytes (u : SlotUnit) (a : SlotAcc) : List Byte :=
  match u with
  | .unused => []
  | .cf _ => be4 a.mass ++ be4 a.heat ++ be4 a.running ++ be4 a.tripped ++ be4 a.deviations
  | .di _ =>
    be4 a.mass ++ be4 a.heat ++ be4 a.running ++ be4 a.tripped ++ be4 a.divertedWeight ++ be4 a.divertedFull ++
      be4 a.lostInGate ++ be4 a.jams
  | .ca _ => be4 a.air ++ be4 a.recovered ++ be4 a.running ++ be4 a.forced ++ be4 a.deviations
  | .cg _ => be4 a.strokes ++ be4 a.flushes ++ be4 a.flushSeconds

/-- The slots that are not UNUSED, in slot order. -/
def State.usedSlots (s : State) : List (Fin 4) := slotList.filter fun i => s.slot i != .unused

/-- R155: the body of a TOTALS record after its time. -/
def State.totalsRest (s : State) (n : Serial) : List Byte :=
  let a := s.accountant
  be2 n.toNat ++ [byte (bit a.saturated)] ++ be4 a.clinker ++ (a.raised.toList.flatMap be4) ++ be4 a.class1Seconds ++
    [byte s.usedSlots.length] ++
    s.usedSlots.flatMap fun i => [byte i.val, byte (s.slot i).kind] ++ slotAccBytes (s.slot i) (s.acc i)

/-- R155: the body of a CLOSE record after its time; reasons timer 1, mark 2, restart cut 3. -/
def closeRest (reason : Nat) (new : Option Serial) (saturated : Bool) : List Byte :=
  [byte reason] ++
    (match new with
     | none => [0xFF, 0xFF]
     | some m => be2 m.toNat) ++
    [byte (bit saturated + 2 * bit new.isNone)]

/-- R156: the entry of a slot in a shift summary. -/
def summaryEntry (i : Fin 4) (u : SlotUnit) (a : SlotAcc) : List Byte :=
  match u with
  | .unused => []
  | .cf _ => [byte i.val, byte u.kind] ++ be4 a.mass ++ be4 a.heat ++ be2 (min 65535 a.running)
  | .di _ => [byte i.val, byte u.kind] ++ be4 a.mass ++ be4 a.heat ++ be2 (min 65535 a.running)
  | .ca _ => [byte i.val, byte u.kind] ++ be4 a.air ++ be4 a.recovered ++ be2 (min 65535 a.running)
  | .cg _ => [byte i.val, byte u.kind] ++ be4 a.strokes ++ be4 0 ++ be2 (min 65535 a.flushSeconds)

/-- R156: the payload of the summary of a shift. -/
def State.summaryPayload (s : State) (n : Serial) : List Byte :=
  be2 n.toNat ++ [byte s.usedSlots.length] ++ be4 s.accountant.clinker ++
    (s.accountant.raised.toList.flatMap fun x => be2 (min 65535 x)) ++
    s.usedSlots.flatMap fun i => summaryEntry i (s.slot i) (s.acc i)

/-- The DI slots in slot order. -/
def State.itemSlots (s : State) : List (Fin 4) := slotList.filter fun i => (s.slot i).kind == 2

/-- R110, R161: the items lost of one DI slot, 0xFF where unknown. -/
def State.itemsLost (s : State) (i : Fin 4) : Byte :=
  match s.channels.inHand[i] with
  | none => 0xFF
  | some n => byte n

/-- R161: the body of a RESTART record after its time. -/
def State.restartRest (s : State) (resumed : Bool) : List Byte :=
  [byte (bit s.accountant.lineStart + 2 * bit resumed + 4), byte s.itemSlots.length] ++
    s.itemSlots.flatMap fun i => [byte i.val, s.itemsLost i]

/-- R161: the RESTART record is offered once after each start. -/
def State.offerRestart (s : State) (resumed : Bool) : State :=
  if s.accountant.restartDue then
    let s1 := { s with accountant := { s.accountant with restartDue := false } }
    s1.append .restart (s1.restartRest resumed) (fileBinding s1.accountant.file) false false
  else s

/-! ## Numbers (R150, R153, R154, R160) -/

/-- R162: change the accountant's counters. -/
def State.countShift (s : State) (f : ShiftCounters → ShiftCounters) : State :=
  { s with accountant := { s.accountant with counters := f s.accountant.counters } }

/-- R150: shift_len in ms. -/
def State.shiftLength (s : State) : Nat :=
  match s.cfg with
  | none => 0
  | some g => g.shiftLen * 3600000

/-- R150: the station takes a shift number and starts the shift timer at its full length. -/
def State.takeNumber (s : State) (n : Serial) : State :=
  { s with accountant := { s.accountant with shift := some n, shiftDue := some (s.now + s.shiftLength) } }

/-- R155, R160: a file is opened for a shift, and the accountant keeps which. -/
def State.openShiftFile (s : State) (n : Serial) : State :=
  let r := s.openFile n
  { r.1 with accountant := { r.1.accountant with file := r.2 } }

/-- R150: the accountant works in the start listen period and in RUN. -/
def State.accounting (s : State) : Bool := s.station == .listen || s.station == .run

/-! ## Collation (R157) -/

/-- R157: a collation ends: its file is asked to be CLOSED. -/
def State.endCollation (s : State) (cut : Bool) : State :=
  let s1 := s.requestStep s.accountant.collFile (.closed cut)
  { s1 with accountant := { s1.accountant with collating := none, collationDue := none, collated := [], collFile := none } }

/-- R157: a summary that is late. -/
def State.summaryLate (s : State) (file : Option (Fin 32)) : State :=
  (s.countShift fun c => { c with lateSummaries := up16 c.lateSummaries }).lateSummary file

/-- R157: the OPEN file, where one stands in the map. -/
def State.openFileEntry (s : State) : Option (Fin 32) := entryList.find? fun e => (s.dir e).state == .opened

/-- R150, R157: a shift summary heard from a peer. Of one that comes before the scan's end, in COMMISSION or in START HALT
R150 says only that it is counted in late summaries: the model reports it for no file (DESIGN CHOICE, log entry 62). -/
def State.summaryNotice (s : State) (origin : Nat) (payload : List Byte) : State :=
  if s.accounting then
    match s.accountant.collating with
    | none => s.summaryLate s.openFileEntry
    | some n =>
      if BitVec.ofNat 16 (at2 payload 0) = n then
        if s.accountant.collated.contains origin then
          s.countShift fun c => { c with duplicateSummaries := up16 c.duplicateSummaries }
        else
          let s1 := s.countShift fun c => { c with collated := up16 c.collated }
          let s2 := { s1 with accountant := { s1.accountant with collated := s1.accountant.collated ++ [origin] } }
          s2.append .summary (byte origin :: payload) (fileBinding s2.accountant.collFile) false false
      else s.summaryLate s.accountant.collFile
  else s.summaryLate none

/-! ## Closes (R155) -/

/-- R155: every accumulator is set to 0; the remainders keep their values. -/
def SlotAcc.zeroed (a : SlotAcc) : SlotAcc := { gramRem := a.gramRem, kjRem := a.kjRem }

/-- R155, 6: the accumulators and the saturation mark after a close. -/
def Accountant.zeroed (a : Accountant) : Accountant :=
  { a with acc := a.acc.map SlotAcc.zeroed, clinker := 0, raised := Vector.replicate 4 0, class1Seconds := 0,
           saturated := false }

/-- collate_s in ms. -/
def State.collateLength (s : State) : Nat :=
  match s.cfg with
  | none => 0
  | some g => g.collateS * 1000

/-- R155, 4: the file of the closed shift is to become COLLATING and its collation begins. -/
def State.beginCollation (s : State) (n : Serial) : State :=
  let file := s.accountant.file
  let s1 := s.requestStep file .collating
  let due := some (s1.now + s1.collateLength)
  { s1 with accountant := { s1.accountant with
      collating := some n, collated := [], collationDue := due, collFile := file, file := none } }

/-- R155: the current shift is closed with a reason, for a new number. -/
def State.closeShift (s : State) (n : Serial) (reason : Nat) (new : Serial) : State :=
  let bound := fileBinding s.accountant.file
  let sat := s.accountant.saturated
  let payload := s.summaryPayload n
  let s1 := s.append .totals (s.totalsRest n) bound false sat
  let s2 := s1.append .close (closeRest reason (some new) sat) bound false sat
  let s3 := if s2.accountant.collating.isSome then s2.endCollation true else s2
  let s4 := s3.beginCollation n
  let s5 := s4.offer (.summary payload)
  let s6 := { s5 with accountant := s5.accountant.zeroed }
  s6.openShiftFile new

/-- R153: the shift timer has expired. -/
def State.closeByTimer (s : State) : State :=
  match s.accountant.shift with
  | none => s
  | some n => ((s.closeShift n 1 (n + 1)).takeNumber (n + 1)).offer (.mark (n + 1))

/-- R160: the first shift of a start that resumes none. -/
def State.firstShift (s : State) (n : Serial) : State :=
  ((s.takeNumber n).openShiftFile n).offerRestart false

/-- R154: a shift mark that is ignored. -/
def State.ignoreMark (s : State) : State := s.countShift fun c => { c with marksIgnored := up16 c.marksIgnored }

/-- R150, R154: a shift mark heard from a peer. -/
def State.markNotice (s : State) (m : Serial) : State :=
  if s.accounting then
    match s.accountant.shift with
    | none => s.firstShift m
    | some n => if newer m n then (s.closeShift n 2 m).takeNumber m else s.ignoreMark
  else s.ignoreMark

/-- The CLOSED file with the greatest close sequence number. -/
def State.newestClosed (s : State) : Option (Fin 32) :=
  entryList.find? fun e => (s.dir e).state == .closed && (s.dir e).closeSeq == s.greatestClose

/-- R160: the number a station takes from its archive at its entry to RUN. -/
def State.archiveNumber (s : State) : Serial :=
  match s.newestClosed with
  | none => 1
  | some e => (s.dir e).shift + 1

/-! ## Resumption (R158, R159) -/

/-- R158: what the start scan reports of a file: its last valid record's type and time. -/
structure FileReport where
  entry : Fin 32
  collating : Bool
  last : Option (Nat × Nat)
deriving DecidableEq, Repr

/-- R159: an OPEN file is resumed with its age. -/
def State.resumeShift (s : State) (e : Fin 32) (age : Nat) : State :=
  let s1 := s.resumeFile e age
  let due := some (s1.now + (s1.shiftLength - age * 1000))
  let s2 := { s1 with accountant := { s1.accountant with shift := some (s1.dir e).shift, shiftDue := due, file := some e } }
  s2.offerRestart true

/-- R158, R159: the accountant takes the scan's report of one file. The time of a restart-cut CLOSE has no base: a start
leaves its file none (R175), and no rule gives one to a file that is not resumed. The model counts it from base 0, the
station seconds since the start (DESIGN CHOICE, log entry 49). -/
def State.takeReport (s : State) (r : FileReport) : State :=
  if r.collating then s.requestStep (some r.entry) (.closed true)
  else
    match r.last with
    | some (6, _) => s.requestStep (some r.entry) (.closed true)
    | some (4, _) =>
      (s.append .close (closeRest 3 none false) (.file r.entry) false false).requestStep (some r.entry) (.closed true)
    | some (_, t) => s.resumeShift r.entry t
    | none => s.resumeShift r.entry 0

end Sys2Proof.Machine
end

