-- ==== Sys2Proof/Machine/Update.lean ====
section
/-! DEFINITION. The control update: the order in which the blocks act at one expiry of the update timer (R36, R39 to R61,
R78, R88, R111, R126, R147, R152). -/

namespace Sys2Proof.Machine

/-- R147: an own entry of class 1 stands in NEW or STANDING. -/
def State.ownClass1 (s : State) : Bool :=
  s.alarms.all.any fun e => e.origin == s.ownNumber && e.cls == 1 && e.stands

/-- R36: T moves toward the adopted target. -/
def State.slew (s : State) : State :=
  match s.cfg, s.picture.order with
  | some g, some a =>
    { s with picture := { s.picture with target := slewTarget s.picture.target a.target (slewStep g.targetSlew g.period) } }
  | _, _ => s

/-- R78, R105: a feed slot's passage out of OFF, settled before its share is formed. -/
def State.feedPassage (s : State) (i : Fin 4) : State :=
  match s.slot i with
  | .cf c => s.cfPassage i c
  | .di d => s.diPassage i d
  | _ => s

/-- R50: a feed slot takes the record the update has formed; the alarm unit takes its requests. -/
def State.feedHandOn (s : State) (i : Fin 4) : State :=
  match s.slot i with
  | .cf _ => (s.cfHandOn i).settle
  | .di _ => (s.diHandOn i).settle
  | _ => s

/-- R114 to R124: a cooler slot acts; the alarm unit takes its requests. -/
def State.coolerAct (s : State) (i : Fin 4) : State :=
  match s.slot i with
  | .ca _ => (s.caUpdate i).settle
  | .cg _ => (s.cgUpdate i).settle
  | _ => s

/-! ## Publication at an update (R88, R126) -/

/-- R88: a slot's publish count. -/
def SlotUnit.publishCount : SlotUnit → Nat
  | .unused => 0
  | .cf c => c.publish
  | .di d => d.publish
  | .ca a => a.publish
  | .cg g => g.publish

/-- R88: a slot with another publish count. -/
def SlotUnit.withPublish (n : Nat) : SlotUnit → SlotUnit
  | .unused => .unused
  | .cf c => .cf { c with publish := n }
  | .di d => .di { d with publish := n }
  | .ca a => .ca { a with publish := n }
  | .cg g => .cg { g with publish := n }

/-- R40: the publish divisor. -/
def State.divisor (s : State) : Nat :=
  match s.cfg with
  | none => 1
  | some g => g.divisor

/-- R88: the publish count of a slot after an update, and whether its publish interval is over. -/
def publishAfter (count divisor : Nat) (left : Bool) : Nat × Bool :=
  if left then (0, false)
  else if divisor ≤ count + 1 then (0, true)
  else (count + 1, false)

/-- R88, R126: a slot's publish count at an update in RUN; where its interval is over it offers a notice, unless a change
at the same update has offered one already. -/
def State.slotPublish (noticed left : Vector Bool 4) (s : State) (i : Fin 4) : State :=
  if s.slot i = .unused then s
  else
    let r := publishAfter (s.slot i).publishCount s.divisor left[i]
    let s1 := s.setSlot i ((s.slot i).withPublish r.1)
    if r.2 && !noticed[i] then s1.publish i else s1

/-- The marks of an update are taken off. -/
def State.endMarks (s : State) : State :=
  { s with channels := { s.channels with
      updating := false, noticed := Vector.replicate 4 false, leftOff := Vector.replicate 4 false } }

/-- R88, R126: every slot publishes. -/
def State.publishAll (s : State) : State :=
  s.endMarks.eachSlot (State.slotPublish s.channels.noticed s.channels.leftOff)

/-! ## Postings at an update (R89, R90, R109, R127, R147, R152) -/

/-- R89, R90, R109, R127: a slot's postings, its time by the state in which it stood as the update arrived. -/
def State.slotPost (arrived : Vector SlotUnit 4) (s : State) (i : Fin 4) : State :=
  match arrived[i] with
  | .cf c => (s.cfPostAmounts i).cfPostTime i c.state
  | .di d => s.diPostTime i d.state
  | .ca a => s.caPost i a.state
  | .cg g => s.cgPost i g.state
  | .unused => s

/-- R147: the class-1 time carry. -/
def State.postAlarmTime (s : State) (stood : Bool) : State :=
  if stood then
    let t := s.alarms.class1Carry + s.period
    State.postClass1 { s with alarms := { s.alarms with class1Carry := t % 1000 } } (t / 1000)
  else s

/-- R152: the clinker of one period. -/
def State.postCooler (s : State) : State :=
  if s.hasCooler then s.postClinker (s.channels.estimate * s.period) else s

/-! ## Firing supervision (R58 to R61) -/

/-- R58: whether the station supervises. -/
def State.supervises (s : State) : Bool :=
  s.station == .run && s.picture.order.isSome && s.holdsGreatestKey

/-- R60: one run of a supervision alarm at an update at which its test held or failed. -/
def State.fireRun (s : State) (code : AlarmCode) (test : Bool) (length : Nat) (run : Option Nat) : State × Option Nat :=
  let run' := nextRun test s.now run
  if ranFor s.now length run' then
    (s.ask (if s.stands code 255 then .clear code 255 else .raise code 255), none)
  else (s, run')

/-- R59, R60: a supervising station's tests. Where both runs end at one update, OVERFIRE's request is sent before
UNDERFIRE's: the rules do not order them (DESIGN CHOICE, log entry 55). A latched OVERFIRE or UNDERFIRE entry of class 1 that
stands in NEW when supervision begins again stands for R130, while R61 starts both alarms as not standing: the model reads
the table's entry (DESIGN CHOICE, log entry 37). -/
def State.superviseFire (s : State) (g : Cfg) : State :=
  let above := aboveBand s.totalHeat s.required g.fireTol
  let below := belowBand s.totalHeat s.required g.fireTol
  let overTest := if s.stands .overfire 255 then !above else above
  let underTest := if s.stands .underfire 255 then !below else below && !s.alarms.observed
  let o := s.fireRun .overfire overTest (g.fireDevTime * 1000) s.heat.overRun
  let u := o.1.fireRun .underfire underTest (g.fireDevTime * 1000) s.heat.underRun
  { u.1 with heat := { u.1.heat with supervising := true, overRun := o.2, underRun := u.2 } }

/-- R61: a station that ceases to supervise drops its runs and clears both alarms, OVERFIRE before UNDERFIRE (the rules do not
order them; DESIGN CHOICE, log entry 55). -/
def State.ceaseFire (s : State) : State :=
  if s.heat.supervising then
    let s1 := { s with heat := { s.heat with supervising := false, overRun := none, underRun := none } }
    let s2 := if s1.stands .overfire 255 then s1.ask (.clear .overfire 255) else s1
    if s2.stands .underfire 255 then s2.ask (.clear .underfire 255) else s2
  else s

/-- R58 to R61: firing supervision at an update. -/
def State.fireSupervision (s : State) : State :=
  match s.cfg with
  | none => s
  | some g => if s.supervises then s.superviseFire g else s.ceaseFire

/-! ## The update (R39) -/

/-- The slots, the cooler and the allocator at an update (log entry 13 says in which order). -/
def State.controlSlots (s : State) : State :=
  let s1 := s.slew.updateEstimate
  let s2 := State.eachSlot State.feedPassage { s1 with channels := { s1.channels with updating := true } }
  (s2.allocate.eachSlot State.feedHandOn).eachSlot State.coolerAct

/-- R88 to R90, R109, R126, R127, R147, R152: what an update publishes and posts, in RUN alone. -/
def State.controlAccounts (arrived : Vector SlotUnit 4) (class1 : Bool) (s : State) : State :=
  if s.station = .run then
    State.postAlarmTime (State.postCooler (s.publishAll.eachSlot (State.slotPost arrived))) class1
  else s.endMarks

/-- R39: one control update: what the floor's firing supervision raises or clears acts on the slots before they
publish, so that a periodic notice carries the state after it (R88). -/
def State.control (s : State) : State :=
  s.controlSlots.fireSupervision.settle.controlAccounts s.channels.slots s.ownClass1

/-- R39: the update timer expires and restarts at its full period. -/
def State.updateExpires (s : State) (due : Nat) : State :=
  let s1 := s.reach due
  State.control { s1 with heat := { s1.heat with updateDue := some (due + s1.period) } }

/-! ## The entry to RUN (R35 to R37, R84, R87, R106, R126, R160) -/

/-- R84, R106: a slot that stands in OFF at the entry to RUN with its input FAILED or its gate JAMMED enters FAULT. -/
def State.faultAtRun (s : State) (i : Fin 4) : State :=
  match s.slot i with
  | .cf c => if c.state = .off ∧ s.inputFailed c.par.input = true then s.cfInputFailed i c else s
  | .di d => if d.state = .off ∧ d.gate.state = .jammed then s.diStop i d .fault else s
  | _ => s

/-- R87, R88: the publish count is 0 at the entry to RUN, and the slot offers one notice with its state at that moment;
the notice of its passage to FAULT at this entry is that one. -/
def State.firstNotice (s : State) (i : Fin 4) : State :=
  let s1 := s.setSlot i ((s.slot i).withPublish 0)
  if s1.channels.noticed[i] then s1 else s1.publish i

/-- R84, R88, R106: what the entry to RUN does to a slot. -/
def State.slotToRun (s : State) (i : Fin 4) : State := (s.faultAtRun i).firstNotice i

/-- R37: the station enters RUN. The spec does not order the effects of the entry; the model takes them in this order:
medium access, each slot's entry and notice, NO FIRING ORDER, the desk's order, the first shift (DESIGN CHOICE, log entry
38). -/
def State.enterRun (s : State) : State :=
  let s1 := { s with station := .run, picture := { s.picture with listenDue := none },
                     channels := { s.channels with updating := true } }
  let s3 := (s1.kickAccess.eachSlot State.slotToRun).endMarks
  let s4 := if s3.picture.order.isNone then s3.ask (.raise .noFiringOrder 255) else s3
  let desk := match s4.cfg with
    | none => false
    | some g => g.desk
  let s5 := if desk then s4.refreshOrder else s4
  if s5.accountant.shift.isNone then s5.firstShift s5.archiveNumber else s5

end Sys2Proof.Machine
end

