-- ==== Sys2Proof/Machine/Image.lean ====
section
/-! DEFINITION. The configuration image: its checks and the taking of each field into its range (R63, R70, R76, R92, R113,
R120, R129, R177, R178, Formats). A field is taken as a pair (value in the image, value taken); the clamped-field count
is the number of pairs that differ. -/

namespace Sys2Proof.Machine

/-- Formats: the offset of the slot block of a slot. -/
def blockAt (i : Fin 4) : Nat := 267 + 32 * i.val

/-- Formats: the offset of an input record. -/
def inputAt (k : Fin 16) : Nat := 49 + 11 * k.val

/-- R178: a value outside its range takes the nearer end. -/
def clampTo (lo hi v : Nat) : Nat := max lo (min hi v)

/-- R178: a signed value outside its range takes the nearer end. -/
def clampInt (lo hi v : Int) : Int := max lo (min hi v)

/-- A field of the image and the value taken. -/
abbrev Pair := Int × Int

/-- A field of natural values. -/
def pair (raw taken : Nat) : Pair := (raw, taken)

/-- R178: how many fields were changed. -/
def changedFields (ps : List Pair) : Nat := ps.countP fun p => p.1 != p.2

/-! ## Names of inputs and outputs (R63, R70) -/

/-- Formats: the code of a role. -/
def Role.code : Role → Nat
  | .unmapped => 0 | .mass => 1 | .itemWeight => 2 | .airFlow => 3 | .airTemperature => 4 | .clinkerOutlet => 5
  | .bedPressure => 6 | .ambient => 7 | .firing => 8

/-- The roles in the order of their codes. -/
def Role.all : List Role :=
  [.unmapped, .mass, .itemWeight, .airFlow, .airTemperature, .clinkerOutlet, .bedPressure, .ambient, .firing]

/-- Formats: the role byte of an input record. -/
def rawRole (img : List Byte) (k : Fin 16) : Nat := at1 img (inputAt k + 9)

/-- Formats: the consumer byte of an input record. -/
def rawConsumer (img : List Byte) (k : Fin 16) : Nat := at1 img (inputAt k + 10)

/-- R63: the input that a byte of a slot block names to effect for a role: its record gives that role and that slot. -/
def namedInput (img : List Byte) (i : Fin 4) (r : Role) (offset : Nat) : Option (Fin 16) :=
  let v := at1 img (blockAt i + offset)
  if v = 255 then none
  else
    let k : Fin 16 := Fin.ofNat 16 (min 15 v)
    if rawRole img k = r.code ∧ rawConsumer img k = i.val then some k else none

/-- The field of a named input. -/
def inputPair (img : List Byte) (i : Fin 4) (offset : Nat) (x : Option (Fin 16)) : Pair :=
  pair (at1 img (blockAt i + offset))
    (match x with
     | none => 255
     | some k => k.val)

/-- Formats: the kind byte of a slot. -/
def rawKind (img : List Byte) (i : Fin 4) : Nat := at1 img (4 + i.val)

/-- Formats: where the output number stands in the block of a kind. -/
def outputOffset (kind : Nat) : Option Nat :=
  match kind with
  | 1 => some 15
  | 3 => some 19
  | 4 => some 21
  | _ => none

/-- R70: the output that a slot block names, after clamping. -/
def rawOutput (img : List Byte) (i : Fin 4) : Option (Fin 8) :=
  match outputOffset (rawKind img i) with
  | none => none
  | some o =>
    let v := at1 img (blockAt i + o)
    if v = 255 then none else some (Fin.ofNat 8 (min 7 v))

/-- R70: when two slot blocks name one output, the lower-numbered slot keeps it. A block names its output by the kind that the
image declares, also where its slot is then taken as UNUSED (R76, R113, R120), so that a higher slot does not get that output: R70
and R185 do not settle this (DESIGN CHOICE, log entry 75). -/
def namedOutput (img : List Byte) (i : Fin 4) : Option (Fin 8) :=
  match rawOutput img i with
  | none => none
  | some o => if slotList.any fun j => decide (j < i) && rawOutput img j == some o then none else some o

/-- The field of a named output. -/
def outputPair (img : List Byte) (i : Fin 4) (offset : Nat) : Pair :=
  pair (at1 img (blockAt i + offset))
    (match namedOutput img i with
     | none => 255
     | some o => o.val)

/-! ## The slot blocks -/

/-- R76, R178: a CF block as taken: its unit, where it has its input and output, and its fields. -/
def takeCf (img : List Byte) (i : Fin 4) : Option SlotUnit × List Pair :=
  let b := blockAt i
  let rank := clampTo 1 15 (at1 img b)
  let fuel := clampTo 0 7 (at1 img (b + 1))
  let maxHeat := clampTo 0 400000 (at3 img (b + 5))
  let minHeat := min (clampTo 0 400000 (at3 img (b + 2))) maxHeat
  let up := clampTo 0 50000 (at2 img (b + 8))
  let down := clampTo 0 50000 (at2 img (b + 10))
  let scale := clampTo 100 60000 (at2 img (b + 12))
  let input := namedInput img i .mass 14
  let startTime := clampTo 5 600 (at2 img (b + 16))
  let devPct := clampTo 1 50 (at1 img (b + 18))
  let devAbs := clampTo 0 60000 (at2 img (b + 19))
  let devTime := clampTo 2 600 (at2 img (b + 21))
  let unit : Option SlotUnit :=
    match input, namedOutput img i with
    | some k, some o =>
      some (.cf { par := { rank := rank, fuel := Fin.ofNat 8 fuel, minHeat := minHeat, maxHeat := maxHeat, rampUp := up,
                           rampDown := down, massScale := scale, input := k, output := o, startTime := startTime,
                           devPct := devPct, devAbs := devAbs, devTime := devTime } })
    | _, _ => none
  (unit,
    [pair (at1 img b) rank, pair (at1 img (b + 1)) fuel, pair (at3 img (b + 2)) minHeat, pair (at3 img (b + 5)) maxHeat,
     pair (at2 img (b + 8)) up, pair (at2 img (b + 10)) down, pair (at2 img (b + 12)) scale, inputPair img i 14 input,
     outputPair img i 15, pair (at2 img (b + 16)) startTime, pair (at1 img (b + 18)) devPct,
     pair (at2 img (b + 19)) devAbs, pair (at2 img (b + 21)) devTime])

/-- R92: low_water, 2, 4 or 8. -/
def takeLowWater (v : Nat) : Nat := if v = 2 ∨ v = 4 ∨ v = 8 then v else 4

/-- R92: high_water, low_water + 2 to 16. -/
def takeHighWater (low v : Nat) : Nat := min 16 (max (low + 2) v)

/-- R92: the energy limit of a DI slot. -/
def maxItemEnergy (maxItem : Nat) (fuel : Vector Nat 8) : Nat := maxItem * fuel.toList.foldl max 0 / 10

/-- R92, R178: a DI block as taken. -/
def takeDi (img : List Byte) (fuels : Vector Nat 8) (i : Fin 4) : Option SlotUnit × List Pair :=
  let b := blockAt i
  let rank := clampTo 1 15 (at1 img b)
  let fuel := clampTo 0 7 (at1 img (b + 1))
  let maxHeat := clampTo 0 400000 (at3 img (b + 5))
  let minHeat := min (clampTo 0 400000 (at3 img (b + 2))) maxHeat
  let up := clampTo 0 50000 (at2 img (b + 8))
  let down := clampTo 0 50000 (at2 img (b + 10))
  let input := namedInput img i .itemWeight 12
  let maxItem := clampTo 1 65535 (at2 img (b + 15))
  let minItem := min (clampTo 1 65535 (at2 img (b + 13))) maxItem
  let low := takeLowWater (at1 img (b + 17))
  let high := takeHighWater low (at1 img (b + 18))
  let windowS := clampTo 60 600 (at2 img (b + 19))
  let phase := clampTo 1 20 (at1 img (b + 21))
  let divertMs := clampTo 100 2000 (at2 img (b + 22))
  let unit : Option SlotUnit :=
    input.map fun k =>
      .di { par := { rank := rank, fuel := Fin.ofNat 8 fuel, minHeat := minHeat, maxHeat := maxHeat, rampUp := up,
                     rampDown := down, input := k, minItem := minItem, maxItem := maxItem, lowWater := low,
                     highWater := high, windowS := windowS, phaseTimeout := phase, divertMs := divertMs,
                     maxItemEnergy := maxItemEnergy maxItem fuels } }
  (unit,
    [pair (at1 img b) rank, pair (at1 img (b + 1)) fuel, pair (at3 img (b + 2)) minHeat, pair (at3 img (b + 5)) maxHeat,
     pair (at2 img (b + 8)) up, pair (at2 img (b + 10)) down, inputPair img i 12 input, pair (at2 img (b + 13)) minItem,
     pair (at2 img (b + 15)) maxItem, pair (at1 img (b + 17)) low, pair (at1 img (b + 18)) high,
     pair (at2 img (b + 19)) windowS, pair (at1 img (b + 21)) phase, pair (at2 img (b + 22)) divertMs])

/-- R113, R178: a CA block as taken. -/
def takeCa (img : List Byte) (i : Fin 4) : Option SlotUnit × List Pair :=
  let b := blockAt i
  let specAir := clampTo 50 1500 (at2 img b)
  let scale := clampTo 100 65535 (at2 img (b + 2))
  let maxAir := min (at2 img (b + 6)) scale
  let minAir := min (at2 img (b + 4)) maxAir
  let hot := clampTo 50 1000 (at2 img (b + 8))
  let boostStep := clampTo 0 50 (at1 img (b + 10))
  let boostMax := clampTo 0 100 (at1 img (b + 11))
  let tol := clampTo 1 50 (at1 img (b + 12))
  let devTime := clampTo 2 600 (at2 img (b + 13))
  let flow := namedInput img i .airFlow 16
  let temp := namedInput img i .airTemperature 17
  let outlet := namedInput img i .clinkerOutlet 18
  let asked := at1 img (b + 15) % 2 == 1
  let recup := asked && temp.isSome
  let unit : Option SlotUnit :=
    match flow, namedOutput img i with
    | some k, some o =>
      some (.ca { par := { specAir := specAir, airScale := scale, minAir := minAir, maxAir := maxAir, hotLimit := hot,
                           boostStep := boostStep, boostMax := boostMax, airTol := tol, devTime := devTime,
                           recuperating := recup, flowInput := k, tempInput := temp, outletInput := outlet,
                           output := o } })
    | _, _ => none
  (unit,
    [pair (at2 img b) specAir, pair (at2 img (b + 2)) scale, pair (at2 img (b + 4)) minAir,
     pair (at2 img (b + 6)) maxAir, pair (at2 img (b + 8)) hot, pair (at1 img (b + 10)) boostStep,
     pair (at1 img (b + 11)) boostMax, pair (at1 img (b + 12)) tol, pair (at2 img (b + 13)) devTime,
     pair (bit asked) (bit recup), inputPair img i 16 flow, inputPair img i 17 temp, inputPair img i 18 outlet,
     outputPair img i 19])

/-- R120, R178: a CG block as taken. -/
def takeCg (img : List Byte) (i : Fin 4) : Option SlotUnit × List Pair :=
  let b := blockAt i
  let sp := clampTo 0 20000 (at2 img b)
  let band := clampTo 0 5000 (at2 img (b + 2))
  let step := clampTo 1 100 (at1 img (b + 4))
  let scale := clampTo 10 1000 (at2 img (b + 5))
  let maxSpm := min (at2 img (b + 9)) scale
  let minSpm := min (at2 img (b + 7)) maxSpm
  let startSpm := clampTo minSpm maxSpm (at2 img (b + 11))
  let pHigh := clampTo 0 30000 (at2 img (b + 13))
  let rise := clampTo 100 10000 (at2 img (b + 15))
  let window := clampTo 5 60 (at1 img (b + 17))
  let flushEnd := clampTo 10 600 (at2 img (b + 18))
  let input := namedInput img i .bedPressure 20
  let unit : Option SlotUnit :=
    match input, namedOutput img i with
    | some k, some o =>
      some (.cg { par := { setpoint := sp, band := band, step := step, speedScale := scale, minSpeed := minSpm,
                           maxSpeed := maxSpm, startSpeed := startSpm, pHigh := pHigh, flushRise := rise,
                           flushWindow := window, flushEnd := flushEnd, input := k, output := o },
                  rate := startSpm })
    | _, _ => none
  (unit,
    [pair (at2 img b) sp, pair (at2 img (b + 2)) band, pair (at1 img (b + 4)) step, pair (at2 img (b + 5)) scale,
     pair (at2 img (b + 7)) minSpm, pair (at2 img (b + 9)) maxSpm, pair (at2 img (b + 11)) startSpm,
     pair (at2 img (b + 13)) pHigh, pair (at2 img (b + 15)) rise, pair (at1 img (b + 17)) window,
     pair (at2 img (b + 18)) flushEnd, inputPair img i 20 input, outputPair img i 21])

/-- A slot's block by the kind the image declares. -/
def takeBlock (img : List Byte) (fuels : Vector Nat 8) (i : Fin 4) : Option SlotUnit × List Pair :=
  match rawKind img i with
  | 1 => takeCf img i
  | 2 => takeDi img fuels i
  | 3 => takeCa img i
  | 4 => takeCg img i
  | _ => (none, [])

/-- R120: a lower-numbered slot has become the CG slot. -/
def lowerGrate (img : List Byte) (i : Fin 4) : Bool :=
  slotList.any fun j => decide (j < i) && rawKind img j == 4 && (takeCg img j).1.isSome

/-- R76, R92, R113, R120: the unit of a slot as taken. -/
def takeUnit (img : List Byte) (fuels : Vector Nat 8) (i : Fin 4) : SlotUnit :=
  if rawKind img i = 4 ∧ lowerGrate img i = true then .unused else (takeBlock img fuels i).1.getD .unused

/-- R178: a slot's kind and its block's fields. -/
def slotPairs (img : List Byte) (fuels : Vector Nat 8) (i : Fin 4) : List Pair :=
  pair (rawKind img i) (takeUnit img fuels i).kind :: (takeBlock img fuels i).2

/-! ## The input records (R63) -/

/-- R63: whether a unit uses an input for a role. -/
def SlotUnit.usesInput (u : SlotUnit) (r : Role) (k : Fin 16) : Bool :=
  match u with
  | .unused => false
  | .cf c => r == .mass && c.par.input == k
  | .di d => r == .itemWeight && d.par.input == k
  | .ca a =>
    (r == .airFlow && a.par.flowInput == k) || (r == .airTemperature && a.par.tempInput == some k) ||
      (r == .clinkerOutlet && a.par.outletInput == some k)
  | .cg g => r == .bedPressure && g.par.input == k

/-- R63: a role of the station as a whole. -/
def Role.ofStation (r : Role) : Bool := r == .ambient || r == .firing

/-- R63: a lower-numbered input serves a station-level role already. -/
def servedLower (img : List Byte) (k : Fin 16) : Bool :=
  inputList.any fun j => decide (j < k) && rawRole img j == rawRole img k && rawConsumer img j == 255

/-- R63: the role of an input as taken. The role table has a firing input at a desk station while none of R63's unmapped
cases names a station without the desk option: the model maps it at any station. A slot-level role whose consumer is 255
is unmapped and counts as a changed field; R63 names no such case either (DESIGN CHOICE, log entry 41). -/
def takeRole (img : List Byte) (units : Vector SlotUnit 4) (k : Fin 16) : Role :=
  match Role.all[rawRole img k]? with
  | none => .unmapped
  | some r =>
    if r.ofStation then (if rawConsumer img k = 255 ∧ servedLower img k = false then r else .unmapped)
    else if h : rawConsumer img k < 4 then
      (if (units[rawConsumer img k]).usesInput r k then r else .unmapped)
    else .unmapped

/-- R63 to R65: an input record as taken. -/
def takeInput (img : List Byte) (units : Vector SlotUnit 4) (k : Fin 16) : InputCfg :=
  let b := inputAt k
  { lo := clampInt (-1000000) 1000000 (signed3 (at3 img b)), hi := clampInt (-1000000) 1000000 (signed3 (at3 img (b + 3))),
    freshTime := clampTo 50 5000 (at2 img (b + 6)), holdTime := 1000 * clampTo 1 60 (at1 img (b + 8)),
    role := takeRole img units k, consumer := rawConsumer img k }

/-- R178: the fields of an input record. -/
def inputPairs (img : List Byte) (units : Vector SlotUnit 4) (k : Fin 16) : List Pair :=
  let b := inputAt k
  let c := takeInput img units k
  [(signed3 (at3 img b), c.lo), (signed3 (at3 img (b + 3)), c.hi), pair (at2 img (b + 6)) c.freshTime,
   pair (1000 * at1 img (b + 8)) c.holdTime, pair (rawRole img k) c.role.code]

/-! ## The response table (R129) -/

/-- R129: a row of the response table as taken. -/
def takeResponse (img : List Byte) (c : AlarmCode) : Response :=
  let b := 225 + 2 * c.index.val
  let raw := at1 img b
  let cls := if raw = 0 ∨ 4 < raw then c.defaultClass else raw
  let flags := at1 img (b + 1)
  { cls := cls, propagate := flags % 2 == 1 && cls != 4, floor := flags / 2 % 2 == 1 && c != .floorTrip }

/-- R178: the fields of a row of the response table. -/
def responsePairs (img : List Byte) (c : AlarmCode) : List Pair :=
  let b := 225 + 2 * c.index.val
  let r := takeResponse img c
  [pair (at1 img b) r.cls, pair (at1 img (b + 1) % 2) (bit r.propagate), pair (at1 img (b + 1) / 2 % 2) (bit r.floor)]

/-! ## The station's fields -/

/-- R39: period_ms. -/
def takePeriod (prescale count : Nat) : Nat := max 50 (prescale * count)

/-- R40: the publish divisor, raised until the publish interval is 100 ms or more. -/
def takeDivisor (period divisor : Nat) : Nat := if period * divisor < 100 then (100 + period - 1) / period else divisor

/-- R27: lost_time, at least 2 × stale_time. -/
def takeLost (stale lost : Nat) : Nat := max (2 * stale) lost

/-- R51: the fuel table as taken. -/
def takeFuels (img : List Byte) : Vector Nat 8 :=
  Vector.ofFn fun k : Fin 8 => clampTo 5000 40000 (at2 img (33 + 2 * k.val))

/-- R178: the units of the four slots as taken. -/
def takeUnits (img : List Byte) : Vector SlotUnit 4 := Vector.ofFn fun i => takeUnit img (takeFuels img) i

/-- R177, R178: the configuration that an accepted image gives. -/
def takeCfg (img : List Byte) : Cfg :=
  let period := takePeriod (clampTo 1 100 (at1 img 8)) (clampTo 1 250 (at1 img 9))
  let stale := clampTo 300 10000 (at2 img 11)
  { station := at1 img 2
    desk := at1 img 3 % 2 == 1
    period := period
    divisor := takeDivisor period (clampTo 1 16 (at1 img 10))
    staleTime := stale
    lostTime := takeLost stale (clampTo 1000 60000 (at2 img 13))
    lossHold := clampTo 0 300 (at2 img 15)
    targetSlew := clampTo 50 20000 (at2 img 17)
    firingRefresh := clampTo 1 60 (at1 img 19)
    capPct := clampTo 0 60 (at1 img 20)
    fireTol := clampTo 1 50 (at1 img 21)
    fireDevTime := clampTo 10 600 (at2 img 22)
    shiftLen := clampTo 4 12 (at1 img 24)
    collateS := clampTo 10 300 (at2 img 25)
    retain := clampTo 1 16 (at1 img 27)
    shc := clampTo 2600 4500 (at2 img 28)
    decayPm := clampTo 1 200 (at1 img 30)
    crStart := clampTo 0 40000 (at2 img 31)
    fuel := takeFuels img
    inputs := Vector.ofFn fun k => takeInput img (takeUnits img) k
    responses := Vector.ofFn fun j : Fin 21 => takeResponse img (AlarmCode.all.getD j.val .feedFailedToStart) }

/-- R39: the clamp of a product below 50 ms, as a field of its own. -/
def periodPair (img : List Byte) : Pair :=
  let product := clampTo 1 100 (at1 img 8) * clampTo 1 250 (at1 img 9)
  pair product (max 50 product)

/-- R178: the fields of the station. -/
def stationPairs (img : List Byte) (c : Cfg) : List Pair :=
  [pair (at1 img 8) (clampTo 1 100 (at1 img 8)), pair (at1 img 9) (clampTo 1 250 (at1 img 9)), periodPair img,
   pair (at1 img 10) c.divisor, pair (at2 img 11) c.staleTime, pair (at2 img 13) c.lostTime,
   pair (at2 img 15) c.lossHold, pair (at2 img 17) c.targetSlew, pair (at1 img 19) c.firingRefresh,
   pair (at1 img 20) c.capPct, pair (at1 img 21) c.fireTol, pair (at2 img 22) c.fireDevTime, pair (at1 img 24) c.shiftLen,
   pair (at2 img 25) c.collateS, pair (at1 img 27) c.retain, pair (at2 img 28) c.shc, pair (at1 img 30) c.decayPm,
   pair (at2 img 31) c.crStart] ++
  (List.finRange 8).map fun k => pair (at2 img (33 + 2 * k.val)) c.fuel[k]

/-- R178: every field of an image, with the value taken. -/
def imagePairs (img : List Byte) : List Pair :=
  let units := takeUnits img
  stationPairs img (takeCfg img) ++ slotList.flatMap (slotPairs img (takeFuels img)) ++
    inputList.flatMap (inputPairs img units) ++ AlarmCode.all.flatMap (responsePairs img)

/-- R178: the clamped-field count, 0 to 1,024. -/
def clampedCount (img : List Byte) : Nat := min 1024 (changedFields (imagePairs img))

/-! ## The check (R177) -/

/-- R177: the length field of the image. -/
def imageLength (m : Memory) : Nat := at2 (m.readBytes 0 2) 0

/-- R177: whether a torn byte lies in the image. -/
def tornWithin (length : Nat) (torn : List Nat) : Bool := torn.any fun a => decide (a < length)

/-- R177: the image in the configuration area, where it passes the three checks. An image torn by a loss of supply fails
the CRC check, whose outcome on free bytes nothing can decide: a torn byte in it says so (log entry 17). -/
def Nonvolatile.image (nv : Nonvolatile) : Option (List Byte) :=
  let n := imageLength nv.config
  let img := nv.config.readBytes 0 n
  if 397 ≤ n ∧ n ≤ Config.configBytes ∧ tornWithin n nv.tornImage = false
      ∧ (crc16 (img.take (n - 2))).toNat = at2 img (n - 2) ∧ 1 ≤ at1 img 2 ∧ at1 img 2 ≤ 31 then
    some img
  else none

end Sys2Proof.Machine
end

