-- ==== Sys2Proof/Machine/Start.lean ====
section
/-! DEFINITION. The start: what RESET and a loss of supply cut off, the OTP read, the acceptance of the image, the start
scan, and the entry to the next state (R20, R38, R62, R69, R73 to R75, R91, R110, R128, R149, R158 to R162, R174 to
R179). -/

namespace Sys2Proof.Machine

/-! ## OTP blocks (R69, R179, R180, R184) -/

/-- The 32 bytes of an OTP block. -/
def Nonvolatile.block (nv : Nonvolatile) (b : Fin 16) : List Byte := nv.otp.readBytes (32 * b.val) 32

/-- R69, R184: a block is usable when it is locked and its sum is 0. -/
def Nonvolatile.usable (nv : Nonvolatile) (b : Fin 16) : Bool := nv.otpLocks[b] && byteSum (nv.block b) == 0

/-- R179: block 15 holds a valid freeze mark. -/
def Nonvolatile.frozen (nv : Nonvolatile) : Bool := nv.usable 15 && at1 (nv.block 15) 0 == 1

/-- Formats: the freeze mark: 0x01, 30 bytes 0xFF and the check. -/
def freezeMark : List Byte := [0x01] ++ List.replicate 30 0xFF ++ [sumCheck ([0x01] ++ List.replicate 30 0xFF)]

/-- A two-byte number as signed, in two's complement. -/
def signed2 (n : Nat) : Int := if n < 32768 then n else (n : Int) - 65536

/-- R69: the block of an output. -/
def calBlock (o : Fin 8) : Fin 16 := Fin.ofNat 16 (o.val + 1)

/-- R69: a latch with the calibration its block gives. -/
def Nonvolatile.calibrate (nv : Nonvolatile) (o : Fin 8) (l : Latch) : Latch :=
  let b := nv.block (calBlock o)
  if nv.usable (calBlock o) then
    { l with gain := clampInt (-8192) 8191 (signed2 (at2 b 0)), offset := clampInt (-2048) 2047 (signed2 (at2 b 2)),
             fallback := at2 b 4, feedMark := at1 b 6 % 2 == 1 }
  else { l with gain := 0, offset := 0, fallback := 0, feedMark := false }

/-! ## What is cut off (R20, R163, R175, R177) -/

/-- R163: the bytes a cut program may have left: free where a byte was to be programmed. -/
def tearData (k : Nat) (data : List Byte) : List Byte :=
  (data.zip (tornBytes k data.length)).map fun x => if x.1 = Memory.erasedByte then x.1 else x.2

/-- R169: how many bytes a program writes. -/
def ProgramOp.size (op : ProgramOp) : Nat := (op.records.map QRecord.size).sum

/-- R163: free bytes at the place of a program of the array. -/
def State.tearProgram (s : State) (op : ProgramOp) : State :=
  let s1 := { s with nv := { s.nv with array := s.nv.array.writeBytes op.address (tornBytes s.free op.size) } }
  s1.useFree op.size

/-- R163, R177: free bytes where an operation on the configuration area or an OTP block was cut or failed its verify. -/
def State.tearArea (s : State) : AreaOp → State
  | .write offset data =>
    let s1 := { s with nv := { s.nv with config := s.nv.config.program offset (tearData s.free data) } }
    s1.useFree data.length
  | .erase =>
    let s1 := { s with nv := { s.nv with config := s.nv.config.writeBytes 0 (tornBytes s.free Config.configBytes) } }
    s1.useFree Config.configBytes
  | .otp block data _ =>
    let s1 := { s with nv := { s.nv with otp := s.nv.otp.program (32 * block.val) (tearData s.free data) } }
    s1.useFree data.length
  | .freeze =>
    let s1 := { s with nv := { s.nv with otp := s.nv.otp.program 480 (tearData s.free freezeMark) } }
    s1.useFree 32

/-- R177: the offsets of the configuration area that an operation was changing: the still erased bytes that a CONFIG WRITE
programs, and every byte of a CONFIG ERASE. -/
def Nonvolatile.changedBy (nv : Nonvolatile) : AreaOp → List Nat
  | .write offset data =>
    ((List.range data.length).filter fun k =>
      data.getD k Memory.erasedByte != Memory.erasedByte && nv.config.read (offset + k) == Memory.erasedByte).map (offset + ·)
  | .erase => List.range Config.configBytes
  | .otp .. => []
  | .freeze => []

/-- R177: a loss of supply tears the bytes of the configuration area that the operation in flight was changing. -/
def State.markTorn (s : State) : State :=
  match s.store.area with
  | none => s
  | some op => { s with nv := { s.nv with tornImage := s.nv.tornImage ++ s.nv.changedBy op } }

/-- R175: the engine's operation in flight is cut. -/
def State.cutOps (s : State) : State :=
  let s1 := match s.store.program with
    | none => s
    | some op => s.tearProgram op
  match s.store.area with
  | none => s1
  | some op => s1.tearArea op

/-- R110: the in-hand count of every slot. -/
def State.countInHand (s : State) : Vector (Option Nat) 4 :=
  s.channels.slots.map fun u =>
    match u with
    | .di d => some d.inHand
    | _ => some 0

/-- R20, R38, R62, R75, R91, R110, R128, R149, R162, R175, R181: every volatile block at its value after either start;
the memories, the latches and the in-hand counts are kept. -/
def State.quiet (s : State) (inHand : Vector (Option Nat) 4) : State :=
  { pending := s.pending, supply := s.supply, resetHeld := s.resetHeld, strap := s.strap, protection := s.protection,
    nv := s.nv, map := s.map, output := { latches := s.output.latches }, channels := { inHand := inHand }, free := s.free }

/-- R14, R15, R176: RESET is asserted: the station leaves RUN, an attempt on the medium is counted, and what was in progress
ends. The link's values of R20 come with the start; the other volatile blocks take theirs as RESET is asserted (DESIGN
CHOICE, log entry 44). -/
def State.assertReset (s : State) : State :=
  { s.cutOps.quiet s.countInHand with resetHeld := true, link := s.leaveRun.link }

/-- R163: the latest event's map writes after the first `n` are taken back, with a program begun after them. -/
def State.undoMap (s : State) (n : Nat) : State :=
  let undone := s.mapLog.take (s.mapLog.length - n)
  let program := if s.programNew && !undone.isEmpty then none else s.store.program
  { s with map := undone.foldl MapRegion.undo s.map, store := { s.store with program := program } }

/-- R20, R73, R110, R177: the supply is lost: the latches keep nothing, and the in-hand counts are unknown. -/
def State.loseSupply (s : State) (mapWrites : Option Nat) : State :=
  let s1 := match mapWrites with
    | none => s
    | some n => s.undoMap n
  { s1.markTorn.cutOps.quiet (Vector.replicate 4 none) with supply := false, resetHeld := false, output := {} }

/-! ## Step 1: the OTP read (R69, R72 to R74, R179) -/

/-- R73, R74: a latch when the calibration blocks have been read. -/
def Nonvolatile.startLatch (nv : Nonvolatile) (line : Bool) (o : Fin 8) (old : Latch) : Latch :=
  let l := nv.calibrate o {}
  { l with count := if l.feedMark then 0 else if line then old.count else l.fallback,
           kind := if l.feedMark then .feed else .unused, carried := line && !l.feedMark, pending := true }

/-- R179: the protection state. -/
def Nonvolatile.protect (nv : Nonvolatile) (strap : Bool) : Protection :=
  if nv.frozen then .frozen else if strap then .commission else .locked

/-- R69, R72 to R74, R179: step 1. -/
def State.readOtp (s : State) (line : Bool) : State :=
  let latches : Vector Latch 8 := Vector.ofFn fun o : Fin 8 => s.nv.startLatch line o (s.latch o)
  State.kickStream
    { s with protection := s.nv.protect s.strap,
             output := { latches := latches, streaming := true, refreshDue := some (s.now + 200) } }

/-! ## Step 2: acceptance (R39, R65, R70, R73, R74, R110, R112, R178) -/

/-- The output a unit uses. -/
def SlotUnit.output : SlotUnit → Option (Fin 8)
  | .cf c => some c.par.output
  | .ca a => some a.par.output
  | .cg g => some g.par.output
  | _ => none

/-- R70: the slot that an output is mapped to. -/
def State.outputOwner (s : State) (o : Fin 8) : Option (Fin 4) := slotList.find? fun i => (s.slot i).output == some o

/-- R70: the kind the configuration gives an output. -/
def State.outputKind (s : State) (o : Fin 8) : OutputKind :=
  match s.outputOwner o with
  | none => .unused
  | some i => if (s.slot i).isCooler then .cooler else .feed

/-- R69, R70, R73, R74: an output takes the kind and owner the configuration gives it. -/
def State.mapOutput (s : State) (o : Fin 8) : State :=
  let kind := s.outputKind o
  let l := s.latch o
  let mismatch := (kind == .feed) != l.feedMark
  let unusable := (s.outputOwner o).isSome && !s.nv.usable (calBlock o)
  let s1 := s.setLatch o { l with kind := kind, owner := s.outputOwner o, carried := l.carried && kind == .cooler }
  let mism := if mismatch then up16 s1.output.feedMarkMismatches else s1.output.feedMarkMismatches
  let unus := if unusable then up16 s1.output.calibrationUnusable else s1.output.calibrationUnusable
  let s2 := { s1 with output := { s1.output with feedMarkMismatches := mism, calibrationUnusable := unus } }
  if kind = .cooler then s2 else s2.writeLatch o 0

/-- R110: the gate of a DI slot from the acceptance of the image. -/
def SlotUnit.begin (now : Nat) : SlotUnit → SlotUnit
  | .di d => .di (d.enterGate now .lowerClosing)
  | u => u

/-- R65, R67: an input at the acceptance of the image. An item-weight input keeps the weight of its last event; before its
first, which the rules give no value, it shows weight 0 with the never-sampled mark clear (DESIGN CHOICE, log entry 56). -/
def InputCfg.begin (c : InputCfg) (now : Nat) : Input :=
  if c.role.timed then { freshness := .held, holdDue := some (now + c.holdTime), neverSampled := true } else {}

/-- R177, R178: the image is accepted. -/
def State.acceptImage (s : State) (img : List Byte) : State :=
  let g := takeCfg img
  let slots := (takeUnits img).map (SlotUnit.begin s.now)
  let s1 := { s with
    cfg := some g, clampedFields := clampedCount img,
    heat := { s.heat with updateDue := some (s.now + g.period) },
    fields := { s.fields with inputs := g.inputs.map fun (c : InputCfg) => c.begin s.now },
    channels := { s.channels with slots := slots } }
  let s2 := { s1 with channels := { s1.channels with estimate := if s1.hasCooler then g.crStart else 0 } }
  let s3 := outputList.foldl State.mapOutput s2
  let s4 := if 0 < s3.clampedFields then s3.ask (.raise .configClamped 255) else s3
  s4.settle

/-! ## Step 3: the start scan (R174) -/

/-- R174, 1: a chain as it is followed, and whether it ends in a LAST entry within 128 granules. -/
def MapRegion.trace (m : MapRegion) : Nat → Fin 128 → List (Fin 128) × Bool
  | 0, _ => ([], false)
  | n + 1, g =>
    match m.alloc[g] with
    | .next h =>
      let r := MapRegion.trace m n h
      (g :: r.1, r.2)
    | .last _ => ([g], true)
    | _ => ([], false)

/-- R174, 1: the chain of an entry is walked, cut where it does not end, and its last granule corrected. -/
def State.repairChain (s : State) (e : Fin 32) : State :=
  let d := s.dir e
  match d.state, d.first with
  | .empty, _ => s
  | _, none => if d.last.isSome then s.writeDir e { d with last := none } else s
  | _, some g =>
    let r := s.map.trace 128 g
    let s1 :=
      if r.2 then s
      else
        let s' := match r.1.getLast? with
          | none => s
          | some l => s.writeGranule l (.last 16)
        s'.countStore fun c => { c with chainsRepaired := up16 c.chainsRepaired }
    let first := if r.1.isEmpty then none else some g
    if d.last = r.1.getLast? ∧ d.first = first then s1 else s1.writeDir e { d with last := r.1.getLast?, first := first }

/-- R174, 2: the granules that lie in a chain. -/
def State.chained (s : State) : List (Fin 128) :=
  entryList.flatMap fun e => if (s.dir e).state = .empty then [] else s.map.chain (s.dir e)

/-- R174, 2: an allocated granule in no chain is written ERASING. -/
def State.orphanGranule (inChain : List (Fin 128)) (s : State) (g : Fin 128) : State :=
  if s.map.alloc[g].allocated ∧ ¬ inChain.contains g then
    (s.writeGranule g .erasing).countStore fun c => { c with orphans := up16 c.orphans }
  else s

/-- One byte of a chain: page index and byte. -/
def State.chainByte (s : State) (chain : List (Fin 128)) (page byte : Nat) : Nat :=
  (s.nv.array.read (chainAddress chain page byte)).toNat

/-- The bytes of a chain's page from a byte. -/
def State.chainBytes (s : State) (chain : List (Fin 128)) (page byte n : Nat) : List Byte :=
  s.nv.array.readBytes (chainAddress chain page byte) n

/-- R166, R174: a record at a position: its size where its check is valid and it does not run past its page. -/
def State.recordAt (s : State) (chain : List (Fin 128)) (page byte : Nat) : Option Nat :=
  if 256 ≤ byte + 1 then none
  else
    let size := s.chainByte chain page (byte + 1) + 3
    if 256 < byte + size then none
    else if byteSum (s.chainBytes chain page byte size) = 0 then some size
    else none

/-- R174, 3: what reading a file finds: the append point, the records, and the last valid record's type and time. -/
structure Reading where
  page : Nat
  byte : Nat
  records : Nat := 0
  last : Option (Nat × Nat) := none
deriving DecidableEq, Repr

/-- R174, 3: the position after a byte count of a page. -/
def nextPosition (page byte : Nat) : Nat × Nat := if 256 ≤ byte then (page + 1, 0) else (page, byte)

/-- R166, R174, 3: records are read from a position by the reader's rule, to the first page that begins with 0xFF or
the chain's end. A record with an invalid check or an overrunning length is torn: the append point moves past its page. -/
def State.readOn (s : State) (chain : List (Fin 128)) : Nat → Nat → Nat → Reading → Reading
  | 0, _, _, r => r
  | n + 1, page, byte, r =>
    if 16 * chain.length ≤ page then r
    else if s.chainByte chain page byte = 0xFF then
      if byte = 0 then r else State.readOn s chain n (page + 1) 0 r
    else
      match s.recordAt chain page byte with
      | none => State.readOn s chain n (page + 1) 0 { r with page := page + 1, byte := 0 }
      | some size =>
        let next := nextPosition page (byte + size)
        let type := s.chainByte chain page byte
        let time := at2 (s.chainBytes chain page (byte + 2) 2) 0 * 65536 + at2 (s.chainBytes chain page (byte + 4) 2) 0
        State.readOn s chain n next.1 next.2
          { page := next.1, byte := next.2, records := r.records + 1, last := some (type, time) }

/-- R166, R174, 3: the valid records of a file from a position to its append point, by the reader's rule: how many they
are, and the type and time of the last. -/
def State.readAll (s : State) (chain : List (Fin 128)) (stop : Nat) : Nat → Nat → Nat → Nat × Option (Nat × Nat) →
    Nat × Option (Nat × Nat)
  | 0, _, _, r => r
  | n + 1, page, byte, r =>
    if stop ≤ page * 256 + byte then r
    else if s.chainByte chain page byte = 0xFF then State.readAll s chain stop n (page + 1) 0 r
    else
      match s.recordAt chain page byte with
      | none => State.readAll s chain stop n (page + 1) 0 r
      | some size =>
        let next := nextPosition page (byte + size)
        let type := s.chainByte chain page byte
        let time := at2 (s.chainBytes chain page (byte + 2) 2) 0 * 65536 + at2 (s.chainBytes chain page (byte + 4) 2) 0
        State.readAll s chain stop n next.1 next.2 (r.1 + 1, some (type, time))

/-- More positions than a chain of 128 granules holds. -/
def readFuel : Nat := 180000

/-- R174, 3: the page count of the last granule that an append point gives. -/
def pagesUsed (granules page byte : Nat) : Nat :=
  max 1 ((if byte = 0 then page else page + 1) - 16 * (granules - 1))

/-- R174, 3: what the scan finds of an OPEN or COLLATING file: its append point and its record count. A chain that has
been cut short of the write position has its append point at its end and the records up to there (log entry 24). -/
def State.appendPoint (s : State) (chain : List (Fin 128)) (d : DirEntry) : Reading :=
  let stop := Config.granuleBytes * chain.length
  if stop < d.page * 256 + d.byte then
    { page := 16 * chain.length, byte := 0, records := (s.readAll chain stop readFuel 0 0 (0, none)).1 }
  else
    let r := s.readOn chain readFuel d.page d.byte { page := d.page, byte := d.byte }
    { r with records := d.records + r.records }

/-- R174, 3: an OPEN or COLLATING file's append point is found and its map entries rewritten to match. -/
def State.scanFile (s : State) (e : Fin 32) : State :=
  let d := s.dir e
  let chain := s.map.chain d
  let r := s.appendPoint chain d
  let d1 := { d with page := r.page, byte := r.byte, records := min 65535 r.records }
  let s1 := if d1 = d then s else s.writeDir e d1
  match d.last with
  | none => s1
  | some g =>
    let v : Granule := .last (min 16 (pagesUsed chain.length r.page r.byte))
    if s1.map.alloc[g] = v then s1 else s1.writeGranule g v

/-- Whether an entry stands OPEN or COLLATING. -/
def State.unfinished (s : State) (e : Fin 32) : Bool := (s.dir e).state == .opened || (s.dir e).state == .collating

/-- R174: the scan's report of one file. -/
def State.reportOf (s : State) (e : Fin 32) : FileReport :=
  let d := s.dir e
  { entry := e, collating := d.state == .collating,
    last := if d.state = .opened then (s.readAll (s.map.chain d) d.length readFuel 0 0 (0, none)).2 else none }

/-- R174: the start scan. -/
def State.startScan (s : State) : State :=
  let s1 := entryList.foldl State.repairChain s
  let s2 := granuleList.foldl (State.orphanGranule s1.chained) s1
  (entryList.filter s2.unfinished).foldl State.scanFile s2

/-- R174: the scan's reports. The rule does not order them: the model takes the files in the order of their directory
entries (DESIGN CHOICE, log entry 50). -/
def State.reports (s : State) : List FileReport := (entryList.filter s.unfinished).map s.reportOf

/-! ## Step 4 (R37, R158 to R160, R176) -/

/-- R176: the next state is entered; in LISTEN the listen timer starts and the accountant takes the scan's reports. -/
def State.enterNext (s : State) : State :=
  if s.cfg.isNone then State.runStore { s with station := .startHalt }
  else if s.protection = .commission then State.runStore { s with station := .commission }
  else
    let due := some (s.now + s.lostTime)
    let s1 := { s with station := .listen, picture := { s.picture with listenDue := due } }
    State.runStore (s1.reports.foldl State.takeReport s1)

/-- R176: a start of either kind. -/
def State.start (s : State) (line strap : Bool) : State :=
  let s1 := { s.quiet s.channels.inHand with supply := true, resetHeld := false, strap := strap }
  let s2 := State.readOtp { s1 with accountant := { restartDue := true, lineStart := line } } line
  let s3 := match s2.nv.image with
    | none => s2
    | some img => s2.acceptImage img
  s3.startScan.enterNext.settle

end Sys2Proof.Machine
end

