-- ==== Sys2Proof/Machine/Port.lean ====
section
/-! DEFINITION. The service port: write commands and their results, the engine's operations for them, the read window,
the prefetch buffer and STREAM (R180 to R182). -/

namespace Sys2Proof.Machine

/-! ## The read window (R182) -/

/-- R165, R171, R182: the length of the file a window is open on. R182 gives a window on an EMPTY entry the length 0 and
does not say what it sees once the entry is written OPEN: the model reads the entry as it stands, so it shows the new file's
length (DESIGN CHOICE, log entry 53). -/
def State.windowLength (s : State) (w : ReadWindow) : Nat := if w.dead then 0 else (s.dir w.entry).length

/-- R182: the byte of a file at an offset of its chain. A CLOSED file whose chain the scan has cut (R174) keeps its write
position; the spec does not say what a read past the chain's end shows: a free value (DESIGN CHOICE, log entry 51). -/
def State.fileByte (s : State) (chain : List (Fin 128)) (offset : Nat) : Byte :=
  if offset < Config.granuleBytes * chain.length then s.nv.array.read (chainAddress chain (offset / 256) (offset % 256))
  else Config.unlinkedByte offset

/-- R182: the file's bytes from an offset, at most `n`, each granule found from the allocation table now. -/
def State.fileBytes (s : State) (w : ReadWindow) (offset n : Nat) : List Byte :=
  (List.range (min n (s.windowLength w - offset))).map fun i => s.fileByte (s.map.chain (s.dir w.entry)) (offset + i)

/-- R182: the window is closed, which lets a suspended erase resume. -/
def State.closeWindow (s : State) : State :=
  if s.port.window.isSome then
    State.runStore { s with port := { s.port with window := none, buffer := [], reading := false } }
  else s

/-- R182: whether a read ahead is due in AUTO: the buffer holds fewer than 32 bytes and the file has more. -/
def State.readAhead (s : State) (w : ReadWindow) : Bool :=
  !w.fixed && decide (s.port.buffer.length < 32) && decide (w.offset + s.port.buffer.length < s.windowLength w)

/-- R182: a read for the buffer is started where it is due; the store is told. -/
def State.portKick (s : State) : State :=
  match s.port.window with
  | none => s
  | some w => if s.readAhead w then State.runStore { s with port := { s.port with reading := true } } else s

/-- R182: the WINDOW command. -/
def State.openWindow (s : State) (entry mode : Byte) (offset : BitVec 24) : State :=
  let s1 := s.closeWindow
  if h : entry.toNat < 32 then
    if mode.toNat ≤ 1 then
      let w : ReadWindow := { entry := ⟨entry.toNat, h⟩, fixed := mode == 1, offset := offset.toNat }
      State.portKick { s1 with port := { s1.port with window := some w, buffer := [], reading := false } }
    else s1
  else s1

/-- R182: whether the array can be read now: no program runs, and no erase runs unsuspended. The rule names a PROGRAM and
an ERASE of the array alone: the model lets a read go ahead while the engine programs or erases the configuration area or an
OTP block (DESIGN CHOICE, log entry 52). -/
def State.arrayReadable (s : State) : Bool :=
  s.store.program.isNone &&
    match s.store.erase with
    | none => true
    | some x => x.suspended

/-- R182: a read for the buffer ends. -/
def State.readEnds (s : State) : State :=
  match s.port.window with
  | none => s
  | some w =>
    if s.port.reading && s.arrayReadable then
      let old := s.port.buffer
      let fresh := s.fileBytes w (w.offset + old.length) ((if w.fixed then 16 else 32) - old.length)
      State.runStore { s with port := { s.port with buffer := old ++ fresh, reading := false } }
    else s

/-! ## STREAM (R182) -/

/-- R182: the buffer holds the bytes that a unit sends. -/
def State.unitReady (s : State) (w : ReadWindow) : Bool :=
  decide (min 16 (s.windowLength w - w.offset) ≤ s.port.buffer.length)

/-- R182: the 17 bytes of a unit as it is settled at its status byte. -/
def State.unitBytes (s : State) : List Byte :=
  match s.port.window with
  | none => 0xE0 :: List.replicate 16 0xFF
  | some w =>
    if s.windowLength w ≤ w.offset then 0xE0 :: List.replicate 16 0xFF
    else if s.unitReady w then
      let data := s.port.buffer.take (min 16 (s.windowLength w - w.offset))
      0x5A :: (data ++ List.replicate (16 - data.length) 0xFF)
    else 0x00 :: List.replicate 16 0xFF

/-- R182: the port starts the read that a unit answered NOT READY waits for. -/
def State.unitMissed (s : State) (w : ReadWindow) : State :=
  if s.port.reading then s
  else
    let buffer := if w.fixed then [] else s.port.buffer
    State.runStore { s with port := { s.port with buffer := buffer, reading := true } }

/-- R182: what a whole unit does: READY advances past the bytes sent, NOT READY starts the read it waits for. -/
def State.unitDone (s : State) : State :=
  match s.port.window with
  | none => s
  | some w =>
    if s.windowLength w ≤ w.offset then s
    else if s.unitReady w then
      let n := min 16 (s.windowLength w - w.offset)
      let w1 : ReadWindow := { w with offset := w.offset + n }
      let buffer := if w.fixed then [] else s.port.buffer.drop n
      State.portKick { s with port := { s.port with window := some w1, buffer := buffer } }
    else s.unitMissed w

/-- R182: what a unit cut short by the rise of chip select does: no offset moves. -/
def State.unitCut (s : State) : State :=
  match s.port.window with
  | none => s
  | some w =>
    if s.windowLength w ≤ w.offset then s
    else if s.unitReady w then s
    else s.unitMissed w

/-- R182: whole units, and then the bytes of a cut one. -/
def State.units : Nat → Nat → State → List Byte → State × List Byte
  | 0, rest, s, out => if rest = 0 then (s, out) else (s.unitCut, out ++ s.unitBytes.take rest)
  | n + 1, rest, s, out => State.units n rest s.unitDone (out ++ s.unitBytes)

/-- R182: the STREAM command, with as many response bytes as the master clocks. -/
def State.streamUnits (s : State) (clocked : Nat) : State :=
  let r := State.units (clocked / 17) (clocked % 17) s []
  { r.1 with port := { r.1.port with response := r.2 } }

/-! ## Write commands (R180, R181) -/

/-- R181: a write command's result. -/
def State.result (s : State) (r : Result) : State := { s with port := { s.port with lastResult := r } }

/-- R181: the store engine is running any operation. -/
def State.engineBusy (s : State) : Bool := s.store.program.isSome || s.store.erase.isSome || s.store.area.isSome

/-- R181: a program or erase command, tested in order; its own test answers a refusal or none. It clears the
write-enable latch whether it is taken or refused. -/
def State.areaCommand (s : State) (refusal : Option Result) (op : AreaOp) : State :=
  let s1 := s.closeWindow
  let s2 := { s1 with port := { s1.port with writeEnable := false } }
  if s1.protection ≠ .commission ∨ s1.port.writeEnable = false then s2.result .locked
  else if s1.engineBusy then s2.result .busy
  else
    match refusal with
    | some r => s2.result r
    | none => State.result { s2 with store := { s2.store with area := some op } } .inProgress

/-- R181: the range test of CONFIG WRITE. -/
def writeRefusal (offset count : Nat) : Option Result :=
  if count = 0 ∨ 64 < count ∨ Config.configBytes < offset + count then some .range else none

/-- R180: the tests of OTP WRITE. -/
def State.otpRefusal (s : State) (block : Nat) : Option Result :=
  if 14 < block then some .range
  else if s.nv.otpLocks[Fin.ofNat 16 block] then some .locked
  else none

/-- R180: the test of FREEZE. -/
def State.freezeRefusal (s : State) : Option Result := if s.nv.image.isNone then some .invalid else none

/-- R181: the last command result after a completion: a taken command holds IN PROGRESS until then, and the result of a
write command that came after it stays. -/
def Result.completed (now completion : Result) : Result := if now = .inProgress then completion else now

/-- R181: an operation of the port has ended; the engine is idle and chooses again. -/
def State.areaDone (s : State) (r : Result) : State :=
  State.runStore (State.result { s with store := { s.store with area := none } } (s.port.lastResult.completed r))

/-- R177: the torn bytes that a write of a range which ended DONE has not written whole. -/
def mend (torn : List Nat) (offset n : Nat) : List Nat :=
  torn.filter fun a => !(decide (offset ≤ a) && decide (a < offset + n))

/-- R181: a CONFIG WRITE's program ends: the bytes written are compared with the data. -/
def State.configWritten (s : State) (offset : Nat) (data : List Byte) : State :=
  let config := s.nv.config.program offset data
  let same := config.readBytes offset data.length == data
  let torn := if same then mend s.nv.tornImage offset data.length else s.nv.tornImage
  State.areaDone { s with nv := { s.nv with config := config, tornImage := torn } } (if same then .done else .verifyFailed)

/-- R181: a CONFIG ERASE ends: all 1,024 bytes read 0xFF. -/
def State.configErased (s : State) : State :=
  State.areaDone
    { s with nv := { s.nv with config := s.nv.config.eraseBytes 0 Config.configBytes, tornImage := [] } } .done

/-- R180: an OTP block is programmed and compared with the data; equal, its lock is set where it was asked for. -/
def State.otpProgrammed (s : State) (block : Fin 16) (data : List Byte) (lock : Bool) : State × Bool :=
  let nv1 := { s.nv with otp := s.nv.otp.program (32 * block.val) data }
  let same := nv1.otp.readBytes (32 * block.val) data.length == data
  let locks := if same && lock then nv1.otpLocks.set block true else nv1.otpLocks
  ({ s with nv := { nv1 with otpLocks := locks } }, same)

/-- R180: an OTP WRITE's program ends. -/
def State.otpWritten (s : State) (block : Fin 16) (data : List Byte) (lock : Bool) : State :=
  let r := s.otpProgrammed block data lock
  r.1.areaDone (if r.2 then .done else .verifyFailed)

/-- R180: the program of the freeze mark ends; the protection state is FROZEN once block 15 holds a valid mark. -/
def State.freezeWritten (s : State) (pass : Bool) : State :=
  let r := if pass then s.otpProgrammed 15 freezeMark true else (s.tearArea .freeze, false)
  let protection := if r.1.nv.frozen then .frozen else r.1.protection
  State.areaDone { r.1 with protection := protection } (if r.2 then .done else .verifyFailed)

/-- R181: the engine's verify of a configuration operation has ended. -/
def State.configCompletes (s : State) (pass : Bool) : State :=
  match s.store.area with
  | some (.write offset data) =>
    if pass then s.configWritten offset data else (s.tearArea (.write offset data)).areaDone .verifyFailed
  | some .erase => if pass then s.configErased else (s.tearArea .erase).areaDone .verifyFailed
  | _ => s

/-- R180: the engine's verify of an OTP program has ended. -/
def State.otpCompletes (s : State) (pass : Bool) : State :=
  match s.store.area with
  | some (.otp block data lock) =>
    if pass then s.otpWritten block data lock else (s.tearArea (.otp block data lock)).areaDone .verifyFailed
  | some .freeze => s.freezeWritten pass
  | _ => s

/-- R172: a FLUSH waits from now on for every record that could be programmed now. The marks stay until their records are
programmed or dropped, also where no erase is in flight as the command is taken (DESIGN CHOICE, log entry 73). -/
def State.markFlush (s : State) : State :=
  { s with store := { s.store with
      queue := s.store.queue.map fun (r : QRecord) => if s.programmable r then { r with flushed := true } else r } }

/-- R172, R181: the FLUSH command. -/
def State.flushQueue (s : State) : State := (s.closeWindow.result .done).markFlush.runStore

/-! ## Completions of the array (R169, R171, R173) -/

/-- R169: the write position after a number of bytes from a position. -/
def advance (d : DirEntry) (page byte : Nat) : DirEntry :=
  let p := nextPosition page byte
  { d with page := p.1, byte := p.2 }

/-- R169: the directory entry after a program that passed. -/
def DirEntry.programmed (d : DirEntry) (op : ProgramOp) : DirEntry :=
  let d1 := advance d op.page (op.byte + op.size)
  { d1 with records := min 65535 (d.records + op.records.length),
            restartMark := d.restartMark || op.records.any fun r => r.type == .restart,
            saturated := d.saturated || op.records.any fun r => r.saturated }

/-- R169: whether a record of the queue was carried by a program. -/
def ProgramOp.carried (op : ProgramOp) (r : QRecord) : Bool := op.records.any fun q => q.seq == r.seq

/-- R169: a program ends with a pass. -/
def State.programPasses (s : State) (op : ProgramOp) : State :=
  let bytes := op.records.flatMap (QRecord.bytes (s.aux op.file).base)
  let s1 := { s with nv := { s.nv with array := s.nv.array.writeBytes op.address bytes } }
  State.dequeue (s1.writeDir op.file ((s1.dir op.file).programmed op)) op.carried

/-- R169: a program ends with a failure: the position is skipped; records that fail a second time are dropped, each with the
clear of JOURNAL GAP that an empty queue asks for before its raise (DESIGN CHOICE, log entry 68). -/
def State.programFails (s : State) (op : ProgramOp) : State :=
  let s1 := (s.tearProgram op).countStore fun c => { c with programFailures := up16 c.programFailures }
  let s2 := s1.writeDir op.file { s1.dir op.file with page := op.page + 1, byte := 0 }
  let q := s2.store.queue.map fun (r : QRecord) => if op.carried r then { r with fails := r.fails + 1 } else r
  let s3 := { s2 with store := { s2.store with queue := q } }
  (q.filter fun r => decide (2 ≤ r.fails)).foldl (fun t r => (t.dequeue fun x => x.seq == r.seq).dropRecord r) s3

/-- R169: a program of the array ends; the engine is idle and chooses again. -/
def State.programEnds (s : State) (pass : Bool) : State :=
  match s.store.program with
  | none => s
  | some op =>
    let s1 := { s with store := { s.store with program := none } }
    State.runStore (if pass then s1.programPasses op else s1.programFails op)

/-- R171, R173: an erase of a granule passes: it is FREE, and STORE FULL is cleared. -/
def State.erasePasses (s : State) (g : Fin 128) : State :=
  let array := s.nv.array.eraseBytes (g.val * Config.granuleBytes) Config.granuleBytes
  let s1 := State.writeGranule { s with nv := { s.nv with array := array } } g .free
  let s2 := s1.countStore fun c => { c with erases := up16 c.erases }
  s2.clearStoreFull

/-- R171: an erase of a granule fails: it is BAD. -/
def State.eraseFails (s : State) (g : Fin 128) : State :=
  (s.writeGranule g .bad).countStore fun c => { c with eraseFailures := up16 c.eraseFailures }

/-- R171, R172: an erase ends; it ends only when it is not suspended. -/
def State.eraseEnds (s : State) (pass : Bool) : State :=
  match s.store.erase with
  | none => s
  | some x =>
    if x.suspended then s
    else
      let s1 := { s with store := { s.store with erase := none } }
      State.runStore (if pass then s1.erasePasses x.granule else s1.eraseFails x.granule)

end Sys2Proof.Machine
end

