-- ==== Sys2Proof/Machine/Receive.lean ====
section
/-! DEFINITION. The medium as it is observed, the silence cause of LINK FAULT, and the receive side of the link with
DUPLICATE STATION (R3 to R7, R14, R18). -/

namespace Sys2Proof.Machine

/-! ## Medium and the silence cause (R14, R18) -/

/-- R14: the medium turns busy: a station in BACKOFF defers. The rule says of the backoff count only that the next BACKOFF
draws a fresh one: in AWAIT GAP it holds 0 (DESIGN CHOICE, log entry 54). -/
def State.mediumBusy (s : State) : State :=
  match s.link.access with
  | .backoff => { s with link := { s.link with mediumIdle := false, access := .awaitGap, backoff := 0 } }
  | .sending => s
  | _ => { s with link := { s.link with mediumIdle := false } }

/-- R1, R14: the quiet gap has passed: the medium is idle, and the receive side hunts again (R5). -/
def State.mediumQuiet (s : State) : State :=
  if s.link.access = .sending then s
  else State.kickAccess { s with link := { s.link with mediumIdle := true, deaf := false } }

/-- R14: one backoff slot passes with the medium idle. -/
def State.countSlot (s : State) : State :=
  if s.link.access = .backoff ∧ s.link.mediumIdle = true then
    if s.link.backoff ≤ 1 then { s with link := s.link.send }
    else { s with link := { s.link with backoff := s.link.backoff - 1 } }
  else s

/-- R18: the silence cause is set. -/
def State.setSilence (s : State) : State :=
  if s.link.silenceCause then s
  else
    let s1 := { s with link := { s.link with silenceCause := true } }
    if s.link.exhaustionCause then s1 else s1.ask (.raise .linkFault 255)

/-- R18: the silence cause ends. -/
def State.clearSilence (s : State) : State :=
  if s.link.silenceCause then
    let s1 := { s with link := { s.link with silenceCause := false } }
    if s.link.exhaustionCause then s1 else s1.ask (.clear .linkFault 255)
  else s

/-! ## Receiving (R3 to R7) -/

/-- R6: a frame with the station's own number. -/
def State.ownOrigin (s : State) : State :=
  let s1 := s.countLink fun c => { c with ownOrigin := up16 c.ownOrigin }
  let s2 := if s.link.duplicateDue.isNone then s1.ask (.raise .duplicateStation 255) else s1
  { s2 with link := { s2.link with duplicateDue := some (s.now + s.lostTime) } }

/-- R7: an accepted frame is handed on by kind. -/
def State.handOn (s : State) (origin : Nat) (n : Notice) : State :=
  match n with
  | .heat ch rank fuel st act cmd held starved => s.heatNotice origin ch rank fuel st act cmd held starved
  | .air ch role recup flush st q flow cr => s.airNotice origin ch role recup flush st q flow cr
  | .order epoch target => s.orderNotice origin epoch target
  | .alarm code ch cls ev occ => s.alarmNotice origin code ch cls ev occ
  | .ack o code ch occ => s.ackNotice origin o code ch occ
  | .mark m => s.markNotice m
  | .summary p => s.summaryNotice origin p

/-- R7, R18: a frame of another station is accepted. -/
def State.accept (s : State) (origin : Nat) (n : Notice) : State :=
  let s1 := s.countLink fun c => { c with accepted := up16 c.accepted }
  let s2 := if s.cfg.isSome then
      State.clearSilence { s1 with link := { s1.link with silenceDue := some (s1.now + s1.lostTime) } }
    else s1
  (s2.signOfLife origin).handOn origin n

/-- R4, R6: the checks of a complete frame, in order; the first it fails decides. -/
def State.checkFrame (s : State) (origin kind : Nat) (payload : List Byte) (checkHolds : Bool) : State :=
  if checkHolds = false then s.countLink fun c => { c with badCheck := up16 c.badCheck }
  else if origin = 0 ∨ 31 < origin then s.countLink fun c => { c with badOrigin := up16 c.badOrigin }
  else if kind = 0 ∨ 7 < kind then s.countLink fun c => { c with unknownKind := up16 c.unknownKind }
  else if lengthFits kind payload = false then s.countLink fun c => { c with lengthMismatch := up16 c.lengthMismatch }
  else if origin = s.ownNumber then s.ownOrigin
  else
    match Notice.parse kind payload with
    | none => s
    | some n => s.accept origin n

/-- R3, R5: a burst of another station, whole or cut short. -/
def State.hearBurst (s : State) (burst : List Byte) : State :=
  if s.link.deaf then s
  else
    let s1 := s.mediumBusy
    match assemble burst with
    | .ignored => s1
    | .badLength => s1.countLink fun c => { c with badLength := up16 c.badLength }
    | .short => s1.countLink fun c => { c with badCheck := up16 c.badCheck }
    | .frame origin kind payload ok => s1.checkFrame origin kind payload ok

end Sys2Proof.Machine
end

