-- ==== Sys2Proof/Machine/Snapshot.lean ====
section
/-! DEFINITION. The snapshots of the service port, byte by byte (R76, R92, R113, R120, R183, Formats). -/

namespace Sys2Proof.Machine

/-! ## Fields of a snapshot (Formats) -/

/-- Formats: the response of an index beyond a table's entries. -/
def noEntry : List Byte := [0xEE]

/-- Formats: a time: 4 bytes of whole seconds and 2 of milliseconds. -/
def timeBytes (ms : Nat) : List Byte := be4 (ms / 1000) ++ be2 (ms % 1000)

/-- Formats: a time that may be absent. -/
def runBytes : Option Nat → List Byte
  | none => List.replicate 6 0xFF
  | some t => timeBytes t

/-- Formats: the remaining time of a timer, 4 bytes in ms; 0xFF while it does not run. -/
def State.remaining (s : State) : Option Nat → List Byte
  | none => List.replicate 4 0xFF
  | some t => be4 (t - s.now)

/-- A flag as one byte. -/
def flagByte (b : Bool) : Byte := byte (bit b)

/-- Up to four marks in one byte, from bit 0. -/
def marks (a b c d : Bool) : Byte := byte (bit a + 2 * bit b + 4 * bit c + 8 * bit d)

/-- A serial number that may be none. -/
def serialBytes : Option Serial → List Byte
  | none => [0xFF, 0xFF]
  | some n => be2 n.toNat

/-- The place of a freshness state in its list. -/
def Freshness.code : Freshness → Nat
  | .fresh => 0 | .held => 1 | .failed => 2

/-- R65, R183: an input: scaled value, freshness state, never-sampled mark, samples and holds. -/
def State.inputBytes (s : State) (k : Fin 16) : List Byte :=
  let x := s.input k
  sbe3 x.value ++ [byte x.freshness.code, flagByte x.neverSampled] ++ be2 x.samples ++ be2 x.holds

/-- An input that may be absent. -/
def State.inputOrAbsent (s : State) : Option (Fin 16) → List Byte
  | none => List.replicate 9 0xFF
  | some k => s.inputBytes k

/-! ## STATUS -/

/-- The place of a station state in its list. -/
def StationState.code : StationState → Nat
  | .start => 0 | .listen => 1 | .run => 2 | .commission => 3 | .startHalt => 4

/-- The place of a protection state in its list. -/
def Protection.code : Protection → Nat
  | .frozen => 0 | .commission => 1 | .locked => 2

/-- Formats: the code of a result. -/
def Result.code : Result → Nat
  | .none => 0 | .done => 1 | .inProgress => 2 | .locked => 3 | .busy => 4 | .range => 5 | .invalid => 6 | .verifyFailed => 7

/-- R183: the store engine's state: idle 0, PROGRAM 1, ERASE running 2 or suspended 3, with its suspension count. With no erase in
flight the count is shown as 0, also right after an erase has ended, where no rule gives it a value (DESIGN CHOICE, log entry
70). -/
def State.engineBytes (s : State) : List Byte :=
  let count := match s.store.erase with
    | none => 0
    | some x => x.count
  let code := if s.store.program.isSome then 1
    else
      match s.store.erase, s.store.area with
      | some x, _ => if x.suspended then 3 else 2
      | none, some .erase => 2
      | none, some _ => 1
      | none, none => 0
  [byte code, byte count]

/-- How many granules stand in a state. -/
def State.granuleCount (s : State) (v : Granule) : Nat := granuleList.countP fun g => s.map.alloc[g] == v

/-- R20, R19: the link counters in their list's order. -/
def LinkCounters.list (c : LinkCounters) : List Nat :=
  [c.accepted, c.badCheck, c.badLength, c.badOrigin, c.unknownKind, c.lengthMismatch, c.ownOrigin, c.sent, c.collisions,
   c.exhaustionDiscards, c.coalesced, c.evicted, c.droppedA, c.droppedB, c.droppedC, c.droppedD]

/-- R38: the picture counters in their list's order. -/
def PictureCounters.list (c : PictureCounters) : List Nat :=
  [c.refusedNotices, c.fullRefusals, c.kindChanges, c.entriesLost, c.returns, c.absences, c.ordersAdopted,
   c.ordersConfirmed, c.ordersRefused, c.takesRefused]

/-- R148: the alarm counters in their list's order. -/
def AlarmCounters.list (c : AlarmCounters) : List Nat :=
  [c.duplicates, c.staleNotices, c.staleAcks, c.superseded, c.retryLost, c.reoffers, c.evictions, c.lostRaises]

/-- R162: the accountant's counters in their list's order. -/
def ShiftCounters.list (c : ShiftCounters) : List Nat :=
  [c.marksIgnored, c.collated, c.duplicateSummaries, c.lateSummaries]

/-- R175: the store's counters in their list's order. -/
def StoreCounters.list (c : StoreCounters) : List Nat :=
  [c.queueDrops, c.refusedAppends, c.programFailures, c.erases, c.eraseFailures, c.links, c.reclaims, c.suspensions,
   c.orphans, c.chainsRepaired]

/-- Formats, R183: every counter kept for the station as a whole, chapter by chapter. -/
def State.counterList (s : State) : List Nat :=
  s.link.counters.list ++ s.picture.counters.list ++
    [s.fields.sampleErrors, s.fields.unmappedSamples, s.output.calibrationUnusable, s.output.feedMarkMismatches] ++
    s.alarms.counters.list ++ s.accountant.counters.list ++ s.store.counters.list ++ [s.port.commandsDiscarded]

/-- R183: the station-level inputs that are mapped. -/
def State.stationInputs (s : State) : List (Fin 16) :=
  (s.stationInput .ambient).toList ++ (s.stationInput .firing).toList

/-- R183: the STATUS response. -/
def State.statusBytes (s : State) : List Byte :=
  [0x00, byte s.station.code, flagByte s.strap, byte s.protection.code] ++ be2 s.clampedFields ++
    [flagByte s.port.writeEnable, byte s.port.lastResult.code] ++ s.engineBytes ++
    [byte (s.granuleCount .free), byte (s.granuleCount .erasing), byte (s.granuleCount .bad)] ++
    serialBytes s.accountant.shift ++ s.remaining s.accountant.shiftDue ++ serialBytes s.accountant.collating ++
    s.remaining s.accountant.collationDue ++
    (if s.hasCooler then be2 s.channels.estimate ++ be2 s.channels.rawRate else List.replicate 4 0xFF) ++
    [byte s.stationInputs.length] ++ s.stationInputs.flatMap s.inputBytes ++ s.counterList.flatMap be2

/-! ## IDENT and DIR ENTRY -/

/-- R183: the IDENT response: the 32 bytes of OTP block 0, its lock, and whether it is usable, the last two as a byte
each and not as one byte of flags (DESIGN CHOICE, log entry 63). -/
def State.identBytes (s : State) : List Byte :=
  0x00 :: (s.nv.block 0 ++ [flagByte s.nv.otpLocks[0], flagByte (s.nv.usable 0)])

/-- Formats: the code of a file state. -/
def FileState.code : FileState → Nat
  | .empty => 0 | .opened => 1 | .collating => 2 | .closed => 3

/-- A granule number that may be absent. -/
def granuleByte : Option (Fin 128) → Byte
  | none => 0xFF
  | some g => byte g.val

/-- R183, Formats: a directory entry, its reserved and pending marks, and its chain. The closed time of an entry that is not yet
CLOSED is shown as 0 (DESIGN CHOICE, log entry 69). -/
def State.dirBytes (s : State) (e : Fin 32) : List Byte :=
  let d := s.dir e
  let x := s.aux e
  let flags := bit d.restartMark + 2 * bit d.gap + 4 * bit d.cut + 8 * bit d.saturated + 16 * bit x.reserved +
    32 * bit (!x.steps.isEmpty)
  let chain := if d.state = .empty then [] else s.map.chain d
  [0x00, byte d.state.code, byte flags] ++ be2 d.shift.toNat ++ [granuleByte d.first, granuleByte d.last] ++
    be2 d.page ++ [byte d.byte] ++ be2 d.records ++ be4 d.closeSeq ++ be4 d.openedTime ++ be4 d.closedTime ++
    be2 d.late ++ [byte chain.length] ++ chain.flatMap fun g => [byte g.val, byte s.map.alloc[g].code]

/-- R183: the DIR ENTRY response. It shows the map in START HALT too, where the start scan has run (R177): R183 has each table
empty there and does not say whether the directory is one of them (DESIGN CHOICE, log entry 74). -/
def State.dirResponse (s : State) (n : Nat) : List Byte := if h : n < 32 then s.dirBytes ⟨n, h⟩ else noEntry

/-! ## PICTURE ENTRY and ALARM ENTRY -/

/-- R22: an entry's age as its place in its list. -/
def Age.code : Age → Nat
  | .fresh => 0 | .stale => 1

/-- R22: the fields that a kind of entry has. -/
def PeerBody.bytes : PeerBody → List Byte
  | .feed act cmd fuel rank held starved =>
    be3 act ++ be3 cmd ++ [byte fuel, byte rank, marks held starved false false]
  | .air role recup q flow cr flush =>
    [byte role, flagByte recup] ++ be3 q ++ be2 flow ++ be2 cr ++ [flagByte flush]

/-- R22: the kind of an entry: feed 0, air 1. -/
def PeerBody.kind : PeerBody → Nat
  | .feed .. => 0 | .air .. => 1

/-- R183: an entry of the peer channel table. -/
def PeerEntry.bytes (e : PeerEntry) : List Byte :=
  [0x00, byte e.station, byte e.channel, byte e.body.kind, byte e.state] ++ e.body.bytes ++ [byte e.age.code] ++
    timeBytes e.last

/-- R183: the PICTURE ENTRY response. -/
def State.pictureResponse (s : State) (n : Nat) : List Byte :=
  match s.picture.entries[n]? with
  | none => noEntry
  | some e => e.bytes

/-- R183: an entry of the alarm table. -/
def AlarmEntry.bytes (e : AlarmEntry) : List Byte :=
  [0x00, byte e.origin, byte e.code.number, byte e.channel, byte e.cls] ++ be2 e.occurrence.toNat ++
    [byte e.state.number] ++ timeBytes e.raised ++ [marks e.latched e.unpublished e.ackUnpublished e.orphaned]

/-- R130, R183: the ALARM ENTRY response; the flood slot follows the table. -/
def State.alarmResponse (s : State) (n : Nat) : List Byte :=
  match s.alarms.all[n]? with
  | none => noEntry
  | some e => e.bytes

/-! ## CHANNEL VIEW -/

/-- R41: an allocation record; `mass` is none for a DI slot. -/
def AllocRec.bytes (r : AllocRec) (mass : Bool) : List Byte :=
  be3 r.credit ++ be3 r.effective ++ be3 r.required ++ be3 r.fill ++ sbe3 r.remainder ++ be3 r.share ++ be3 r.heat ++
    [byte (if r.held then 0 else 1), marks r.causes.picture r.causes.class2 r.causes.flush r.causes.deviation] ++
    (if mass then be2 r.mass else [0xFF, 0xFF])

/-- R76: the view of a CF slot. -/
def State.cfView (s : State) (c : CfSlot) : List Byte :=
  [byte c.state.code] ++ s.remaining c.startDue ++ [flagByte c.deviated] ++ runBytes c.raiseRun ++ runBytes c.clearRun ++
    [byte c.publish] ++ c.alloc.bytes true ++ s.inputBytes c.par.input

/-- R93: an item. -/
def Item.bytes (x : Item) : List Byte := be2 x.weight ++ [byte x.fuel.val] ++ be4 x.energy ++ timeBytes x.arrival

/-- The place of a gate state in its list. -/
def GateState.code : GateState → Nat
  | .ready => 0 | .upperOpening => 1 | .upperClosing => 2 | .lowerOpening => 3 | .lowerClosing => 4 | .jammed => 5

/-- R92: the view of a DI slot. The levels of the call line and the infeed stop line share one byte, call in bit 0 and stop
in bit 1: Formats packs flags and marks so and does not name levels (DESIGN CHOICE, log entry 63). -/
def State.diView (s : State) (d : DiSlot) : List Byte :=
  let item := match d.gate.item with
    | none => List.replicate 13 0xFF
    | some x => x.bytes
  [byte d.state.code, byte d.queue.length] ++ d.queue.flatMap Item.bytes ++ be4 d.debt ++ [byte d.gate.state.code] ++
    item ++ [flagByte d.gate.interrupted] ++ s.remaining d.gate.phaseDue ++ [marks d.call d.stopLine false false] ++
    be4 d.counters.weighed ++ be4 d.counters.fed ++ be4 d.counters.diverted ++ be4 d.counters.lost ++
    be4 d.counters.divertedWeight ++ be4 d.counters.divertedFull ++ d.alloc.bytes false ++ s.inputBytes d.par.input

/-- R113: the view of a CA slot. Its target is a_t in every state, also in OFF, FORCED and FAULT, where the slot hands
another (R113 does not say; DESIGN CHOICE, log entry 43). -/
def State.caView (s : State) (a : CaSlot) : List Byte :=
  [byte a.state.code] ++ be2 a.target ++ [byte a.boost] ++ be3 (s.recoveredHeat a) ++ [flagByte a.deviated] ++
    runBytes a.raiseRun ++ runBytes a.clearRun ++ runBytes a.responseRun ++ runBytes a.hotRaiseRun ++
    runBytes a.hotClearRun ++ [byte a.publish] ++ s.inputBytes a.par.flowInput ++ s.inputOrAbsent a.par.tempInput ++
    s.inputOrAbsent a.par.outletInput

/-- R120: the view of the CG slot. The rules do not order its runs: the model shows the calm run before the raise and the
clear run, as R128's table names them (DESIGN CHOICE, log entry 46). -/
def State.cgView (s : State) (g : CgSlot) : List Byte :=
  [byte g.state.code] ++ be2 g.rate ++ [byte g.rising.length] ++ (g.rising.flatMap fun x => timeBytes x.1 ++ sbe3 x.2) ++
    runBytes g.calmRun ++ runBytes g.raiseRun ++ runBytes g.clearRun ++ [byte g.publish] ++ s.inputBytes g.par.input

/-- R183: the view of a unit: its kind, and what its chapter names. -/
def State.unitView (s : State) (u : SlotUnit) : List Byte :=
  [0x00, byte u.kind] ++
    match u with
    | .unused => []
    | .cf c => s.cfView c
    | .di d => s.diView d
    | .ca a => s.caView a
    | .cg g => s.cgView g

/-- R183: the CHANNEL VIEW response. -/
def State.channelResponse (s : State) (n : Nat) : List Byte :=
  if h : n < 4 then s.unitView (s.slot ⟨n, h⟩) else noEntry

/-- R183: a read command other than STATUS closes the window and answers with a snapshot. -/
def State.answer (s : State) (f : State → List Byte) : State :=
  let s1 := s.closeWindow
  { s1 with port := { s1.port with response := f s1 } }

end Sys2Proof.Machine
end

