-- ==== Sys2Proof/Machine/AlarmEvents.lean ====
section
/-! DEFINITION. The meanings of the trip line's and the panel's events (R71, R102, R135, R144, R145). -/

namespace Sys2Proof.Machine

/-- R71: every FEED latch holds 0 while the trip line is observed asserted; written in output order (DESIGN CHOICE, log entry
71). -/
def State.zeroFeeds (s : State) : State :=
  outputList.foldl (fun x o => if (x.latch o).kind = .feed then x.writeLatch o 0 else x) s

/-- R71, R102, R142, R144: the observed level of the trip line changes: the FEED latches and the slots act at once, and
FLOOR TRIP is asked for where the alarm table runs. At an assertion the FEED latches are written 0 in output order first, the
slots take the trip cause after that, and the gates are interrupted last: R71, R82 and R144 do not order them (DESIGN CHOICE, log
entry 71). -/
def execTripLineObserved (asserted : Bool) (s : State) : Host.Outcome State Fault Refusal :=
  .next <| s.takeEvent fun t =>
    if t.alarms.observed = asserted then t
    else
      let u := { t with alarms := { t.alarms with observed := asserted } }
      let v := if asserted then u.zeroFeeds.evalTrips.eachSlot State.interrupt else u.evalTrips
      if v.cfg.isNone then v
      else v.ask (if asserted then .raise .floorTrip 255 else .clear .floorTrip 255)

/-- R135: a taken rising edge of the panel's acknowledge line. -/
def execAcknowledge (s : State) : Host.Outcome State Fault Refusal :=
  .next (s.takeEvent fun t => t.panelAckAll)

/-- R145: a taken rising edge of the panel's silence line; ignored in START HALT. -/
def execSilence (s : State) : Host.Outcome State Fault Refusal :=
  .next (s.takeEvent fun t => if t.cfg.isNone then t else { t with alarms := { t.alarms with silenced := true } })

end Sys2Proof.Machine
end

