-- ==== Sys2Proof/Machine/ControlEvents.lean ====
section
/-! DEFINITION. The meanings of the update timer's and the start timer's expiry (R39, R80). -/

namespace Sys2Proof.Machine

/-- R39: the update timer expires; a control update is taken. -/
def execControlUpdate (s : State) : Host.Outcome State Fault Refusal :=
  .next <| s.takeEvent fun t =>
    match t.heat.updateDue with
    | none => t
    | some due => t.updateExpires due

/-- R80: a start timer expires in STARTING. -/
def execStartTimerExpiry (slot : Fin 4) (s : State) : Host.Outcome State Fault Refusal :=
  .next <| s.takeEvent fun t =>
    t.onCf slot fun c =>
      match c.startDue with
      | none => t
      | some due =>
        let u := t.reach due
        if c.state = .starting then (u.cfStop slot c .fault).ask (.raise .feedFailedToStart slot.val)
        else u.setSlot slot (.cf { c with startDue := none })

end Sys2Proof.Machine
end

