-- ==== Sys2Proof/Machine/FieldEvents.lean ====
section
/-! DEFINITION. The meanings of the sample stream, the freshness timers, the permits, the initial levels and the drive stream (R63 to
R68, R72, R83, R84, R105, R106, R116, R117, R120, R124). -/

namespace Sys2Proof.Machine

/-- R63: a word of the sample stream arrives. -/
def execSampleWord (input : Fin 16) (raw : BitVec 16) (parityOk : Bool) (s : State) :
    Host.Outcome State Fault Refusal :=
  .next (s.takeEvent fun t => t.takeWord input raw.toNat parityOk)

/-- R65: a fresh timer expires. -/
def execFreshTimeExpiry (input : Fin 16) (s : State) : Host.Outcome State Fault Refusal :=
  .next <| s.takeEvent fun t =>
    match (t.input input).freshDue with
    | none => t
    | some due => (t.reach due).freshExpires input

/-- R65, R66: a hold timer expires. -/
def execHoldTimeExpiry (input : Fin 16) (s : State) : Host.Outcome State Fault Refusal :=
  .next <| s.takeEvent fun t =>
    match (t.input input).holdDue with
    | none => t
    | some due => (t.reach due).holdExpires input

/-- R68, R83, R84, R105, R106, R116, R117, R120: a taken edge of a run permit. A rising edge waits for a control update. -/
def execRunPermitEdge (slot : Fin 4) (level : Bool) (s : State) : Host.Outcome State Fault Refusal :=
  .next <| s.takeEvent fun t =>
    if t.cfg.isNone then t
    else
      let u := { t with fields := { t.fields with permits := t.fields.permits.set slot level } }
      if level then u
      else
        match u.slot slot with
        | .unused => u
        | .cf c => u.cfPermitFalls slot c
        | .di d => u.diPermitFalls slot d
        | .ca a => u.caPermitFalls slot a
        | .cg g => u.cgPermitFalls slot g

/-- R68: the initial level of a line. A permit's level is kept and a confirmation is tested by the gate; the other lines
act on their edges alone. -/
def execInitialLevel (line : InputLine) (level : Bool) (s : State) : Host.Outcome State Fault Refusal :=
  .next <| s.takeEvent fun t =>
    if t.cfg.isNone then t
    else
      match line with
      | .runPermit slot => { t with fields := { t.fields with permits := t.fields.permits.set slot level } }
      | .gate slot sw => t.confirm slot sw level
      | .jamClear _ => t
      | .take => t
      | .acknowledge => t
      | .silence => t

/-- R72: the drive word on the stream completes; the stream is free. -/
def execDriveWord (s : State) : Host.Outcome State Fault Refusal :=
  .next (s.takeEvent fun t => State.kickStream { t with output := { t.output with word := none } })

/-- R72: the drive refresh timer expires. -/
def execDriveRefreshTimerExpiry (s : State) : Host.Outcome State Fault Refusal :=
  .next <| s.takeEvent fun t =>
    match t.output.refreshDue with
    | none => t
    | some due =>
      let u := (t.reach due).markAllPending
      State.kickStream { u with output := { u.output with refreshDue := some (due + 200) } }

end Sys2Proof.Machine
end

