-- ==== Sys2Proof/Machine/GateEvents.lean ====
section
/-! DEFINITION. The meanings of an item gate's events (R94, R98 to R101). -/

namespace Sys2Proof.Machine

/-- R98, R100: a taken edge of a flap position confirmation. -/
def execGateConfirmation (slot : Fin 4) (switch : GateSwitch) (level : Bool) (s : State) :
    Host.Outcome State Fault Refusal :=
  .next (s.takeEvent fun t => t.confirm slot switch level)

/-- R100: the phase timer expires. -/
def execPhaseTimerExpiry (slot : Fin 4) (s : State) : Host.Outcome State Fault Refusal :=
  .next <| s.takeEvent fun t =>
    t.onDi slot fun d =>
      match d.gate.phaseDue with
      | none => t
      | some due => (t.reach due).gateJam slot d

/-- R101: a taken rising edge of jam clear; it acts on a gate that is JAMMED. -/
def execJamClear (slot : Fin 4) (s : State) : Host.Outcome State Fault Refusal :=
  .next <| s.takeEvent fun t =>
    t.onDi slot fun d =>
      if d.gate.state = .jammed then (t.setSlot slot (.di (d.enterGate t.now .lowerClosing))).gateGo slot else t

/-- R94: the divert timer expires; the divert line is released. -/
def execDivertTimerExpiry (slot : Fin 4) (s : State) : Host.Outcome State Fault Refusal :=
  .next <| s.takeEvent fun t =>
    t.onDi slot fun d =>
      match d.divertDue with
      | none => t
      | some due => (t.reach due).setSlot slot (.di { d with divertDue := none })

end Sys2Proof.Machine
end

