-- ==== Sys2Proof/Machine/LinkEvents.lean ====
section
/-! DEFINITION. The meanings of the link's events (R3 to R7, R14 to R18). -/

namespace Sys2Proof.Machine

/-- R3, R4: a burst of another station is heard. -/
def execFrameReceived (burst : List Byte) (s : State) : Host.Outcome State Fault Refusal :=
  .next (s.takeEvent fun t => t.hearBurst burst)

/-- R3: a burst cut short by a quiet gap or a coding violation, as the bytes heard up to then. -/
def execFrameCutShort (burst : List Byte) (s : State) : Host.Outcome State Fault Refusal :=
  .next (s.takeEvent fun t => t.hearBurst burst)

/-- R6: the duplicate timer expires. -/
def execDuplicateTimerExpiry (s : State) : Host.Outcome State Fault Refusal :=
  .next <| s.takeEvent fun t =>
    match t.link.duplicateDue with
    | none => t
    | some due =>
      let u := t.reach due
      State.ask { u with link := { u.link with duplicateDue := none } } (.clear .duplicateStation 255)

/-- R18: the silence timer expires. -/
def execSilenceTimerExpiry (s : State) : Host.Outcome State Fault Refusal :=
  .next <| s.takeEvent fun t =>
    match t.link.silenceDue with
    | none => t
    | some due =>
      let u := t.reach due
      State.setSilence { u with link := { u.link with silenceDue := none } }

/-- R1, R14: the quiet gap has passed. -/
def execQuietGap (s : State) : Host.Outcome State Fault Refusal :=
  .next (s.takeEvent fun t => t.mediumQuiet)

/-- R14: one backoff slot passes with the medium idle. -/
def execBackoffSlot (s : State) : Host.Outcome State Fault Refusal :=
  .next (s.takeEvent fun t => t.countSlot)

/-- R14: the medium turns busy. -/
def execDefer (s : State) : Host.Outcome State Fault Refusal :=
  .next (s.takeEvent fun t => t.mediumBusy)

/-- R15: the echo differs from a bit sent; without a transmission nothing changes. -/
def execCollision (s : State) : Host.Outcome State Fault Refusal :=
  .next (s.takeEvent fun t => if t.link.access = .sending then t.collide else t)

/-- R16: a frame's last bit has been sent; without a transmission nothing changes. -/
def execSentCleanly (s : State) : Host.Outcome State Fault Refusal :=
  .next (s.takeEvent fun t => if t.link.access = .sending then t.sent else t)

end Sys2Proof.Machine
end

