-- ==== Sys2Proof/Machine/PictureEvents.lean ====
section
/-! DEFINITION. The meanings of the floor picture's events (R26 to R35). -/

namespace Sys2Proof.Machine

/-- R26: stale_time has passed for an entry that is FRESH. -/
def execStaleTimeExpiry (station channel : Nat) (s : State) : Host.Outcome State Fault Refusal :=
  .next <| s.takeEvent fun t =>
    match t.findPeer station channel, t.cfg with
    | some e, some g =>
      if e.age = .fresh then (t.reach (e.last + g.staleTime)).placePeer { e with age := .stale } else t
    | _, _ => t

/-- R27: lost_time has passed for an entry. -/
def execLostTimeExpiry (station channel : Nat) (s : State) : Host.Outcome State Fault Refusal :=
  .next <| s.takeEvent fun t =>
    match t.findPeer station channel with
    | none => t
    | some e => (t.reach (e.last + t.lostTime)).removePeer e

/-- R28: the loss hold ends. -/
def execLossHoldExpiry (s : State) : Host.Outcome State Fault Refusal :=
  .next <| s.takeEvent fun t =>
    match t.picture.lossHoldDue with
    | none => t
    | some due =>
      let u := t.reach due
      { u with picture := { u.picture with lossHoldDue := none } }

/-- R31: lost_time has passed since a station in PRESENT was last heard. -/
def execStationAbsent (station : Nat) (s : State) : Host.Outcome State Fault Refusal :=
  .next <| s.takeEvent fun t =>
    match t.findStation station with
    | none => t
    | some p => if p.present then (t.reach (p.last + t.lostTime)).goAbsent station else t

/-- R34: a taken rising edge of the take line. The line of a station without the desk option is not read; an edge
outside RUN is counted. -/
def execTake (s : State) : Host.Outcome State Fault Refusal :=
  .next <| s.takeEvent fun t =>
    match t.cfg with
    | none => t.refuseTake
    | some g => if g.desk then (if t.station = .run then t.originate else t.refuseTake) else t

/-- R35: the refresh timer expires. -/
def execRefreshTimerExpiry (s : State) : Host.Outcome State Fault Refusal :=
  .next <| s.takeEvent fun t =>
    match t.picture.refreshDue with
    | none => t
    | some due => (t.reach due).refreshOrder

end Sys2Proof.Machine
end

