-- ==== Sys2Proof/Machine/PortEvents.lean ====
section
/-! DEFINITION. The meanings of the service port's commands and of the completions it waits for (R180 to R183). -/

namespace Sys2Proof.Machine

/-- R183: STATUS; it does not close the window. -/
def execStatus (s : State) : Host.Outcome State Fault Refusal :=
  .next (s.takeEvent fun t => { t with port := { t.port with response := t.statusBytes } })

/-- R183: IDENT. -/
def execIdent (s : State) : Host.Outcome State Fault Refusal :=
  .next (s.takeEvent fun t => t.answer State.identBytes)

/-- R183: DIR ENTRY. -/
def execDirEntry (index : Byte) (s : State) : Host.Outcome State Fault Refusal :=
  .next (s.takeEvent fun t => t.answer fun u => u.dirResponse index.toNat)

/-- R183: PICTURE ENTRY. -/
def execPictureEntry (index : Byte) (s : State) : Host.Outcome State Fault Refusal :=
  .next (s.takeEvent fun t => t.answer fun u => u.pictureResponse index.toNat)

/-- R183: ALARM ENTRY. -/
def execAlarmEntry (index : Byte) (s : State) : Host.Outcome State Fault Refusal :=
  .next (s.takeEvent fun t => t.answer fun u => u.alarmResponse index.toNat)

/-- R183: CHANNEL VIEW. -/
def execChannelView (slot : Byte) (s : State) : Host.Outcome State Fault Refusal :=
  .next (s.takeEvent fun t => t.answer fun u => u.channelResponse slot.toNat)

/-- R182: WINDOW. -/
def execWindow (entry mode : Byte) (offset : BitVec 24) (s : State) : Host.Outcome State Fault Refusal :=
  .next (s.takeEvent fun t => t.openWindow entry mode offset)

/-- R182: STREAM, with as many response bytes as the master clocks. -/
def execStream (clocked : Nat) (s : State) : Host.Outcome State Fault Refusal :=
  .next (s.takeEvent fun t => t.streamUnits clocked)

/-- R182: an array read for the prefetch buffer ends. -/
def execPrefetchReadDone (s : State) : Host.Outcome State Fault Refusal :=
  .next (s.takeEvent fun t => t.readEnds)

/-- R181: WRITE ENABLE. -/
def execWriteEnable (s : State) : Host.Outcome State Fault Refusal :=
  .next <| s.takeEvent fun t =>
    let u := t.closeWindow
    State.result { u with port := { u.port with writeEnable := true } } .done

/-- R181: CONFIG WRITE. -/
def execConfigWrite (offset : BitVec 16) (count : Byte) (data : List Byte) (s : State) :
    Host.Outcome State Fault Refusal :=
  .next (s.takeEvent fun t => t.areaCommand (writeRefusal offset.toNat count.toNat) (.write offset.toNat (data.take count.toNat)))

/-- R181: CONFIG ERASE. -/
def execConfigErase (s : State) : Host.Outcome State Fault Refusal :=
  .next (s.takeEvent fun t => t.areaCommand none .erase)

/-- R181: the engine completes a configuration program or erase. -/
def execConfigOperationCompletion (pass : Bool) (s : State) : Host.Outcome State Fault Refusal :=
  .next (s.takeEvent fun t => t.configCompletes pass)

/-- R180: OTP WRITE; a lock-request byte other than 1 requests no lock. -/
def execOtpWrite (block lockRequest : Byte) (data : List Byte) (s : State) : Host.Outcome State Fault Refusal :=
  .next (s.takeEvent fun t => t.areaCommand (t.otpRefusal block.toNat)
    (.otp (Fin.ofNat 16 block.toNat) (data.take 32) (lockRequest == 1)))

/-- R180: FREEZE. -/
def execFreeze (s : State) : Host.Outcome State Fault Refusal :=
  .next (s.takeEvent fun t => t.areaCommand t.freezeRefusal .freeze)

/-- R180: the engine completes an OTP program. -/
def execOtpProgramCompletion (pass : Bool) (s : State) : Host.Outcome State Fault Refusal :=
  .next (s.takeEvent fun t => t.otpCompletes pass)

/-- R172, R181: FLUSH. -/
def execFlush (s : State) : Host.Outcome State Fault Refusal :=
  .next (s.takeEvent fun t => t.flushQueue)

/-- R181: a write command whose transaction ends early or on a partial byte has no effect but its counter. -/
def execCommandDiscarded (s : State) : Host.Outcome State Fault Refusal :=
  .next (s.takeEvent fun t => { t with port := { t.port with commandsDiscarded := up16 t.port.commandsDiscarded } })

/-- R181: a command byte that names no command is discarded and answered with 0xFF. -/
def execUnknownCommand (_byte : Byte) (s : State) : Host.Outcome State Fault Refusal :=
  .next (s.takeEvent fun t => { t with port :=
    { t.port with commandsDiscarded := up16 t.port.commandsDiscarded, response := [0xFF] } })

end Sys2Proof.Machine
end

