-- ==== Sys2Proof/Machine/ShiftEvents.lean ====
section
/-! DEFINITION. The meanings of the shift accountant's timers (R153, R157). -/

namespace Sys2Proof.Machine

/-- R153: the shift timer expires. -/
def execShiftTimerExpiry (s : State) : Host.Outcome State Fault Refusal :=
  .next <| s.takeEvent fun t =>
    match t.accountant.shiftDue with
    | none => t
    | some due => (t.reach due).closeByTimer

/-- R157: the collation timer expires. -/
def execCollationTimerExpiry (s : State) : Host.Outcome State Fault Refusal :=
  .next <| s.takeEvent fun t =>
    match t.accountant.collationDue with
    | none => t
    | some due => (t.reach due).endCollation false

end Sys2Proof.Machine
end

