-- ==== Sys2Proof/Machine/StartEvents.lean ====
section
/-! DEFINITION. The meanings of the commands that start and stop the part (R176, R37, R163). -/

namespace Sys2Proof.Machine

/-- R176: the supply rises. A supply that is present already is lost first (log entry 14). -/
def execPowerOnStart (strap : Bool) (s : State) : Host.Outcome State Fault Refusal :=
  .next (State.start (if s.supply then s.loseSupply none else s) false strap)

/-- R176: RESET is asserted; without a supply, or while it is asserted already, nothing changes. -/
def execResetAsserted (s : State) : Host.Outcome State Fault Refusal :=
  .next (if s.supply && !s.resetHeld then s.assertReset else s)

/-- R176: RESET is released; without a supply nothing changes, and a RESET not seen asserted is asserted first (log entry
14). -/
def execLineRestart (strap : Bool) (s : State) : Host.Outcome State Fault Refusal :=
  .next (if s.supply then State.start (if s.resetHeld then s else s.assertReset) true strap else s)

/-- R37: the listen timer expires and the station enters RUN. -/
def execListenTimerExpiry (s : State) : Host.Outcome State Fault Refusal :=
  .next <| s.takeEvent fun t =>
    match t.picture.listenDue with
    | none => t
    | some due => (t.reach due).enterRun

/-- R20, R163: the supply fails. -/
def execSupplyFailure (mapWrites : Option Nat) (s : State) : Host.Outcome State Fault Refusal :=
  .next (if s.supply then s.loseSupply mapWrites else s)

end Sys2Proof.Machine
end

