-- ==== Sys2Proof/Machine/StoreEvents.lean ====
section
/-! DEFINITION. The meanings of the store engine's completions on the paged array (R169, R171). -/

namespace Sys2Proof.Machine

/-- R169: a program of the array completes. -/
def execProgramCompletion (pass : Bool) (s : State) : Host.Outcome State Fault Refusal :=
  .next (s.takeEvent fun t => t.programEnds pass)

/-- R171, R172: an erase of a granule completes. -/
def execEraseCompletion (pass : Bool) (s : State) : Host.Outcome State Fault Refusal :=
  .next (s.takeEvent fun t => t.eraseEnds pass)

end Sys2Proof.Machine
end

