-- ==== Sys2Proof/Machine/Dispatch.lean ====
section
/-! DEFINITION. One arm for each command: a direct call of its meaning. -/

namespace Sys2Proof.Machine

/-- The meaning of a command: its effect on everything but the queue. -/
def exec (i : Instr) (s : State) : Host.Outcome State Fault Refusal :=
  match i with
  | .powerOnStart strap => Sys2Proof.Machine.execPowerOnStart strap s
  | .resetAsserted => Sys2Proof.Machine.execResetAsserted s
  | .lineRestart strap => Sys2Proof.Machine.execLineRestart strap s
  | .listenTimerExpiry => Sys2Proof.Machine.execListenTimerExpiry s
  | .frameReceived burst => Sys2Proof.Machine.execFrameReceived burst s
  | .frameCutShort burst => Sys2Proof.Machine.execFrameCutShort burst s
  | .duplicateTimerExpiry => Sys2Proof.Machine.execDuplicateTimerExpiry s
  | .silenceTimerExpiry => Sys2Proof.Machine.execSilenceTimerExpiry s
  | .quietGap => Sys2Proof.Machine.execQuietGap s
  | .backoffSlot => Sys2Proof.Machine.execBackoffSlot s
  | .defer => Sys2Proof.Machine.execDefer s
  | .collision => Sys2Proof.Machine.execCollision s
  | .sentCleanly => Sys2Proof.Machine.execSentCleanly s
  | .staleTimeExpiry station channel => Sys2Proof.Machine.execStaleTimeExpiry station channel s
  | .lostTimeExpiry station channel => Sys2Proof.Machine.execLostTimeExpiry station channel s
  | .lossHoldExpiry => Sys2Proof.Machine.execLossHoldExpiry s
  | .stationAbsent station => Sys2Proof.Machine.execStationAbsent station s
  | .take => Sys2Proof.Machine.execTake s
  | .refreshTimerExpiry => Sys2Proof.Machine.execRefreshTimerExpiry s
  | .controlUpdate => Sys2Proof.Machine.execControlUpdate s
  | .startTimerExpiry slot => Sys2Proof.Machine.execStartTimerExpiry slot s
  | .sampleWord input raw parityOk => Sys2Proof.Machine.execSampleWord input raw parityOk s
  | .freshTimeExpiry input => Sys2Proof.Machine.execFreshTimeExpiry input s
  | .holdTimeExpiry input => Sys2Proof.Machine.execHoldTimeExpiry input s
  | .runPermitEdge slot level => Sys2Proof.Machine.execRunPermitEdge slot level s
  | .gateConfirmation slot switch level => Sys2Proof.Machine.execGateConfirmation slot switch level s
  | .phaseTimerExpiry slot => Sys2Proof.Machine.execPhaseTimerExpiry slot s
  | .jamClear slot => Sys2Proof.Machine.execJamClear slot s
  | .divertTimerExpiry slot => Sys2Proof.Machine.execDivertTimerExpiry slot s
  | .driveWord => Sys2Proof.Machine.execDriveWord s
  | .driveRefreshTimerExpiry => Sys2Proof.Machine.execDriveRefreshTimerExpiry s
  | .tripLineObserved asserted => Sys2Proof.Machine.execTripLineObserved asserted s
  | .acknowledge => Sys2Proof.Machine.execAcknowledge s
  | .silence => Sys2Proof.Machine.execSilence s
  | .shiftTimerExpiry => Sys2Proof.Machine.execShiftTimerExpiry s
  | .collationTimerExpiry => Sys2Proof.Machine.execCollationTimerExpiry s
  | .programCompletion pass => Sys2Proof.Machine.execProgramCompletion pass s
  | .eraseCompletion pass => Sys2Proof.Machine.execEraseCompletion pass s
  | .status => Sys2Proof.Machine.execStatus s
  | .ident => Sys2Proof.Machine.execIdent s
  | .dirEntry index => Sys2Proof.Machine.execDirEntry index s
  | .pictureEntry index => Sys2Proof.Machine.execPictureEntry index s
  | .alarmEntry index => Sys2Proof.Machine.execAlarmEntry index s
  | .channelView slot => Sys2Proof.Machine.execChannelView slot s
  | .window entry mode offset => Sys2Proof.Machine.execWindow entry mode offset s
  | .stream clocked => Sys2Proof.Machine.execStream clocked s
  | .prefetchReadDone => Sys2Proof.Machine.execPrefetchReadDone s
  | .writeEnable => Sys2Proof.Machine.execWriteEnable s
  | .configWrite offset count data => Sys2Proof.Machine.execConfigWrite offset count data s
  | .configErase => Sys2Proof.Machine.execConfigErase s
  | .configOperationCompletion pass => Sys2Proof.Machine.execConfigOperationCompletion pass s
  | .otpWrite block lockRequest data => Sys2Proof.Machine.execOtpWrite block lockRequest data s
  | .freeze => Sys2Proof.Machine.execFreeze s
  | .otpProgramCompletion pass => Sys2Proof.Machine.execOtpProgramCompletion pass s
  | .flush => Sys2Proof.Machine.execFlush s
  | .commandDiscarded => Sys2Proof.Machine.execCommandDiscarded s
  | .unknownCommand byte => Sys2Proof.Machine.execUnknownCommand byte s
  | .supplyFailure mapWrites => Sys2Proof.Machine.execSupplyFailure mapWrites s
  | .initialLevel line level => Sys2Proof.Machine.execInitialLevel line level s

end Sys2Proof.Machine
end

