-- ==== Sys2Proof/Machine/Idle.lean ====
section
/-! DEFINITION. The passing of time on an empty queue: each timer with the expiry it brings about, and one millisecond at a
time where none is due (log entries 5 and 7). -/

namespace Sys2Proof.Machine

/-- A timer and the command its expiry is. -/
def timed (due : Option Nat) (c : Instr) : List (Nat × Instr) := due.toList.map fun t => (t, c)

/-- R80, R94, R100: the timers of a slot. -/
def State.slotTimers (s : State) (i : Fin 4) : List (Nat × Instr) :=
  match s.slot i with
  | .cf c => timed c.startDue (.startTimerExpiry i)
  | .di d => timed d.gate.phaseDue (.phaseTimerExpiry i) ++ timed d.divertDue (.divertTimerExpiry i)
  | _ => []

/-- R65: the timers of an input. -/
def State.inputTimers (s : State) (k : Fin 16) : List (Nat × Instr) :=
  timed (s.input k).freshDue (.freshTimeExpiry k) ++ timed (s.input k).holdDue (.holdTimeExpiry k)

/-- R26, R27: the ageing intervals of an entry of the peer channel table. -/
def peerTimers (g : Cfg) (e : PeerEntry) : List (Nat × Instr) :=
  (if e.age = .fresh then [(e.last + g.staleTime, .staleTimeExpiry e.station e.channel)] else []) ++
    [(e.last + g.lostTime, .lostTimeExpiry e.station e.channel)]

/-- R31: the interval of a station in PRESENT. -/
def stationTimers (g : Cfg) (p : PeerStation) : List (Nat × Instr) :=
  if p.present then [(p.last + g.lostTime, .stationAbsent p.station)] else []

/-- R26, R27, R31: the intervals of the floor picture. -/
def State.pictureTimers (s : State) : List (Nat × Instr) :=
  match s.cfg with
  | none => []
  | some g => s.picture.entries.flatMap (peerTimers g) ++ s.picture.stations.flatMap (stationTimers g)

/-- Every timer that runs, with the command its expiry is. -/
def State.timers (s : State) : List (Nat × Instr) :=
  timed s.picture.listenDue .listenTimerExpiry ++ timed s.link.duplicateDue .duplicateTimerExpiry ++
    timed s.link.silenceDue .silenceTimerExpiry ++ s.pictureTimers ++ timed s.picture.lossHoldDue .lossHoldExpiry ++
    timed s.picture.refreshDue .refreshTimerExpiry ++ timed s.heat.updateDue .controlUpdate ++
    slotList.flatMap s.slotTimers ++ inputList.flatMap s.inputTimers ++
    timed s.output.refreshDue .driveRefreshTimerExpiry ++ timed s.accountant.shiftDue .shiftTimerExpiry ++
    timed s.accountant.collationDue .collationTimerExpiry

/-- The expiries that are due. -/
def State.dueNow (s : State) : List Instr := (s.timers.filter fun x => decide (x.1 ≤ s.now)).map Prod.snd

/-- An empty queue: one expiry that is due is taken, a free choice among those that come together; otherwise one
millisecond passes. Without a supply or with RESET asserted nothing happens. -/
def idle (s : State) : Host.Outcome State Fault Refusal :=
  if s.supply && !s.resetHeld then
    match s.dueNow with
    | [] => .next { s with now := s.now + 1 }
    | [c] => exec c s
    | c :: d :: rest =>
      exec ((c :: d :: rest).getD (Config.tieChoice s.free % (rest.length + 2)) c) (s.useFree 1)
  else .next s

end Sys2Proof.Machine
end

