-- ==== Sys2Proof/Safety.lean ====
section
/-! DEFINITION. What every state that a run reaches satisfies, and the terms the statements use. -/

namespace Sys2Proof.Machine

/-- The supply is present and RESET is not asserted: the station takes events (R176). -/
def State.live (s : State) : Bool := s.supply && !s.resetHeld

/-- The station takes events and no alarm request is left over. -/
def State.calm (s : State) : Prop := s.live = true ∧ s.agenda = []

/-- The state in which the effect of an event begins: the map log of the event before it is gone (R163). -/
def State.begun (s : State) : State := { s with mapLog := [], programNew := false }

/-- R163, R176, R180: the three memories are in their canonical form. -/
def Nonvolatile.wf (nv : Nonvolatile) : Bool := nv.array.wf && nv.config.wf && nv.otp.wf

/-- R9, R14: the transmit queue holds at most 12 frames and the contention window is 4, 8, 16, 32 or 64. -/
def Link.legal (l : Link) : Bool := decide (l.queue.length ≤ Config.queueSize) && [4, 8, 16, 32, 64].contains l.window

/-- R9: a frame stands before another in the transmit queue: by class, then by entry number. -/
def QFrame.before (f g : QFrame) : Prop :=
  f.notice.cls < g.notice.cls ∨ (f.notice.cls = g.notice.cls ∧ f.entry < g.entry)

/-- R9: the transmit queue stands in order of class and entry number, its entry numbers are distinct and have been given
out. -/
def Link.ordered (l : Link) : Prop :=
  l.queue.Pairwise QFrame.before ∧ (l.queue.map (·.entry)).Nodup ∧ ∀ f ∈ l.queue, f.entry < l.entryCount

/-- R3 to R6: a burst carries a valid frame of another station, and the station, with its image accepted, hears it. -/
def State.hears (s : State) (burst : List Byte) (origin : Nat) (n : Notice) : Prop :=
  s.calm ∧ s.link.deaf = false ∧ 1 ≤ origin ∧ origin ≤ 31 ∧ (∃ g, s.cfg = some g ∧ origin ≠ g.station) ∧
    ∃ kind payload, assemble burst = .frame origin kind payload true ∧ 1 ≤ kind ∧ kind ≤ 7 ∧
      lengthFits kind payload = true ∧ Notice.parse kind payload = some n

/-- No alarm request is left over and no mark of a control update stands: what holds between two commands. -/
def State.rested (s : State) : Bool := s.agenda.isEmpty && !s.channels.updating

/-- R82, R105: a feed slot that a trip cause stops: a CF slot in STARTING, DOSING or HOLD, a DI slot in DOSING or HOLD. -/
def SlotUnit.feedRuns : SlotUnit → Bool
  | .cf c => c.state.runs
  | .di d => d.runs
  | _ => false

/-- R71, R82, R105: while the trip line is observed asserted, every FEED latch holds 0 and no feed slot runs. -/
def State.interlocked (s : State) : Prop :=
  s.alarms.observed = true →
    (∀ o : Fin 8, (s.latch o).kind = .feed → (s.latch o).count = 0) ∧ ∀ i : Fin 4, (s.slot i).feedRuns = false

/-- R71: in a live part a FEED latch is not carried, holds 0 while no slot has it, and belongs to a CF slot of that output
otherwise, holding 0 while that slot stands in OFF, TRIPPED or FAULT. -/
def State.feedLatches (s : State) : Prop :=
  s.live = true → ∀ o : Fin 8, (s.latch o).kind = .feed → (s.latch o).carried = false ∧
    ((s.latch o).owner = none → (s.latch o).count = 0) ∧
    ∀ i, (s.latch o).owner = some i → ∃ c, s.slot i = .cf c ∧ c.par.output = o ∧
      (c.state.runs = false → (s.latch o).count = 0)

/-- R98, R100: a gate that nothing moves on: no flap shows both its confirmations, and the one a waiting state waits for is not
given. -/
def Gate.rests (g : Gate) : Prop :=
  g.conflict = false ∧ (g.state = .ready ∨ g.state = .jammed ∨ (g.state = .upperOpening ∧ g.upperOpen = false) ∨
    (g.state = .upperClosing ∧ g.upperClosed = false) ∨ (g.state = .lowerOpening ∧ g.lowerOpen = false) ∨
    (g.state = .lowerClosing ∧ (g.upperClosed && g.lowerClosed) = false))

/-- R21: the peer channel table stands in its order and holds no entry of the station's own number. -/
def State.pictureSorted (s : State) : Prop :=
  s.picture.entries.Pairwise (fun a b => a.before b = true) ∧ ∀ e ∈ s.picture.entries, e.station ≠ s.ownNumber

/-- R21: the peer channel table holds at most 48 entries, no two of one key. -/
def Picture.legal (p : Picture) : Prop :=
  p.entries.length ≤ Config.pictureSize ∧ (p.entries.map fun e => (e.station, e.channel)).Nodup

/-- R130, R140: the alarm table holds at most 48 entries, no two of one key and none of the flood slot's key, and the
flood slot holds the station's own ALARM FLOOD. -/
def State.alarmsLegal (s : State) : Prop :=
  s.alarms.table.length ≤ Config.tableSize ∧ (s.alarms.table.map fun e => (e.origin, e.code, e.channel)).Nodup ∧
    (∀ e ∈ s.alarms.table, s.isFloodKey e = false) ∧ ∀ e ∈ s.alarms.flood, s.isFloodKey e = true

/-- Formats: a notice whose fields fit their places in the payload; a shift summary's channel count gives its length. -/
def Notice.fits : Notice → Bool
  | .heat ch rank fuel st act cmd _ _ =>
    decide (ch < 256 ∧ rank < 16 ∧ fuel < 16 ∧ st < 256 ∧ act < 16777216 ∧ cmd < 16777216)
  | .air ch role _ _ st q flow cr =>
    decide (ch < 256 ∧ role < 4 ∧ st < 256 ∧ q < 16777216 ∧ flow < 65536 ∧ cr < 65536)
  | .order _ t => decide (t < 16777216)
  | .alarm code ch cls ev _ => decide (code < 256 ∧ ch < 256 ∧ cls < 256 ∧ ev < 256)
  | .ack o code ch _ => decide (o < 256 ∧ code < 256 ∧ ch < 256)
  | .mark _ => true
  | .summary p => decide (at1 p 2 ≤ 4 ∧ p.length = 15 + 12 * at1 p 2)

/-- R8 to R11, R15: between two states of the link one notice has been offered: it has coalesced with a frame of its kind and
key, entered the transmit queue in its class or been discarded, and the access may have moved on with it, so far that the queue's
head is committed. -/
def Link.tookOffer (l m : Link) (n : Notice) : Prop :=
  m = { (l.enter n).1 with
        queue := m.queue, access := m.access, backoff := m.backoff, sendingEntry := m.sendingEntry
        mediumIdle := m.mediumIdle, deaf := m.deaf } ∧
    (m.queue = (l.enter n).1.queue ∨ (m.access = .sending ∧ m.queue = commitHead (l.enter n).1.queue))

/-- R37, R177: the station sends on the link: it stands neither in START HALT nor in COMMISSION. -/
def State.offers (s : State) : Prop := s.station ≠ .startHalt ∧ s.station ≠ .commission

/-- R87, R88, R108, R126 and Formats: the notice of a slot as it stands: the heat notice of a feed slot, with its actual and
commanded heat, HELD of a CF slot whose feeder input is not FRESH and STARVED of a DI slot whose FEED STARVED stands; the air
notice of a cooler slot, with the flush bit of a flush of the station's grate slot. -/
def State.slotNotice (s : State) (i : Fin 4) : Option Notice :=
  match s.slot i with
  | .unused => none
  | .cf c => some (.heat i.val c.par.rank c.par.fuel.val c.state.code (s.cfActual c) c.alloc.heat
      (decide ((s.input c.par.input).freshness ≠ .fresh)) false)
  | .di d => some (.heat i.val d.par.rank d.par.fuel.val d.state.code (s.diActual d) d.alloc.heat false
      (s.stands .feedStarved i.val))
  | .ca a => some (.air i.val 0 a.par.recuperating s.localFlush a.state.code (s.recoveredHeat a)
      (if (s.input a.par.flowInput).freshness = .failed then 0 else min 65535 (s.input a.par.flowInput).value.toNat)
      s.channels.estimate)
  | .cg g => some (.air i.val 1 false (decide (g.state = .flush)) g.state.code 0 0 s.channels.estimate)

/-- R88: between two states the notice of one slot, as it stands in the later one, and nothing else has been offered. -/
def State.announces (s t : State) (i : Fin 4) : Prop :=
  ∃ n, t.slotNotice i = some n ∧ s.link.tookOffer t.link n

end Sys2Proof.Machine
end

