-- ==== Sys2Proof/Certificates/Slice0/Obligations.lean ====
section
/-! DEFINITION. The statements about the station, family by family: what each command does where it completes, what it
leaves alone, and what every step keeps. -/

open Sys2Proof Sys2Proof.Machine

/-! ## The machine as a whole -/

/-- A step takes the command at the front of the queue and runs it with the queue's rest. -/
def Obligations.StepTakesFrontCommand : Prop :=
  ∀ (s : State) (c : Instr) (rest : List Instr),
    s.pending = c :: rest → step s = exec c { s with pending := rest }

/-- On an empty queue one millisecond passes where no timer is due, the only expiry that is due is taken, and a part
without supply or in RESET idles: the model's choice (log entries 5 and 7). -/
def Obligations.EmptyQueueLetsTimePass : Prop :=
  ∀ s : State, s.pending = [] →
    (s.live = true → s.dueNow = [] → step s = .next { s with now := s.now + 1 }) ∧
    (∀ c, s.live = true → s.dueNow = [c] → step s = exec c s) ∧
    (∀ c d rest, s.live = true → s.dueNow = c :: d :: rest →
      ∃ e ∈ s.dueNow, step s = exec e { s with free := s.free + 1 }) ∧
    (s.live = false → step s = .next s)

/-- Every command answers a next state in every state: no command stops the part (log entry 2). -/
def Obligations.NoCommandStops : Prop :=
  ∀ (c : Instr) (s : State), ∃ t, exec c s = .next t

/-- No command touches the queue of the commands that wait. -/
def Obligations.CommandsLeaveTheQueue : Prop :=
  ∀ (c : Instr) (s t : State), exec c s = .next t → t.pending = s.pending

/-- R176: a part without supply or in RESET takes no command but a start or a loss of supply: every other command leaves it
as it is. -/
def Obligations.DeadPartTakesNothing : Prop :=
  ∀ (c : Instr) (s : State), s.live = false →
    (∀ strap, c ≠ .powerOnStart strap) → (∀ strap, c ≠ .lineRestart strap) → (∀ n, c ≠ .supplyFailure n) →
    exec c s = .next s

/-- Only a start takes a configuration: no other command changes the accepted image, the clamped-field count or the
strap (R176 to R178). RESET and a loss of supply end them. -/
def Obligations.ConfigurationStands : Prop :=
  ∀ (c : Instr) (s t : State), exec c s = .next t →
    (∀ strap, c ≠ .powerOnStart strap) → (∀ strap, c ≠ .lineRestart strap) → (∀ n, c ≠ .supplyFailure n) →
    c ≠ .resetAsserted →
    t.cfg = s.cfg ∧ t.clampedFields = s.clampedFields ∧ t.strap = s.strap ∧ t.supply = s.supply ∧ t.resetHeld = s.resetHeld

/-- Every byte of the paged array, the configuration area and the OTP blocks, and every OTP lock, is left alone by every
command but the completions of the store engine, a RESET and a start or loss of supply, which cut an operation. -/
def Obligations.OnlyTheEngineChangesMemory : Prop :=
  ∀ (c : Instr) (s t : State), exec c s = .next t →
    (∀ b, c ≠ .programCompletion b) → (∀ b, c ≠ .eraseCompletion b) → (∀ b, c ≠ .configOperationCompletion b) →
    (∀ b, c ≠ .otpProgramCompletion b) → c ≠ .resetAsserted → (∀ b, c ≠ .lineRestart b) →
    (∀ b, c ≠ .powerOnStart b) → (∀ n, c ≠ .supplyFailure n) →
    t.nv.otpLocks = s.nv.otpLocks ∧ t.nv.tornImage = s.nv.tornImage ∧
    ∀ a : Nat, t.nv.array.read a = s.nv.array.read a ∧ t.nv.config.read a = s.nv.config.read a ∧
      t.nv.otp.read a = s.nv.otp.read a

/-! ## What every step keeps -/

/-- R163, R176, R180: in every state whose three memories are in canonical form, a step leaves them so. -/
def Obligations.MemoriesStayCanonical : Prop :=
  ∀ s t : State, s.nv.wf = true → step s = .next t → t.nv.wf = true

/-- R9, R14: the transmit queue never holds more than 12 frames, the contention window stays 4, 8, 16, 32 or 64, and the
queue stays in order of class and entry number. R10, R11: an offer replaces the payload of the first frame it coalesces
with; with none and room it is a new frame; a full queue evicts the newest uncommitted frame of the lowest class among
the uncommitted ones where that class is lower, and drops the offer otherwise. R12, R137: an alarm or acknowledgement
notice that is handed back is marked on the entry it still shows, and forgotten as superseded where the entry has gone on.
R138: as a frame leaves the queue, a notice kept for another try is offered and counted. -/
def Obligations.LinkStaysLegal : Prop :=
  (∀ s t : State, s.link.legal = true → step s = .next t → t.link.legal = true) ∧
  (∀ s t : State, s.link.ordered → step s = .next t → t.link.ordered) ∧
  (∀ (l : Link) (n : Notice) (front back : List QFrame) (f : QFrame), l.queue = front ++ f :: back →
    (∀ g ∈ front, n.coalescesWith g = false) → n.coalescesWith f = true →
    l.enter n = ({ l with queue := front ++ { f with notice := n } :: back,
                          counters := { l.counters with coalesced := up16 l.counters.coalesced } }, true)) ∧
  (∀ (l : Link) (n : Notice), l.ordered → (∀ f ∈ l.queue, n.coalescesWith f = false) →
    (l.queue.length < 12 → (l.enter n).2 = true ∧
      (l.enter n).1 = { l with queue := (l.enter n).1.queue, entryCount := l.entryCount + 1 } ∧ (l.enter n).1.ordered ∧
      ∀ g, g ∈ (l.enter n).1.queue ↔ g ∈ l.queue ∨ g = { notice := n, entry := l.entryCount }) ∧
    (∀ f ∈ l.queue, 12 ≤ l.queue.length → f.committed = false → n.cls < f.notice.cls →
      (∀ g ∈ l.queue, g.committed = false → g = f ∨ g.before f) →
      (l.enter n).2 = true ∧ (l.enter n).1.counters = { l.counters with evicted := up16 l.counters.evicted } ∧
      (l.enter n).1.ordered ∧
      ∀ g, g ∈ (l.enter n).1.queue ↔ (g ∈ l.queue ∧ g ≠ f) ∨ g = { notice := n, entry := l.entryCount }) ∧
    (12 ≤ l.queue.length → (∀ f ∈ l.queue, f.committed = true ∨ f.notice.cls ≤ n.cls) →
      l.enter n = ({ l with counters := l.counters.drop n }, false))) ∧
  (∀ (s : State) (code : AlarmCode) (channel cls event : Nat) (occ : Serial) (e : AlarmEntry), s.station ≠ .startHalt →
    s.findAlarm s.ownNumber code channel = some e →
    ((s.handBack (.alarm code.number channel cls event occ)).findAlarm s.ownNumber code channel =
      some { e with unpublished := e.unpublished || decide (e.currentNotice = .alarm code.number channel cls event occ) }) ∧
    (e.currentNotice ≠ .alarm code.number channel cls event occ →
      s.handBack (.alarm code.number channel cls event occ) = { s with alarms := { s.alarms with counters :=
        { s.alarms.counters with superseded := up16 s.alarms.counters.superseded } } })) ∧
  (∀ (s : State) (origin channel : Nat) (code : AlarmCode) (occ : Serial) (e : AlarmEntry), s.station ≠ .startHalt →
    s.findAlarm origin code channel = some e → e.occurrence = occ →
    (s.handBack (.ack origin code.number channel occ)).findAlarm origin code channel =
      some { e with ackUnpublished := true }) ∧
  (∀ (s : State) (f : QFrame) (n : Notice), s.calm → s.link.legal = true → s.link.ordered → s.link.access = .sending →
    s.sendingFrame = some f → s.link.exhaustionCause = false → s.station = .run → s.alarms.retry = [n] → n.cls = 0 →
    (∀ e ∈ s.alarms.all, e.unpublished = false ∧ e.ackUnpublished = false) →
    ∃ t, exec .sentCleanly s = .next t ∧ t.alarms.retry = [] ∧
      t.alarms.counters = { s.alarms.counters with reoffers := up16 s.alarms.counters.reoffers } ∧
      { notice := n, entry := s.link.entryCount } ∈ t.link.queue ∧ ∀ q ∈ t.link.queue, q.entry ≠ f.entry)

/-- R21: the peer channel table never holds more than 48 entries, nor two of one key, stays in its order, and never holds
an entry of the station's own number. -/
def Obligations.PictureStaysLegal : Prop :=
  (∀ s t : State, s.picture.legal → step s = .next t → t.picture.legal) ∧
  (∀ s t : State, s.pictureSorted → step s = .next t → t.pictureSorted)

/-- R130, R140: the alarm table never holds more than 48 entries, nor two of one key, and the flood slot holds the station's
own ALARM FLOOD and nothing else. R131: a raise of an own key makes its entry, or makes it again in RETURNED or latched,
in NEW with the next occurrence, and leaves one that stands as it is. R132: a clear latches a NEW entry of class 1 whose
code carries the floor flag, passes another NEW one to RETURNED and removes a STANDING one. R133: a class-4 raise enters
the log set alone. R139: a full table evicts the first in order of the least severe entries in RETURNED. R140: a raise
that finds no such entry is lost to the flood slot. R141: the entries of an absent origin that are left are orphaned in
RETURNED. R143: the station pulls the trip line for its own class-1 entries with the floor flag alone. -/
def Obligations.AlarmTableStaysLegal : Prop :=
  (∀ s t : State, s.alarmsLegal → step s = .next t → t.alarmsLegal) ∧
  (∀ (s : State) (code : AlarmCode) (channel : Nat), s.alarmsLegal → s.cfg.isSome = true → (s.response code).cls ≠ 4 →
    ((s.findAlarm s.ownNumber code channel = none ∧ s.alarms.table.length < 48) ∨
        (∃ e, s.findAlarm s.ownNumber code channel = some e ∧ (e.state = .returned ∨ (e.state = .new ∧ e.latched = true))) →
      (s.takeRaise code channel).alarms.occurrence = s.alarms.occurrence + 1 ∧
      (s.takeRaise code channel).alarms.silenced = false ∧
      ∃ b, (s.takeRaise code channel).findAlarm s.ownNumber code channel = some
        { origin := s.ownNumber, code := code, channel := channel, cls := (s.response code).cls,
          occurrence := s.alarms.occurrence + 1, state := .new, raised := s.now, unpublished := b }) ∧
    (∀ e, s.findAlarm s.ownNumber code channel = some e → (e.state = .standing ∨ (e.state = .new ∧ e.latched = false)) →
      s.takeRaise code channel = s) ∧
    (∀ e, s.findAlarm s.ownNumber code channel = some e → e.state = .new → e.latched = false →
      ∃ b, (s.clearKey code channel).findAlarm s.ownNumber code channel = some
        (if e.cls = 1 ∧ (s.response code).floor = true then { e with latched := true, unpublished := b }
         else { e with state := .returned, unpublished := b })) ∧
    (∀ e, s.findAlarm s.ownNumber code channel = some e → e.state = .standing →
      (s.clearKey code channel).findAlarm s.ownNumber code channel = none) ∧
    (s.findAlarm s.ownNumber code channel = none → 48 ≤ s.alarms.table.length →
      (∀ e ∈ s.alarms.table, e.state ≠ .returned) → (s.response .alarmFlood).cls ≠ 4 → code ≠ .alarmFlood →
      (s.takeRaise code channel).alarms.table.map (fun e => (e.origin, e.code, e.channel, e.state)) =
        s.alarms.table.map (fun e => (e.origin, e.code, e.channel, e.state)) ∧
      (s.takeRaise code channel).stands .alarmFlood 255 = true ∧
      (s.takeRaise code channel).alarms.lostCount =
        if s.stands .alarmFlood 255 = true then up16 s.alarms.lostCount else 1)) ∧
  (∀ (s : State) (code : AlarmCode) (channel : Nat), s.cfg.isSome = true → (s.response code).cls = 4 →
    (s.takeRaise code channel).alarms.table = s.alarms.table ∧
    ((∃ k ∈ s.alarms.logSet, k.1 = code ∧ k.2.1 = channel) → s.takeRaise code channel = s) ∧
    ((∀ k ∈ s.alarms.logSet, k.1 = code → k.2.1 ≠ channel) → s.alarms.logSet.length < 16 →
      (s.takeRaise code channel).alarms.logSet = s.alarms.logSet ++ [(code, channel, s.alarms.occurrence + 1)])) ∧
  (∀ (t : List AlarmEntry) (e : AlarmEntry), evictedAlarm t = some e ↔
    ∃ front back, t = front ++ e :: back ∧ e.state = .returned ∧ (∀ f ∈ t, f.state = .returned → f.cls ≤ e.cls) ∧
      ∀ f ∈ front, f.state = .returned → f.cls < e.cls) ∧
  (∀ (s : State) (origin : Nat), s.alarmsLegal → origin ≠ s.ownNumber →
    (∀ e ∈ (s.orphan origin).alarms.table, e.origin = origin → e.state = .returned ∧ e.orphaned = true) ∧
    (∀ e ∈ s.alarms.table, e.origin ≠ origin → e.origin ≠ s.ownNumber → e ∈ (s.orphan origin).alarms.table)) ∧
  (∀ s : State, s.pulls = true ↔ ∃ e ∈ s.alarms.all, e.origin = s.ownNumber ∧ e.cls = 1 ∧ e.state ≠ .returned ∧
    (s.response e.code).floor = true)

/-- R71, R82, R105: from every state in which it holds, every step keeps this: while the trip line is observed asserted,
every FEED latch holds 0 and no feed slot runs. R71: and this: the FEED latch of one stopped slot holds 0. No gate cycle
starts for a stopped slot, nor while the trip line is observed asserted. -/
def Obligations.TripInterlockHolds : Prop :=
  (∀ s t : State, s.interlocked → step s = .next t → t.interlocked) ∧
  (∀ s t : State, s.feedLatches → step s = .next t → t.feedLatches) ∧
  (∀ (s : State) (i : Fin 4) (d : DiSlot), s.slot i = .di d → (d.runs = false ∨ s.alarms.observed = true) → s.tryStart i = s)

/-- Between two commands no alarm request is left over and no mark of a control update stands. This is the model's choice:
the alarm unit takes the requests that the blocks send it at the end of the event, up to a bound (log entries 8 and 9), and the
marks are fields of the model's own (log entry 31). -/
def Obligations.StepsEndAtRest : Prop :=
  ∀ s t : State, s.rested = true → step s = .next t → t.rested = true

/-- The part right after `State.reset` satisfies all that steps keep: its memories are canonical, its link, picture
and alarm table legal, its queue and its picture in order, its interlock and the rule of its FEED latches in force, and it is
at rest. The blank part is the model's choice (log entry 1). -/
def Obligations.ResetIsSafe : Prop :=
  State.reset.nv.wf = true ∧ State.reset.link.legal = true ∧ State.reset.picture.legal ∧ State.reset.interlocked ∧ State.reset.alarmsLegal ∧
    State.reset.link.ordered ∧ State.reset.pictureSorted ∧ State.reset.feedLatches ∧
    State.reset.rested = true ∧ State.reset.live = false ∧
    (∀ a, State.reset.nv.array.read a = 0xFF ∧ State.reset.nv.config.read a = 0xFF ∧ State.reset.nv.otp.read a = 0xFF)

/-! ## Notices and frames -/

/-- R2, R4, Formats: a notice built into a frame by one station is the notice that another reads from it, and the frame
passes the length rule and the check. -/
def Obligations.FramesCarryNotices : Prop :=
  ∀ (origin : Nat) (n : Notice), n.fits = true → 1 ≤ origin → origin ≤ 31 →
    assemble (frameBytes origin n) = .frame origin n.kind n.payload true ∧
    lengthFits n.kind n.payload = true ∧ Notice.parse n.kind n.payload = some n

/-- R166, R184: a record takes its body and 3 bytes more, begins with its type and its body's length, and the sum of all its
bytes is 0 modulo 256. R167, R169 to R171: what the store's operations write in the map: a program that passes moves its
file's write position past its records and counts them, and they leave the queue; one that fails moves it to the next page. A
link joins a granule to the end of a chain by three writes in order. An erase ends FREE or BAD. A reclaim empties the entry
and makes its chain ERASING, and takes the CLOSED file of least close sequence number outside the fence: one with no
reservation and no pending step, where at least retain CLOSED files have a greater close sequence number. A step opens a file
where no other is OPEN, and makes one COLLATING where no other is and none of its records requested before the step is still
queued, and closes one where none is, with the close sequence number after the greatest; of the entries' first pending steps
that can be written, the one that was requested first is written. R168: each record that is dropped is counted, leaves its
file the journal gap flag or a flag due, and asks for JOURNAL GAP. R173: an entry that becomes EMPTY asks for the clear of a
STORE FULL that stands, or whose raise has been sent and is not taken to its end. That a reclaimed entry has every field at
its default is the model's choice (log entry 24), and so are that the clear of STORE FULL is not asked where that alarm
neither stands nor is on its way (log entry 67) and that a file not yet CLOSED has the closed time 0 (log entry 69). -/
def Obligations.RecordsSumToZero : Prop :=
  (∀ (base : Int) (r : QRecord),
    byteSum (r.bytes base) = 0 ∧ (r.bytes base).length = r.rest.length + 7 ∧
    (r.bytes base).take 2 = [byte r.type.number, byte (r.rest.length + 4)]) ∧
  (∀ (s : State) (op : ProgramOp),
    ((s.programPasses op).dir op.file = { s.dir op.file with
        page := if 256 ≤ op.byte + op.size then op.page + 1 else op.page
        byte := if 256 ≤ op.byte + op.size then 0 else op.byte + op.size
        records := min 65535 ((s.dir op.file).records + op.records.length)
        restartMark := (s.dir op.file).restartMark || op.records.any fun r => r.type == .restart
        saturated := (s.dir op.file).saturated || op.records.any fun r => r.saturated } ∧
      (∀ f, f ≠ op.file → (s.programPasses op).dir f = s.dir f) ∧ (s.programPasses op).map.alloc = s.map.alloc ∧
      ∀ r, r ∈ (s.programPasses op).store.queue ↔ r ∈ s.store.queue ∧ ∀ q ∈ op.records, q.seq ≠ r.seq) ∧
    ((s.programFails op).map.alloc = s.map.alloc ∧ ((s.programFails op).dir op.file).page = op.page + 1 ∧
      ((s.programFails op).dir op.file).byte = 0 ∧
      ((s.programFails op).dir op.file).records = (s.dir op.file).records)) ∧
  (∀ (s : State) (e : Fin 32) (g : Fin 128), (s.dir e).last ≠ some g →
    (s.linkGranule e g).map.alloc[g] = .last 1 ∧
    (∀ l, (s.dir e).last = some l → (s.linkGranule e g).map.alloc[l] = .next g ∧ (s.linkGranule e g).mapLog =
      [.dir e (s.dir e), .granule l s.map.alloc[l], .granule g s.map.alloc[g]] ++ s.mapLog) ∧
    (∀ h, h ≠ g → (s.dir e).last ≠ some h → (s.linkGranule e g).map.alloc[h] = s.map.alloc[h]) ∧
    (s.linkGranule e g).dir e = { s.dir e with last := some g, first := some ((s.dir e).first.getD g) } ∧
    (∀ f, f ≠ e → (s.linkGranule e g).dir f = s.dir f)) ∧
  (∀ (s : State) (g : Fin 128),
    (s.erasePasses g).map = { s.map with alloc := s.map.alloc.set g .free } ∧
    (s.eraseFails g).map = { s.map with alloc := s.map.alloc.set g .bad }) ∧
  (∀ (s : State) (e : Fin 32),
    (s.reclaimFile e).dir e = {} ∧ (∀ f, f ≠ e → (s.reclaimFile e).dir f = s.dir f) ∧
    (∀ g, (s.reclaimFile e).map.alloc[g] = if g ∈ s.map.chain (s.dir e) then .erasing else s.map.alloc[g]) ∧
    (s.reclaimFile e).store.counters.reclaims = up16 s.store.counters.reclaims ∧
    (s.agenda = [] → (s.reclaimFile e).agenda = if s.stands .storeFull 255 then [.clear .storeFull 255] else []) ∧
    (s.agenda.getLast? = some (.raise .storeFull 255) →
      (s.reclaimFile e).agenda = s.agenda ++ [.clear .storeFull 255])) ∧
  (∀ s t : State, s.reclaim = some t → ∃ e, t = s.reclaimFile e ∧ s.reclaimable e = true ∧ (s.dir e).state = .closed ∧
    ∀ f, s.reclaimable f = true → (s.dir e).closeSeq ≤ (s.dir f).closeSeq) ∧
  (∀ (s : State) (g : Cfg) (e : Fin 32), s.cfg = some g →
    (s.reclaimable e = true ↔ (s.dir e).state = .closed ∧ (s.aux e).reserved = false ∧ (s.aux e).steps = [] ∧
      g.retain ≤ (Finset.univ.filter fun f : Fin 32 =>
        (s.dir f).state = .closed ∧ (s.dir e).closeSeq < (s.dir f).closeSeq).card)) ∧
  (∀ (s : State) (e : Fin 32) (n : Serial) (k : Nat) (cut : Bool),
    (s.stepAllowed e (.opened n, k) = true ↔ ∀ f, f ≠ e → (s.dir f).state ≠ .opened) ∧
    (s.stepAllowed e (.collating, k) = true ↔ (∀ r ∈ s.store.queue, r.bound = .file e → k ≤ r.seq) ∧
      ∀ f, f ≠ e → (s.dir f).state ≠ .collating) ∧
    (s.stepAllowed e (.closed cut, k) = true ↔ ∀ r ∈ s.store.queue, r.bound = .file e → k ≤ r.seq) ∧
    (s.writeStep e (.opened n)).dir e = { state := .opened, shift := n, openedTime := s.seconds, gap := (s.aux e).gapDue } ∧
    (s.writeStep e .collating).dir e = { s.dir e with state := .collating } ∧
    (s.writeStep e (.closed cut)).dir e = { s.dir e with state := .closed, closedTime := s.seconds, cut := cut
                                                         closeSeq := ((s.writeStep e (.closed cut)).dir e).closeSeq } ∧
    (∀ f, (s.dir f).closeSeq < ((s.writeStep e (.closed cut)).dir e).closeSeq) ∧
    (∃ f, ((s.writeStep e (.closed cut)).dir e).closeSeq = (s.dir f).closeSeq + 1) ∧
    (∀ f st, f ≠ e → (s.writeStep e st).dir f = s.dir f) ∧
    (∀ st, ((s.takeStep e st).aux e).steps = (s.aux e).steps.drop 1)) ∧
  (∀ s : State,
    (s.stepOnce = none ↔ ∀ e x rest, (s.aux e).steps = x :: rest → s.stepAllowed e x = false) ∧
    ∀ t, s.stepOnce = some t → ∃ e st n rest, (s.aux e).steps = (st, n) :: rest ∧ s.stepAllowed e (st, n) = true ∧
      t = s.takeStep e st ∧ ∀ f x more, (s.aux f).steps = x :: more → s.stepAllowed f x = true → n ≤ x.2) ∧
  (∀ (s : State) (r : QRecord),
    (s.dropRecord r).agenda = s.agenda ++ [.raise .journalGap 255] ∧
    (s.dropRecord r).store.counters = { s.store.counters with queueDrops := up16 s.store.counters.queueDrops } ∧
    (s.dropRecord r).store.queue = s.store.queue ∧
    (∀ e, r.bound = .file e → (s.dir e).state ≠ .empty → (s.dropRecord r).dir e = { s.dir e with gap := true }) ∧
    (∀ e, r.bound = .file e → (s.dir e).state = .empty → (s.dropRecord r).aux e = { s.aux e with gapDue := true }) ∧
    (r.bound = .next → (s.dropRecord r).store.nextGapDue = true) ∧
    (r.bound = .unopened → (s.dropRecord r).map = s.map ∧ (s.dropRecord r).store.nextGapDue = s.store.nextGapDue))

/-! ## Starts (R176) -/

/-- R176, R177, R179, R110: a start ends in START HALT without an acceptable image, in COMMISSION in the commissioning
protection and in LISTEN otherwise, with the memories as they were; a line restart keeps the in-hand counts that RESET left.
R20: the medium-access state, the window, the timers, the causes and the backoff and discard counts have their start values;
where nothing is clamped and no file is found OPEN or COLLATING, no block offers anything and the whole link has them. That
the medium is not idle after a start is the model's inference (log entry 15): R20 gives no value for it. R160: with no file
found OPEN or COLLATING it holds no shift number. R158, R159: what the accountant does with the scan's report of a file: a
COLLATING file, and an OPEN one that ends in a CLOSE, is made CLOSED with the collation cut; for one that ends in a TOTALS a
CLOSE record with reason restart cut is offered first; any other is resumed: its number is the shift's, the timer runs for
what its age leaves, and its records' times go on from its age. -/
def Obligations.StartsRun : Prop :=
  (∀ (s : State) (strap : Bool), s.supply = false →
    ∃ t, exec (.powerOnStart strap) s = .next t ∧
      t.supply = true ∧ t.resetHeld = false ∧ t.strap = strap ∧ t.nv = s.nv ∧
      t.protection = s.nv.protect strap ∧ t.cfg = s.nv.image.map takeCfg ∧
      t.station = (if s.nv.image.isNone then .startHalt else if s.nv.protect strap = .commission then .commission else .listen) ∧
      t.picture.entries = [] ∧ t.picture.stations = [] ∧ t.picture.order = none ∧ t.picture.target = 0 ∧
      t.link.access = .idle ∧ t.link.window = 4 ∧ t.link.backoff = 0 ∧ t.link.discardsInRow = 0 ∧
      t.link.silenceDue = none ∧ t.link.duplicateDue = none ∧ t.link.exhaustionCause = false ∧ t.link.silenceCause = false ∧
      t.alarms.observed = false ∧ t.port.lastResult = .none ∧ t.port.window = none ∧
      ((∀ e, (s.dir e).state = .empty ∨ (s.dir e).state = .closed) →
        t.accountant.shift = none ∧ t.accountant.shiftDue = none ∧ t.accountant.collating = none ∧
        t.accountant.restartDue = true ∧ (t.clampedFields = 0 → t.link = {}))) ∧
  (∀ (s : State) (strap : Bool), s.supply = true → s.resetHeld = true →
    ∃ t, exec (.lineRestart strap) s = .next t ∧
      t.supply = true ∧ t.resetHeld = false ∧ t.strap = strap ∧ t.nv = s.nv ∧ t.channels.inHand = s.channels.inHand ∧
      t.protection = s.nv.protect strap ∧ t.cfg = s.nv.image.map takeCfg ∧
      t.station = (if s.nv.image.isNone then .startHalt else if s.nv.protect strap = .commission then .commission else .listen) ∧
      t.picture.entries = [] ∧ t.picture.stations = [] ∧ t.picture.order = none ∧ t.picture.target = 0 ∧
      t.link.access = .idle ∧ t.link.window = 4 ∧ t.link.backoff = 0 ∧ t.link.discardsInRow = 0 ∧
      t.link.silenceDue = none ∧ t.link.duplicateDue = none ∧ t.link.exhaustionCause = false ∧ t.link.silenceCause = false ∧
      t.alarms.observed = false ∧ t.port.lastResult = .none ∧ t.port.window = none ∧
      ((∀ e, (s.dir e).state = .empty ∨ (s.dir e).state = .closed) →
        t.accountant.shift = none ∧ t.accountant.shiftDue = none ∧ t.accountant.collating = none ∧
        t.accountant.restartDue = true ∧ (t.clampedFields = 0 → t.link = {}))) ∧
  (∀ (s : State) (r : FileReport), (∀ f, (s.aux f).steps = []) → s.store.queue = [] →
    ((r.collating = true ∨ ∃ time, r.last = some (6, time)) → (s.dir r.entry).state ≠ .empty →
      ((s.takeReport r).dir r.entry).state = .closed ∧ ((s.takeReport r).dir r.entry).cut = true ∧
      (s.takeReport r).accountant = s.accountant) ∧
    (∀ time, r.collating = false → r.last = some (4, time) → (s.dir r.entry).state = .opened → s.cfg.isSome = true →
      s.station = .listen → s.store.program = none → s.store.erase = none → s.store.area = none →
      (s.map.place (s.dir r.entry) 11).needs = false →
      ∃ op record, (s.takeReport r).store.program = some op ∧ op.file = r.entry ∧ op.records = [record] ∧
        record.type = .close ∧ record.bound = .file r.entry ∧ record.rest = [3, 0xFF, 0xFF, 2] ∧
        ((s.takeReport r).aux r.entry).steps = [(.closed true, s.store.seq + 1)] ∧
        (s.takeReport r).accountant = s.accountant) ∧
    (∀ age, r.collating = false → (s.dir r.entry).state = .opened →
      ((r.last = none ∧ age = 0) ∨ ∃ type, r.last = some (type, age) ∧ type ≠ 4 ∧ type ≠ 6) →
      (s.takeReport r).accountant.shift = some (s.dir r.entry).shift ∧
      (s.takeReport r).accountant.shiftDue = some (s.now + (s.shiftLength - age * 1000)) ∧
      (s.takeReport r).accountant.file = some r.entry ∧ (s.takeReport r).store.current = some r.entry ∧
      ((s.takeReport r).aux r.entry).base = (s.seconds : Int) - age ∧ (s.takeReport r).accountant.restartDue = false))

/-- R176, R73 to R75, R110, R163: RESET ends what was in progress and keeps the latches (R74), the map region and the
number of items each DI slot had in hand; a loss of supply keeps the memories, and the map region as it stood after the named
number of the latest event's map writes, or whole, alone, and the in-hand counts are unknown. In both the discrete outputs are
at rest (R75). R14, R15, R17: with RESET the station leaves RUN: the link interface is IDLE, an attempt on the medium is counted
as a collision in the same way as any other, and the rest of the link stays until the start (R20). With no program and no
operation of the port in progress every byte of memory stays; that an erase of a granule which is cut leaves its bytes too is
the model's choice (log entry 4), and so is that the blocks but the link take the values that a start gives them as RESET is
asserted, and all of them as the supply fails, before the start (log entry 44), and that the backoff count is 0 outside BACKOFF
(log entry 54). -/
def Obligations.ResetAndSupplyLoss : Prop :=
  (∀ s : State, s.live = true →
    ∃ t, exec .resetAsserted s = .next t ∧
      t.resetHeld = true ∧ t.supply = true ∧ t.output.latches = s.output.latches ∧ t.output.streaming = false ∧
      t.channels.inHand = s.countInHand ∧ (∀ i, t.slot i = .unused) ∧ t.map = s.map ∧
      (s.link.access ≠ .sending →
        t.link = { s.link with access := .idle, backoff := 0, sendingEntry := none }) ∧
      (∀ f, s.link.access = .sending → s.sendingFrame = some f →
        t.link.access = .idle ∧ t.link.sendingEntry = none ∧
        t.link.counters.collisions = up16 s.link.counters.collisions ∧
        (f.attempts < 7 → t.link = { s.link with
          counters := { s.link.counters with collisions := up16 s.link.counters.collisions }
          window := min 64 (2 * s.link.window)
          queue := s.link.queue.map fun q => if q.entry = f.entry then { q with attempts := q.attempts + 1 } else q
          access := .idle
          backoff := 0
          sendingEntry := none }) ∧
        (7 ≤ f.attempts → t.link.window = 4 ∧ t.link.discardsInRow = min 4 (s.link.discardsInRow + 1) ∧
          t.link.counters.exhaustionDiscards = up16 s.link.counters.exhaustionDiscards ∧
          (f.entry < s.link.entryCount → ∀ q ∈ t.link.queue, q.entry ≠ f.entry))) ∧
      t.picture = {} ∧ t.alarms = {} ∧ t.accountant = {} ∧ t.store = {} ∧ t.port = {} ∧ t.cfg = none ∧
      (∀ i, t.lines i = Lines.rest) ∧ t.horn = false ∧ t.pulls = false ∧ (∀ cls, t.lamp cls = .dark) ∧
      (s.store.program = none → s.store.area = none → t.nv = s.nv)) ∧
  (∀ (s : State) (mapWrites : Option Nat), s.supply = true →
    ∃ t, exec (.supplyFailure mapWrites) s = .next t ∧
      t.supply = false ∧ t.resetHeld = false ∧ t.output = {} ∧ t.channels.inHand = Vector.replicate 4 none ∧
      t.map = (match mapWrites with
        | none => s.map
        | some n => (s.mapLog.take (s.mapLog.length - n)).foldl MapRegion.undo s.map) ∧
      t.link = {} ∧ t.picture = {} ∧ t.alarms = {} ∧ t.accountant = {} ∧ t.store = {} ∧ t.port = {} ∧
      (∀ i, t.lines i = Lines.rest) ∧ t.horn = false ∧ t.pulls = false ∧ (∀ cls, t.lamp cls = .dark) ∧
      (s.store.program = none → s.store.area = none → t.nv = s.nv))

/-- R37, R160: at the end of the listen period the station enters RUN with a shift number. That the clock stands at the
expiry, or where it stood if that is later, is the model's choice (log entry 7). -/
def Obligations.ListenPeriodEndsInRun : Prop :=
  ∀ (s : State) (due : Nat), s.calm → s.picture.listenDue = some due →
    ∃ t, exec .listenTimerExpiry s = .next t ∧
      t.station = .run ∧ t.picture.listenDue = none ∧ t.now = max s.now due ∧ t.accountant.shift.isSome = true ∧
      t.picture.entries = s.picture.entries ∧ t.picture.order = s.picture.order ∧ t.fields = s.fields ∧ t.nv = s.nv

/-! ## The floor link (R3 to R18) -/

/-- R1, R3, R4, R5: what is not a valid frame changes one counter at most, and the first check that fails decides which; a
burst that is heard makes the medium busy; while the burst on the medium is the station's own echo, nothing of it is taken.
The check is the CRC-16 over origin, kind, length and payload, and each kind has its length rule. That a FRAME_CUT_SHORT whose
bytes complete a frame is taken as FRAME_RECEIVED is the model's choice (log entry 15). -/
def Obligations.BadFramesAreCounted : Prop :=
  (∀ (s : State) (burst : List Byte), s.calm → s.link.deaf = false →
    exec (.frameReceived burst) s = exec (.frameCutShort burst) s ∧
    (assemble burst = .ignored → exec (.frameReceived burst) s = .next s.begun.mediumBusy) ∧
    (assemble burst = .badLength → exec (.frameReceived burst) s =
      .next (s.begun.mediumBusy.countLink fun c => { c with badLength := up16 c.badLength })) ∧
    (assemble burst = .short → exec (.frameReceived burst) s =
      .next (s.begun.mediumBusy.countLink fun c => { c with badCheck := up16 c.badCheck })) ∧
    ∀ origin kind payload ok, assemble burst = .frame origin kind payload ok →
      (ok = false ∨ origin = 0 ∨ 31 < origin ∨ kind = 0 ∨ 7 < kind ∨ lengthFits kind payload = false) →
      exec (.frameReceived burst) s = .next (s.begun.mediumBusy.countLink fun c =>
        if ok = false then { c with badCheck := up16 c.badCheck }
        else if origin = 0 ∨ 31 < origin then { c with badOrigin := up16 c.badOrigin }
        else if kind = 0 ∨ 7 < kind then { c with unknownKind := up16 c.unknownKind }
        else { c with lengthMismatch := up16 c.lengthMismatch })) ∧
  (∀ (s : State) (burst : List Byte), s.calm → s.link.deaf = true →
    exec (.frameReceived burst) s = .next s.begun ∧ exec (.frameCutShort burst) s = .next s.begun) ∧
  (∀ (o k c0 c1 : Byte) (payload extra : List Byte), payload.length ≤ 120 →
    assemble (0x7E :: 0xC3 :: o :: k :: byte payload.length :: (payload ++ c0 :: c1 :: extra)) =
      .frame o.toNat k.toNat payload
        (decide ((crc16 (o :: k :: byte payload.length :: payload)).toNat = c0.toNat * 256 + c1.toNat))) ∧
  (∀ (kind : Nat) (p : List Byte), lengthFits kind p = true ↔
    ((kind = 1 ∨ kind = 2) ∧ p.length = 10) ∨ (kind = 3 ∧ p.length = 5) ∨ (kind = 4 ∧ p.length = 6) ∨
      (kind = 5 ∧ p.length = 5) ∨ (kind = 6 ∧ p.length = 2) ∨
      (kind = 7 ∧ ∃ n ≤ 4, at1 p 2 = n ∧ p.length = 15 + 12 * n))

/-- R6, R7, R18, R30: a valid frame with the station's own number reaches no block: it is counted and starts or restarts the
duplicate timer; one of another station is counted, restarts the silence timer, ends the silence cause and is a sign of
life of its origin. R154: a newer shift mark closes the shift for its number, another is ignored and counted. R157: a summary
of the shift in collation is collated once from each station, and one of another shift is late. R134: a raise notice makes the
entry of its key in NEW, where there is room or an older or orphaned entry; a clear notice passes a NEW entry to RETURNED and
removes a STANDING one. R136: an acknowledgement of the same occurrence passes a NEW entry to STANDING and removes a latched or
RETURNED one, and one of another occurrence is counted as stale. R133, R134: a class-4 notice changes no entry, and one of no
known class or event is counted as stale. What a notice does holds before the alarm unit takes the requests that the event
itself sends, which is the model's choice (log entry 8): one of them may evict an entry in RETURNED. That a re-raised entry holds
no acknowledgement to offer again is the model's choice (log entry 12). -/
def Obligations.ValidFramesAreTaken : Prop :=
  (∀ (s : State) (burst payload : List Byte) (kind : Nat), s.calm → s.link.deaf = false →
    assemble burst = .frame s.ownNumber kind payload true → 1 ≤ s.ownNumber → s.ownNumber ≤ 31 → 1 ≤ kind → kind ≤ 7 →
    lengthFits kind payload = true →
    ∃ t, exec (.frameReceived burst) s = .next t ∧
      t.link.counters.ownOrigin = up16 s.link.counters.ownOrigin ∧ t.link.counters.accepted = s.link.counters.accepted ∧
      t.link.duplicateDue = some (s.now + s.lostTime) ∧ t.link.silenceDue = s.link.silenceDue ∧
      t.picture = s.picture ∧ t.fields = s.fields ∧ t.nv = s.nv) ∧
  (∀ (s : State) (burst payload : List Byte) (origin kind : Nat) (g : Cfg), s.calm → s.link.deaf = false →
    s.cfg = some g → assemble burst = .frame origin kind payload true → 1 ≤ origin → origin ≤ 31 → 1 ≤ kind → kind ≤ 7 →
    lengthFits kind payload = true → origin ≠ g.station →
    ∃ t, exec (.frameReceived burst) s = .next t ∧
      t.link.counters.accepted = up16 s.link.counters.accepted ∧ t.link.silenceDue = some (s.now + g.lostTime) ∧
      t.link.silenceCause = false ∧
      (∃ p ∈ t.picture.stations, p.station = origin ∧ p.present = true ∧ p.last = s.now) ∧
      t.fields = s.fields ∧ t.nv = s.nv) ∧
  (∀ (s : State) (burst : List Byte) (origin : Nat) (m n : Serial), s.hears burst origin (.mark m) →
    (s.station = .listen ∨ s.station = .run) → s.accountant.shift = some n →
    ∃ t, exec (.frameReceived burst) s = .next t ∧
      (newer m n = true → t.accountant.shift = some m ∧ t.accountant.collating = some n ∧
        t.accountant.shiftDue = some (s.now + s.shiftLength)) ∧
      (newer m n = false → t.accountant.shift = some n ∧ t.accountant.collating = s.accountant.collating ∧
        t.accountant.counters.marksIgnored = up16 s.accountant.counters.marksIgnored)) ∧
  (∀ (s : State) (burst payload : List Byte) (origin : Nat) (n : Serial), s.hears burst origin (.summary payload) →
    (s.station = .listen ∨ s.station = .run) → s.accountant.collating = some n →
    ∃ t, exec (.frameReceived burst) s = .next t ∧
      (BitVec.ofNat 16 (at2 payload 0) = n → origin ∉ s.accountant.collated →
        t.accountant.collated = s.accountant.collated ++ [origin] ∧
        t.accountant.counters = { s.accountant.counters with collated := up16 s.accountant.counters.collated }) ∧
      (BitVec.ofNat 16 (at2 payload 0) = n → origin ∈ s.accountant.collated →
        t.accountant.collated = s.accountant.collated ∧ t.accountant.counters =
          { s.accountant.counters with duplicateSummaries := up16 s.accountant.counters.duplicateSummaries }) ∧
      (BitVec.ofNat 16 (at2 payload 0) ≠ n → t.accountant.collated = s.accountant.collated ∧ t.accountant.counters =
          { s.accountant.counters with lateSummaries := up16 s.accountant.counters.lateSummaries })) ∧
  (∀ (s : State) (burst : List Byte) (origin channel cls : Nat) (code : AlarmCode) (occ : Serial), s.alarmsLegal →
    s.hears burst origin (.alarm code.number channel cls 1 occ) → 1 ≤ cls → cls ≤ 3 →
    ((s.findAlarm origin code channel = none ∧ s.alarms.table.length < 48) ∨
      ∃ e, s.findAlarm origin code channel = some e ∧ (e.orphaned = true ∨ newer occ e.occurrence = true)) →
    ∃ t, exec (.frameReceived burst) s = .next t ∧ t.findAlarm origin code channel = some
      { origin := origin, code := code, channel := channel, cls := cls, occurrence := occ, raised := s.now }) ∧
  (∀ (s : State) (burst : List Byte) (origin channel cls : Nat) (code : AlarmCode) (occ : Serial) (e : AlarmEntry),
    s.alarmsLegal → s.hears burst origin (.alarm code.number channel cls 2 occ) → 1 ≤ cls → cls ≤ 3 →
    s.findAlarm origin code channel = some e → e.orphaned = false →
    ∃ t, exec (.frameReceived burst) s = .next t ∧
      (e.state = .new → e.occurrence = occ → ∀ f, t.findAlarm origin code channel = some f → f = { e with state := .returned }) ∧
      ((newer occ e.occurrence = true ∨ (e.occurrence = occ ∧ e.state = .standing)) →
        t.findAlarm origin code channel = none) ∧
      ∃ u, t = State.settle u ∧
        (e.state = .new → e.occurrence = occ → u.findAlarm origin code channel = some { e with state := .returned })) ∧
  (∀ (s : State) (burst : List Byte) (origin code channel cls event : Nat) (occ : Serial),
    s.hears burst origin (.alarm code channel cls event occ) →
    ∃ u, exec (.frameReceived burst) s = .next (State.settle u) ∧
      (cls = 0 ∨ 4 ≤ cls ∨ event = 0 ∨ 2 < event ∨ AlarmCode.ofNumber code = none →
        u.alarms.table = s.alarms.table ∧ u.alarms.flood = s.alarms.flood) ∧
      (cls = 0 ∨ 4 < cls ∨ event = 0 ∨ 2 < event ∨ AlarmCode.ofNumber code = none →
        u.alarms.counters.staleNotices = up16 s.alarms.counters.staleNotices)) ∧
  (∀ (s : State) (burst : List Byte) (origin o channel : Nat) (code : AlarmCode) (occ : Serial) (e : AlarmEntry),
    s.alarmsLegal → s.hears burst origin (.ack o code.number channel occ) → s.findAlarm o code channel = some e →
    ∃ t, exec (.frameReceived burst) s = .next t ∧
      (e.occurrence = occ → o ≠ s.ownNumber → e.state = .new → e.latched = false →
        t.findAlarm o code channel = some { e with state := .standing }) ∧
      (e.occurrence = occ → o ≠ s.ownNumber → (e.state = .returned ∨ (e.state = .new ∧ e.latched = true)) →
        t.findAlarm o code channel = none) ∧
      (e.occurrence ≠ occ → t.alarms.counters.staleAcks = up16 s.alarms.counters.staleAcks) ∧
      ∃ u, t = State.settle u ∧
        (e.occurrence = occ → e.state = .new → e.latched = false → s.isFloodKey e = false →
          u.findAlarm o code channel = some { e with state := .standing }) ∧
        (e.occurrence = occ → (e.state = .returned ∨ (e.state = .new ∧ e.latched = true)) →
          u.findAlarm o code channel = none))

/-- R22, R23, R185: a heat notice of a peer within its ranges is the entry of its key, FRESH, at the time it was heard, with
heats above 400,000 kW taken as 400,000; one outside its ranges is refused and counted, and changes no entry. An air notice
within its ranges likewise, with a recovered heat above 400,000 kW taken as 400,000. R24: a full table refuses a notice of
another key and counts it. R25: a notice of the other kind than its entry's replaces it and is counted, and starts the loss
hold where it replaces a feed entry. -/
def Obligations.HeatNoticesFillThePicture : Prop :=
  (∀ (s : State) (burst payload : List Byte) (origin channel rank fuel state actual commanded : Nat) (held starved : Bool)
    (g : Cfg), s.calm → s.link.deaf = false → s.cfg = some g → assemble burst = .frame origin 1 payload true →
    1 ≤ origin → origin ≤ 31 → lengthFits 1 payload = true → origin ≠ g.station →
    Notice.parse 1 payload = some (.heat channel rank fuel state actual commanded held starved) →
    channel ≤ 3 → 1 ≤ rank → rank ≤ 15 → fuel ≤ 7 →
    (s.picture.entries.length < 48 ∨ (s.findPeer origin channel).isSome = true) →
    ∃ t, exec (.frameReceived burst) s = .next t ∧
      t.findPeer origin channel = some
        { station := origin, channel := channel, state := state, age := .fresh, last := s.now,
          body := .feed (min 400000 actual) (min 400000 commanded) fuel rank held starved } ∧
      (∀ st ch, (st, ch) ≠ (origin, channel) → t.findPeer st ch = s.findPeer st ch)) ∧
  (∀ (s : State) (burst payload : List Byte) (origin channel rank fuel state actual commanded : Nat) (held starved : Bool)
    (g : Cfg), s.calm → s.link.deaf = false → s.cfg = some g → assemble burst = .frame origin 1 payload true →
    1 ≤ origin → origin ≤ 31 → lengthFits 1 payload = true → origin ≠ g.station →
    Notice.parse 1 payload = some (.heat channel rank fuel state actual commanded held starved) →
    (3 < channel ∨ rank = 0 ∨ 15 < rank ∨ 7 < fuel) →
    ∃ t, exec (.frameReceived burst) s = .next t ∧ t.picture.entries = s.picture.entries ∧
      t.picture.counters.refusedNotices = up16 s.picture.counters.refusedNotices) ∧
  (∀ (s : State) (burst : List Byte) (origin channel role state recovered flow clinker : Nat) (recup flush : Bool),
    s.hears burst origin (.air channel role recup flush state recovered flow clinker) →
    (channel ≤ 3 → role ≤ 1 → (s.picture.entries.length < 48 ∨ (s.findPeer origin channel).isSome = true) →
      ∃ t, exec (.frameReceived burst) s = .next t ∧
        t.findPeer origin channel = some
          { station := origin, channel := channel, state := state, age := .fresh, last := s.now,
            body := .air role recup (min 400000 recovered) flow clinker flush } ∧
        (∀ st ch, (st, ch) ≠ (origin, channel) → t.findPeer st ch = s.findPeer st ch)) ∧
    ((3 < channel ∨ 1 < role) → ∃ t, exec (.frameReceived burst) s = .next t ∧ t.picture.entries = s.picture.entries ∧
      t.picture.counters.refusedNotices = up16 s.picture.counters.refusedNotices)) ∧
  (∀ (s : State) (burst : List Byte) (origin channel : Nat) (n : Notice), s.hears burst origin n → channel ≤ 3 →
    ((∃ rank fuel state actual commanded held starved, n = .heat channel rank fuel state actual commanded held starved ∧
        1 ≤ rank ∧ rank ≤ 15 ∧ fuel ≤ 7) ∨
      ∃ role recup flush state recovered flow clinker, n = .air channel role recup flush state recovered flow clinker ∧
        role ≤ 1) →
    (48 ≤ s.picture.entries.length → s.findPeer origin channel = none →
      ∃ t, exec (.frameReceived burst) s = .next t ∧ t.picture.entries = s.picture.entries ∧
        t.picture.counters.fullRefusals = up16 s.picture.counters.fullRefusals) ∧
    (∀ old g, s.findPeer origin channel = some old → s.cfg = some g → (old.isFeed = true ↔ n.kind = 2) →
      ∃ t, exec (.frameReceived burst) s = .next t ∧
        t.picture.counters.kindChanges = up16 s.picture.counters.kindChanges ∧
        t.picture.lossHoldDue = if old.isFeed = true ∧ g.lossHold ≠ 0 then some (s.now + g.lossHold * 1000)
          else s.picture.lossHoldDue))

/-- R14: a backoff slot with the medium idle lowers the count by one, and at 0 the head is sent; the medium turning busy cuts
the wait short: BACKOFF falls back to AWAIT GAP. That its count is then 0 is the model's choice (log entry 54), and so is that a
BACKOFF_SLOT outside BACKOFF or with the medium busy, and a DEFER while SENDING, have no effect (log entry 15). -/
def Obligations.BackoffCountsAndDefers : Prop :=
  (∀ s : State, s.calm →
    (∀ n, s.link.access = .backoff → s.link.mediumIdle = true → s.link.backoff = n + 2 →
      exec .backoffSlot s = .next { s.begun with link := { s.link with backoff := n + 1 } }) ∧
    (s.link.access = .backoff → s.link.mediumIdle = true → s.link.backoff ≤ 1 →
      exec .backoffSlot s = .next { s.begun with link := s.link.send }) ∧
    (s.link.access ≠ .backoff ∨ s.link.mediumIdle = false → exec .backoffSlot s = .next s.begun)) ∧
  (∀ s : State, s.calm →
    (s.link.access = .backoff → exec .defer s =
      .next { s.begun with link := { s.link with mediumIdle := false, access := .awaitGap, backoff := 0 } }) ∧
    (s.link.access = .sending → exec .defer s = .next s.begun) ∧
    (s.link.access = .idle ∨ s.link.access = .awaitGap →
      exec .defer s = .next { s.begun with link := { s.link with mediumIdle := false } }))

/-- R14: at the quiet gap a station in RUN that waits with a frame enters BACKOFF with the class delay of the head plus a
draw, which lies below the contention window while that is not 0, and sends at once where the sum is 0; without a frame it stays
IDLE. The draw is a free value (log entry 3). That a quiet gap in SENDING has no effect, and one in BACKOFF none but that the
medium counts as idle, is the model's choice (log entry 15). -/
def Obligations.QuietGapStartsBackoff : Prop :=
  ∀ s : State, s.calm →
    let quiet := { s.link with mediumIdle := true, deaf := false }
    (∀ head rest, s.station = .run → (s.link.access = .idle ∨ s.link.access = .awaitGap) → s.link.queue = head :: rest →
      ∃ draw, draw = Config.backoffDraw s.free % s.link.window ∧ (0 < s.link.window → draw < s.link.window) ∧
        exec .quietGap s = .next { s.begun with
          free := s.free + 1
          link := if draw + 2 * head.notice.cls = 0 then quiet.send
            else { quiet with access := .backoff, backoff := draw + 2 * head.notice.cls } }) ∧
    (s.link.access = .idle → s.link.queue = [] → exec .quietGap s = .next { s.begun with link := quiet }) ∧
    (s.station ≠ .run → s.link.access ≠ .sending → exec .quietGap s = .next { s.begun with link := quiet }) ∧
    (s.link.access = .backoff → exec .quietGap s = .next { s.begun with link := quiet }) ∧
    (s.link.access = .sending → exec .quietGap s = .next s.begun)

/-- R15, R17: a collision counts the attempt and doubles the window up to 64, and the station waits for the next gap; the
eighth attempt gives the frame up: it leaves the queue, and the window returns to 4. Where the frame is no alarm traffic, the
alarm unit has nothing to offer again and no exhaustion comes of it (R18), nothing else changes. -/
def Obligations.CollisionsWidenTheWindow : Prop :=
  ∀ (s : State) (f : QFrame), s.calm → s.link.access = .sending → s.sendingFrame = some f →
    (f.attempts < 7 → exec .collision s = .next { s.begun with link := { s.link with
        counters := { s.link.counters with collisions := up16 s.link.counters.collisions }
        window := min 64 (2 * s.link.window)
        queue := s.link.queue.map fun q => if q.entry = f.entry then { q with attempts := q.attempts + 1 } else q
        access := if s.link.queue.isEmpty || s.station != .run then .idle else .awaitGap
        sendingEntry := none } }) ∧
    (7 ≤ f.attempts → ∃ t, exec .collision s = .next t ∧ t.link.window = 4 ∧
      (f.entry < s.link.entryCount → ∀ q ∈ t.link.queue, q.entry ≠ f.entry) ∧
      t.link.counters.collisions = up16 s.link.counters.collisions ∧
      t.link.counters.exhaustionDiscards = up16 s.link.counters.exhaustionDiscards ∧
      t.link.discardsInRow = min 4 (s.link.discardsInRow + 1) ∧
      t.link.exhaustionCause = (s.link.exhaustionCause || decide (3 ≤ s.link.discardsInRow)) ∧
      t.picture = s.picture ∧ t.fields = s.fields ∧ t.nv = s.nv) ∧
    (7 ≤ f.attempts → f.notice.cls ≠ 0 → s.link.discardsInRow < 3 → s.alarms.retry = [] →
      (∀ e ∈ s.alarms.all, e.unpublished = false ∧ e.ackUnpublished = false) →
      exec .collision s = .next { s.begun with link := { s.link with
        counters := { s.link.counters with collisions := up16 s.link.counters.collisions
                                           exhaustionDiscards := up16 s.link.counters.exhaustionDiscards }
        queue := s.link.queue.filter (·.entry != f.entry)
        window := 4
        discardsInRow := s.link.discardsInRow + 1
        access := if (s.link.queue.filter (·.entry != f.entry)).isEmpty || s.station != .run then .idle else .awaitGap
        sendingEntry := none } })

/-- R16: a frame sent cleanly leaves the queue and is counted, the window returns to 4 and the discard count to 0; where the
alarm unit has nothing to offer again and no exhaustion stands, nothing else changes. -/
def Obligations.CleanSendingEndsTheFrame : Prop :=
  ∀ (s : State) (f : QFrame), s.calm → s.link.access = .sending → s.sendingFrame = some f →
    (∃ t, exec .sentCleanly s = .next t ∧ t.link.window = 4 ∧ t.link.discardsInRow = 0 ∧ t.link.exhaustionCause = false ∧
      t.link.counters.sent = up16 s.link.counters.sent ∧ t.picture = s.picture ∧ t.fields = s.fields ∧ t.nv = s.nv) ∧
    (s.link.exhaustionCause = false → s.alarms.retry = [] →
      (∀ e ∈ s.alarms.all, e.unpublished = false ∧ e.ackUnpublished = false) →
      exec .sentCleanly s = .next { s.begun with link := { s.link with
        counters := { s.link.counters with sent := up16 s.link.counters.sent }
        queue := s.link.queue.filter (·.entry != f.entry)
        window := 4
        discardsInRow := 0
        access := if (s.link.queue.filter (·.entry != f.entry)).isEmpty || s.station != .run then .idle else .awaitGap
        sendingEntry := none } })

/-- R6, R18: the duplicate timer and the silence timer expire: each stops, and the silence cause is set. That
the clock stands at the expiry, or where it stood if that is later, is the model's choice (log entry 7). -/
def Obligations.LinkTimersExpire : Prop :=
  ∀ (s : State) (due : Nat), s.calm →
    (s.link.duplicateDue = some due → ∃ t, exec .duplicateTimerExpiry s = .next t ∧ t.link.duplicateDue = none ∧
      t.now = max s.now due ∧ t.link.silenceDue = s.link.silenceDue ∧ t.picture = s.picture ∧ t.fields = s.fields ∧
      t.nv = s.nv) ∧
    (s.link.silenceDue = some due → ∃ t, exec .silenceTimerExpiry s = .next t ∧ t.link.silenceDue = none ∧
      t.link.silenceCause = true ∧ t.now = max s.now due ∧ t.link.duplicateDue = s.link.duplicateDue ∧
      t.picture = s.picture ∧ t.fields = s.fields ∧ t.nv = s.nv)

/-! ## The floor picture and the firing order (R26 to R35) -/

/-- R26, R29: an entry whose stale_time passes becomes STALE with every value kept, and the picture hold stands. -/
def Obligations.SilentEntriesGoStale : Prop :=
  ∀ (s : State) (station channel : Nat) (e : PeerEntry) (g : Cfg), s.calm → s.cfg = some g →
    s.findPeer station channel = some e → e.age = .fresh →
    ∃ t, exec (.staleTimeExpiry station channel) s = .next t ∧
      t.findPeer station channel = some { e with age := .stale } ∧ t.pictureHold = true ∧
      (∀ st ch, (st, ch) ≠ (station, channel) → t.findPeer st ch = s.findPeer st ch) ∧
      t.picture.order = s.picture.order ∧ t.fields = s.fields ∧ t.nv = s.nv

/-- R27, R28: an entry whose lost_time passes is removed and counted; a feed entry starts the loss hold at its full length,
unless that is 0, and an air entry does not touch it; the loss hold ends when its timer expires and changes nothing else.
That the clock stands at the expiry, or where it stood if that is later, is the model's choice (log entry 7). -/
def Obligations.SilentEntriesAreLost : Prop :=
  (∀ (s : State) (station channel : Nat) (e : PeerEntry) (g : Cfg), s.calm → s.cfg = some g →
    s.findPeer station channel = some e →
    ∃ t, exec (.lostTimeExpiry station channel) s = .next t ∧ t.findPeer station channel = none ∧
      t.now = max s.now (e.last + g.lostTime) ∧
      (∀ st ch, (st, ch) ≠ (station, channel) → t.findPeer st ch = s.findPeer st ch) ∧
      t.picture.counters.entriesLost = up16 s.picture.counters.entriesLost ∧
      t.picture.lossHoldDue =
        (if e.isFeed = true ∧ g.lossHold ≠ 0 then some (t.now + g.lossHold * 1000) else s.picture.lossHoldDue) ∧
      t.picture.order = s.picture.order ∧ t.fields = s.fields ∧ t.nv = s.nv) ∧
  (∀ (s : State) (due : Nat), s.calm → s.picture.lossHoldDue = some due →
    exec .lossHoldExpiry s =
      .next { s.begun with now := max s.now due, picture := { s.picture with lossHoldDue := none } })

/-- R31: a station that falls silent is ABSENT in the list with its last-heard time, the absence is counted, and none of its
entries is left: each is counted as lost, and a feed entry among them starts the loss hold or starts it again, unless it is
configured as 0. Other stations, their entries and the adopted order stay as they are. That the clock stands at the
expiry, or where it stood if that is later, is the model's choice (log entry 7). -/
def Obligations.SilentStationsGoAbsent : Prop :=
  ∀ (s : State) (station : Nat) (p : PeerStation), s.calm → s.findStation station = some p → p.present = true →
    ∃ t, exec (.stationAbsent station) s = .next t ∧
      t.now = max s.now (p.last + s.lostTime) ∧
      (∀ e ∈ t.picture.entries, e.station ≠ station) ∧
      (∀ e, e.station ≠ station → (e ∈ t.picture.entries ↔ e ∈ s.picture.entries)) ∧
      (∀ st ch, st ≠ station → t.findPeer st ch = s.findPeer st ch) ∧
      t.findStation station = some { p with present := false } ∧
      (∀ other, other ≠ station → t.findStation other = s.findStation other) ∧
      (∀ q ∈ t.picture.stations, q.station = station → q.present = false) ∧
      t.picture.counters.absences = up16 s.picture.counters.absences ∧
      t.picture.counters.entriesLost = (s.picture.entries.filter fun e => e.station == station).foldl
        (fun lost _ => up16 lost) s.picture.counters.entriesLost ∧
      (∀ g, s.cfg = some g → t.picture.lossHoldDue =
        if (∃ e ∈ s.picture.entries, e.station = station ∧ e.isFeed = true) ∧ g.lossHold ≠ 0
        then some (t.now + g.lossHold * 1000) else s.picture.lossHoldDue) ∧
      t.picture.order = s.picture.order ∧ t.fields = s.fields ∧ t.nv = s.nv

/-- R34, R35: a take at a desk in RUN with a FRESH firing input makes the order of the next epoch with the setpoint clamped
to 0 to 400,000 kW and offers it on the link; any other take at a desk is refused and counted, and the line of a station
without the desk option is not read. At the expiry of the refresh timer of a desk in RUN the adopted order is offered on the
link again, as it stands, and the timer runs at its full length; the order stands as it was. An offered order stands in the
transmit queue where that has room or holds an order that is not committed. That the clock stands at the expiry, or where it
stood if that is later, and the timer runs from there, is the model's choice (log entry 7), and so is that the requests which
a take brings about are taken after its offer (log entry 8). -/
def Obligations.TakesAndRefreshes : Prop :=
  (∀ (s : State) (g : Cfg), s.calm → s.cfg = some g →
    (g.desk = false → exec .take s = .next s.begun) ∧
    (∀ (k : Fin 16) (c : FiringOrder), g.desk = true → s.station = .run → s.stationInput .firing = some k →
      s.inputFresh k = true →
      c = { epoch := (match s.picture.order with
              | none => 1
              | some a => a.epoch + 1)
            target := min 400000 (s.input k).value.toNat, origin := g.station } →
      ∃ t u, exec .take s = .next t ∧ t = State.settle u ∧ s.link.tookOffer u.link (.order c.epoch c.target) ∧
        (s.link.queue.length < 12 ∨ (∃ f ∈ s.link.queue, f.committed = false ∧ f.notice.kind = 3) →
          ∃ f ∈ u.link.queue, f.notice = .order c.epoch c.target) ∧
        t.picture.order = some c ∧
        t.picture.counters.ordersAdopted = up16 s.picture.counters.ordersAdopted ∧
        t.picture.entries = s.picture.entries ∧ t.picture.target = s.picture.target ∧ t.fields = s.fields ∧ t.nv = s.nv) ∧
    (g.desk = true → (s.station ≠ .run ∨ s.stationInput .firing = none ∨
        ∃ k, s.stationInput .firing = some k ∧ s.inputFresh k = false) →
      exec .take s = .next { s.begun with picture := { s.picture with counters :=
        { s.picture.counters with takesRefused := up16 s.picture.counters.takesRefused } } })) ∧
  (∀ (s : State) (due : Nat) (g : Cfg) (a : FiringOrder), s.calm → s.cfg = some g → g.desk = true → s.station = .run →
    s.picture.refreshDue = some due → s.picture.order = some a →
    ∃ t, exec .refreshTimerExpiry s = .next t ∧ t.now = max s.now due ∧
      t.picture = { s.picture with refreshDue := some (t.now + g.firingRefresh * 1000) } ∧
      s.link.tookOffer t.link (.order a.epoch a.target) ∧
      (s.link.queue.length < 12 ∨ (∃ f ∈ s.link.queue, f.committed = false ∧ f.notice.kind = 3) →
        ∃ f ∈ t.link.queue, f.notice = .order a.epoch a.target) ∧
      t.fields = s.fields ∧ t.nv = s.nv)

/-- R32: a candidate is adopted where none stands, where its epoch is newer, or where at the same epoch it differs in
target and comes from a lower station; the same order is confirmed; anything else is refused, an epoch that lies exactly
32,768 away among it. A heard order, with its target taken as at most 400,000 kW, is adopted whole or changes nothing, and
one counter tells which. -/
def Obligations.OrdersAreComparedByEpoch : Prop :=
  (∀ (s : State) (burst payload : List Byte) (origin target : Nat) (epoch : Serial) (g : Cfg) (c : FiringOrder), s.calm →
    s.link.deaf = false → s.cfg = some g → assemble burst = .frame origin 3 payload true → 1 ≤ origin → origin ≤ 31 →
    lengthFits 3 payload = true → origin ≠ g.station → Notice.parse 3 payload = some (.order epoch target) →
    c = { epoch := epoch, target := min 400000 target, origin := origin } →
    ∃ t, exec (.frameReceived burst) s = .next t ∧
      t.picture.order = (if compareOrder s.picture.order c = .adopted then some c else s.picture.order) ∧
      t.picture.counters.ordersAdopted = (if compareOrder s.picture.order c = .adopted then
        up16 s.picture.counters.ordersAdopted else s.picture.counters.ordersAdopted) ∧
      t.picture.counters.ordersConfirmed = (if compareOrder s.picture.order c = .confirmed then
        up16 s.picture.counters.ordersConfirmed else s.picture.counters.ordersConfirmed) ∧
      t.picture.counters.ordersRefused = (if compareOrder s.picture.order c = .refused then
        up16 s.picture.counters.ordersRefused else s.picture.counters.ordersRefused) ∧
      t.picture.entries = s.picture.entries ∧ t.picture.target = s.picture.target ∧ t.fields = s.fields ∧ t.nv = s.nv) ∧
  ∀ (a c : FiringOrder),
    compareOrder none c = .adopted ∧
    (newer c.epoch a.epoch = true → compareOrder (some a) c = .adopted) ∧
    (c.epoch = a.epoch → c.target ≠ a.target → c.origin < a.origin → compareOrder (some a) c = .adopted) ∧
    (c = a → compareOrder (some a) c = .confirmed) ∧
    (newer a.epoch c.epoch = true → compareOrder (some a) c = .refused) ∧
    (c.epoch = a.epoch + 32768 → compareOrder (some a) c = .refused) ∧
    (c.epoch = a.epoch → c ≠ a → (c.target = a.target ∨ a.origin ≤ c.origin) → compareOrder (some a) c = .refused)

/-! ## Heat allocation and dosing (R36 to R54) -/

/-- R36, R39, R111, R112: at a control update the update timer runs again from its expiry, the effective target moves to the
adopted one by at most its step, and the clinker rate estimate of a station with a cooler slot takes a rise at once and a
fall by at most its decay step. R88, R108, R126: an update in RUN ends, after all its slots have acted, with the
publications: each used slot's publish count takes one step, or is 0 where the slot left OFF or STOPPED at this update; a
slot whose count reaches the divisor returns to 0 and offers its notice, composed as it then stands, unless a change of its
state at this update has offered one; outside RUN an update publishes nothing. R87, R88, R105, R126: each change of a slot's
state offers its notice after the change, and nothing else: a stop of a feed slot in any state, a CF slot's leaving OFF, the
end of its start test, its hold verdict, a fan's and a grate's entry into a state, and the entry to RUN, which sets the count
to 0; a change at an update is marked, so that one notice serves; a fan that a flush forces, or that its end releases, offers
its own. What a notice carries is State.slotNotice, and that a notice has been offered on the link is Link.tookOffer (R9 to
R11). That the clock stands at the expiry, or where it stood if that is later, and the timer runs again from the expiry
itself, is the model's choice (log entry 7); that the firing supervision and its requests come before the publications, the
slots publish in the order of their numbers, and a DI slot that leaves OFF offers the one notice of that passage after its
verdict, is the model's inference (log entries 13 and 21). -/
def Obligations.ControlUpdatesMoveTargetAndEstimate : Prop :=
  (∀ (s : State) (due : Nat) (g : Cfg), s.calm → s.cfg = some g → s.heat.updateDue = some due →
    ∃ t, exec .controlUpdate s = .next t ∧ t.now = max s.now due ∧ t.heat.updateDue = some (due + g.period) ∧
      t.picture = { s.picture with target := match s.picture.order with
        | none => s.picture.target
        | some a => slewTarget s.picture.target a.target (g.targetSlew * g.period / 1000) } ∧
      t.channels.estimate = (if s.hasCooler then
          moveEstimate s.channels.estimate ((s.begun.reach due).totalHeat * 100 / g.shc)
            (s.channels.estimate * g.decayPm * g.period / 60000000)
        else s.channels.estimate) ∧
      t.channels.updating = false ∧ t.fields = s.fields ∧ t.nv = s.nv ∧ t.station = s.station ∧
      ∀ w : State, w = State.settle (State.fireSupervision (State.controlSlots
          { s.begun.reach due with heat := { s.heat with updateDue := some (due + g.period) } })) →
        t.link = if s.station = .run then w.publishAll.link else w.link) ∧
  (∀ (s : State) (g : Cfg), s.cfg = some g → s.offers →
    (∀ i, s.publishAll.slot i = (s.slot i).withPublish (s.publishAll.slot i).publishCount ∧
      (s.slot i ≠ .unused → (s.publishAll.slot i).publishCount =
        if s.channels.leftOff[i] = true ∨ g.divisor ≤ (s.slot i).publishCount + 1 then 0
        else (s.slot i).publishCount + 1)) ∧
    ∃ l : Fin 5 → Link, l 0 = s.link ∧ l 4 = s.publishAll.link ∧ ∀ i : Fin 4,
      if s.channels.leftOff[i] = false ∧ g.divisor ≤ (s.slot i).publishCount + 1 ∧ s.channels.noticed[i] = false
      then ∀ n, s.slotNotice i = some n → (l i.castSucc).tookOffer (l i.succ) n
      else l i.succ = l i.castSucc) ∧
  (∀ (s : State) (i : Fin 4), s.offers →
    (s.slot i ≠ .unused → s.announces (s.publish i) i ∧ s.announces (s.noteChange i) i ∧
      (s.noteChange i).channels.noticed =
        (if s.channels.updating = true then s.channels.noticed.set i true else s.channels.noticed) ∧
      (s.channels.updating = true → s.channels.noticed[i] = false →
        s.announces (s.slotToRun i) i ∧ ((s.slotToRun i).slot i).publishCount = 0)) ∧
    (∀ c, s.slot i = .cf c →
      (∀ st, s.announces (s.cfStop i c st) i) ∧
      (c.state = .off → s.cfMayStart i c = true →
        s.announces (s.cfPassage i c) i ∧ (s.cfPassage i c).channels.leftOff[i] = true) ∧
      (0 < c.alloc.mass → c.alloc.mass ≤ 2 * s.cfMeasured c → s.announces (s.cfStartTest i c) i) ∧
      ((c.state = .dosing ∧ c.alloc.held = true) ∨ (c.state = .hold ∧ c.alloc.held = false) →
        s.announces (s.cfVerdict i c) i)) ∧
    (∀ d, s.slot i = .di d →
      (∀ st, s.announces (s.diStop i d st) i) ∧
      (d.state = .off → s.diMayStart i d = true →
        (s.diPassage i d).link = s.link ∧ (s.diPassage i d).channels.leftOff[i] = true) ∧
      ((d.state = .dosing ∧ d.alloc.held = true) ∨ (d.state = .hold ∧ d.alloc.held = false) ∨
          ((d.state = .dosing ∨ d.state = .hold) ∧ s.channels.leftOff[i] = true) →
        s.announces (s.diVerdict i d) i)) ∧
    (∀ a, s.slot i = .ca a →
      (∀ st, s.announces (s.caEnter i a st) i) ∧
      (a.state = .off → s.station = .run → s.permit i = true →
        s.announces (s.caPassage i) i ∧ (s.caPassage i).channels.leftOff[i] = true) ∧
      (a.state = .running → s.announces (s.caForce i) i) ∧
      (a.state = .forced → s.caForced a = false → s.announces (s.caRelease i) i)) ∧
    (∀ g, s.slot i = .cg g →
      (∀ st, (g.state = .flush → ∀ j a, s.slot j = .ca a → a.state ≠ .forced) → s.announces (s.cgEnter i g st) i) ∧
      (g.state = .stopped → s.station = .run → s.permit i = true →
        s.announces (s.cgPassage i) i ∧ (s.cgPassage i).channels.leftOff[i] = true) ∧
      ((∀ j a, s.slot j = .ca a → a.state ≠ .running) → s.announces (s.cgFlush i g) i))) ∧
  ([CfState.off, .starting, .dosing, .hold, .tripped, .fault].map CfState.code = [0, 1, 2, 3, 4, 5] ∧
    [DiState.off, .dosing, .hold, .tripped, .fault].map DiState.code = [0, 2, 3, 4, 5] ∧
    [CaState.off, .running, .forced, .fault].map CaState.code = [0, 6, 7, 5] ∧
    [CgState.stopped, .running, .flush, .fault].map CgState.code = [8, 6, 9, 5])

/-- R36, R112: a step moves the effective target toward the adopted one by at most the step, and onto it where it lies within
one step; the estimate takes a raw rate not below it, and otherwise falls by at most the decay step, never below the raw
rate. R114: the target air lies between its limits, and between them it is the nearest whole number; the boost grows by a
step for each full 10 degrees above the limit, up to its most. R115: the recovered heat of a fan is the product of its air
flow, 130 and the air's temperature above the ambient one, over 10,000, rounded down and at most 400,000 kW, and 0 without an
air temperature or where one of the two inputs stands FAILED; the ambient temperature is 20 degrees without an ambient input
that serves. R121: the stroke rate rises or falls by one step outside the band, and keeps its limits. R114 to R117: at an
update a fan forms its target air, leaves OFF where its permit is asserted, and enters FAULT as its response run comes to its
end. R120 to R124: a running grate begins a flush where the pressure has risen by the flush rise within the window, which
forces every running fan, and moves its rate otherwise; a flush holds the greatest rate and ends as its calm run does, which
releases the fans that nothing else forces. -/
def Obligations.TargetAndEstimateMoveByTheirSteps : Prop :=
  (∀ t adopted step : Nat,
    (adopted ≤ t + step → t ≤ adopted + step → slewTarget t adopted step = adopted) ∧
    (t + step < adopted → slewTarget t adopted step = t + step) ∧
    (adopted + step < t → slewTarget t adopted step = t - step)) ∧
  (∀ cr raw step : Nat,
    (cr ≤ raw → moveEstimate cr raw step = raw) ∧
    (raw < cr → moveEstimate cr raw step = max raw (cr - step)) ∧
    cr ≤ moveEstimate cr raw step + step) ∧
  (∀ cr spec pct least most : Nat, least ≤ most →
    least ≤ targetAir cr spec pct least most ∧ targetAir cr spec pct least most ≤ most ∧
    ∀ v, least < v → v < most → (targetAir cr spec pct least most = v ↔
      100000 * (2 * (v : Int) - 1) ≤ 2 * (cr * spec * (100 + pct)) ∧ 2 * (cr * spec * (100 + pct)) < 100000 * (2 * v + 1))) ∧
  (∀ (t : Int) (limit step most : Nat),
    (t < limit + 10 → boostFor t limit step most = 0) ∧
    (∀ k : Nat, limit + 10 * k ≤ t → t < limit + 10 * (k + 1) → boostFor t limit step most = min most (step * k))) ∧
  (∀ (r : Nat) (p : Int) (sp band step least most : Nat), least ≤ r → r ≤ most →
    ((sp : Int) + band < p → strokeAfter r p sp band step least most = min most (r + step)) ∧
    (p < (sp : Int) - band → strokeAfter r p sp band step least most = max least (r - step)) ∧
    ((sp : Int) - band ≤ p → p ≤ (sp : Int) + band → strokeAfter r p sp band step least most = r)) ∧
  (∀ (s : State) (i : Fin 4) (a : CaSlot), s.slot i = .ca a →
    s.caForm i = s.setSlot i (.ca { a with
      boost := s.caBoost a
      target := targetAir s.channels.estimate a.par.specAir (s.caBoost a) a.par.minAir a.par.maxAir }) ∧
    (a.state = .off → s.station = .run → s.permit i = true → ∃ a', (s.caPassage i).slot i = .ca a' ∧ a'.par = a.par ∧
      a'.state = if s.localFlush = true ∨ s.inputFailed a.par.flowInput = true then .forced else .running) ∧
    (a.state ≠ .off ∨ s.station ≠ .run ∨ s.permit i = false → s.caPassage i = s) ∧
    (∀ x, (a.state = .running ∧ x = a.target) ∨ (a.state = .forced ∧ x = a.par.maxAir) →
      (s.inputFresh a.par.flowInput = false ∨ 20 * x ≤ s.caFlow a * 100 → 0 < a.par.devTime →
        s.caRespond i = s.setSlot i (.ca { a with responseRun := none })) ∧
      (∀ since, s.inputFresh a.par.flowInput = true → s.caFlow a * 100 < 20 * x → a.responseRun = some since →
        (s.now < since + a.par.devTime * 1000 → s.caRespond i = s) ∧
        (since + a.par.devTime * 1000 ≤ s.now → ∃ a', (s.caRespond i).slot i = .ca a' ∧ a'.par = a.par ∧ a'.state = .fault)))) ∧
  (∀ (s : State) (i : Fin 4) (g : CgSlot) (p : Int), s.slot i = .cg g → p = (s.input g.par.input).value →
    (g.state = .running → s.inputFailed g.par.input = false → ∀ kept, kept = risingWithin s.now g.par.flushWindow g.rising →
      ((∀ x ∈ kept.head?, p - x.2 < g.par.flushRise) → s.cgAct i = s.setSlot i (.cg { g with
        rising := risingAppend s.now p kept
        rate := strokeAfter g.rate p g.par.setpoint g.par.band g.par.step g.par.minSpeed g.par.maxSpeed })) ∧
      (∀ x ∈ kept.head?, g.par.flushRise ≤ p - x.2 →
        (∃ g', (s.cgAct i).slot i = .cg g' ∧ g'.par = g.par ∧ g'.state = .flush ∧ g'.rate = g.par.maxSpeed ∧ g'.rising = []) ∧
        ∀ j a, s.slot j = .ca a → a.state = .running → ∃ a', (s.cgAct i).slot j = .ca a' ∧ a'.par = a.par ∧ a'.state = .forced)) ∧
    (g.state = .flush →
      (s.inputFailed g.par.input = true ∨ (g.par.setpoint : Int) + g.par.band ≤ p →
        s.cgAct i = s.setSlot i (.cg { g with rate := g.par.maxSpeed, calmRun := none })) ∧
      (∀ since, s.inputFailed g.par.input = false → p < (g.par.setpoint : Int) + g.par.band → g.calmRun = some since →
        (s.now < since + g.par.flushEnd * 1000 → s.cgAct i = s.setSlot i (.cg { g with rate := g.par.maxSpeed })) ∧
        (since + g.par.flushEnd * 1000 ≤ s.now →
          (∃ g', (s.cgAct i).slot i = .cg g' ∧ g'.par = g.par ∧ g'.state = .running ∧ g'.rate = g.par.maxSpeed) ∧
          ∀ j a, s.slot j = .ca a → a.state = .forced → s.inputFailed a.par.flowInput = false →
            (∀ k, k ≠ i → (s.slot k).inFlush = false) →
            ∃ a', (s.cgAct i).slot j = .ca a' ∧ a'.par = a.par ∧ a'.state = .running)))) ∧
  (∀ (s : State) (a : CaSlot),
    ((a.par.tempInput = none ∨ (s.input a.par.flowInput).freshness = .failed ∨
        ∃ k, a.par.tempInput = some k ∧ (s.input k).freshness = .failed) → s.recoveredHeat a = 0) ∧
    (∀ (k : Fin 16) (ambient : Int), a.par.tempInput = some k → (s.input a.par.flowInput).freshness ≠ .failed →
      (s.input k).freshness ≠ .failed →
      ambient = (match s.stationInput .ambient with
        | none => 20
        | some m => if (s.input m).freshness = .failed then 20 else (s.input m).value) →
      s.recoveredHeat a =
        min 400000 ((s.input a.par.flowInput).value.toNat * 130 * ((s.input k).value - ambient).toNat / 10000)))

/-- R43: the effective credit is the lesser of the credit and cap_pct per cent of the target, rounded down, so the required
fuel heat lies between 0 and the target; with cap_pct at 0, and with a target of 0, no credit is earned. A configured cap_pct
above 60 is taken as 60 and counted among the clamped fields. What the credit is a sum of stands in RemainderIsSigned. -/
def Obligations.CreditIsCapped : Prop :=
  (∀ img : List Byte, (takeCfg img).capPct = min 60 (at1 img 20) ∧ (60 < at1 img 20 → 0 < clampedCount img)) ∧
  ∀ s : State,
    effectiveCredit s.credit s.picture.target s.capPct = min s.credit (s.picture.target * s.capPct / 100) ∧
    s.required = s.picture.target - effectiveCredit s.credit s.picture.target s.capPct ∧
    s.required ≤ s.picture.target ∧
    (s.capPct = 0 → s.required = s.picture.target) ∧
    (s.picture.target = 0 → s.required = 0 ∧ effectiveCredit s.credit s.picture.target s.capPct = 0) ∧
    (s.capPct ≤ 60 → s.picture.target * 40 ≤ s.required * 100)

/-- R45: the remainder that an update forms for a feed slot is the required fuel heat less the merit fill of its key, a
signed quantity: positive where the channels ahead leave some of it uncovered, zero or negative where they cover it. R44: the
merit fill of a key is the sum of the actual heats of the feed entries and of the station's own feed slots whose keys are
smaller, by rank, then station, then channel, and at most 1,048,575 kW. R42: the credit is the sum of the recovered heats of
the fan entries whose recuperation flag is set and of the station's own recuperating fan slots, and at most 1,048,575 kW.
R55, R57: the actual heat of a CF slot is that of its measured mass, 0 while its input stands FAILED, and that of a DI slot
is the energy of the items dropped in its window over the window; each is rounded down and at most 400,000 kW. That the
record is formed outside RUN too is the model's choice (log entry 34). R47: the slot is held where the picture hold, an entry
of class 2 in NEW or STANDING, a local flush or, for a CF slot, its own deviation stands. R51: the mass target is the
commanded heat over the heating value, to the nearest whole g/s, halfway upward, and at most the full scale. R58: a station
in RUN with an order supervises where no feed channel has a greater key than some slot of its own. R59, R60: while its test,
on the heat of all feed entries and own feed slots, holds, a supervising station keeps the run of OVERFIRE, and of UNDERFIRE,
from its first update, and asks for the raise or the clear as the run reaches fire_dev_time. R61: a station that ceases to
supervise drops its runs and clears both; that the clear of OVERFIRE is sent before that of UNDERFIRE is the model's choice
(log entry 55). That supervision reads a latched entry as standing is the model's choice (log entry 37). -/
def Obligations.RemainderIsSigned : Prop :=
  ∀ (s : State) (i : Fin 4),
    (∀ c, s.slot i = .cf c → ∃ r : AllocRec, s.allocate.slot i = .cf { c with alloc := r } ∧
      r.fill = s.meritFill { rank := c.par.rank, station := s.ownNumber, channel := i.val } ∧
      r.remainder = (s.required : Int) - r.fill ∧ (0 < r.remainder ↔ r.fill < s.required) ∧
      (r.remainder ≤ 0 ↔ s.required ≤ r.fill) ∧
      (r.held = true ↔ (∃ e ∈ s.picture.entries, e.age = .stale) ∨ s.picture.lossHoldDue.isSome = true ∨
        (∃ e ∈ s.alarms.all, e.cls = 2 ∧ e.state ≠ .returned) ∨ (∃ j g, s.slot j = .cg g ∧ g.state = .flush) ∨
        c.deviated = true) ∧
      r.mass ≤ c.par.massScale ∧ (r.heat = 0 → r.mass = 0) ∧
      (∀ v : Nat, 0 < s.ncv c.par.fuel → v < c.par.massScale → (r.mass = v ↔
        (2 * (v : Int) - 1) * s.ncv c.par.fuel ≤ 2 * (r.heat * 1000) ∧
          2 * ((r.heat : Int) * 1000) < (2 * v + 1) * s.ncv c.par.fuel))) ∧
    (∀ d, s.slot i = .di d → ∃ r : AllocRec, s.allocate.slot i = .di { d with alloc := r } ∧
      r.fill = s.meritFill { rank := d.par.rank, station := s.ownNumber, channel := i.val } ∧
      r.remainder = (s.required : Int) - r.fill ∧ (0 < r.remainder ↔ r.fill < s.required) ∧
      (r.remainder ≤ 0 ↔ s.required ≤ r.fill) ∧
      (r.held = true ↔ (∃ e ∈ s.picture.entries, e.age = .stale) ∨ s.picture.lossHoldDue.isSome = true ∨
        (∃ e ∈ s.alarms.all, e.cls = 2 ∧ e.state ≠ .returned) ∨ ∃ j g, s.slot j = .cg g ∧ g.state = .flush)) ∧
    (s.supervises = true ↔ s.station = .run ∧ s.picture.order.isSome = true ∧ ∃ j k, s.slotKey j = some k ∧
      (∀ e ∈ s.picture.entries, ∀ m, e.meritKey = some m → k.lt m = false) ∧ ∀ l m, s.slotKey l = some m → k.lt m = false) ∧
    (∀ (g : Cfg) (t : State), s.cfg = some g → t = s.fireSupervision →
      (s.supervises = true → t.heat.supervising = true ∧
        ∀ (code : AlarmCode) (stands test : Bool) (run run' : Option Nat), stands = s.stands code 255 →
          ((code = .overfire ∧ run = s.heat.overRun ∧ run' = t.heat.overRun ∧
              (test = true ↔ (stands = false ↔ s.required * (100 + g.fireTol) < s.totalHeat * 100))) ∨
            (code = .underfire ∧ run = s.heat.underRun ∧ run' = t.heat.underRun ∧
              (test = true ↔ (stands = false ↔ s.totalHeat * 100 < s.required * (100 - g.fireTol)) ∧
                (stands = true ∨ s.alarms.observed = false)))) →
          (test = false → run' = none) ∧
          (test = true → s.now < run.getD s.now + g.fireDevTime * 1000 → run' = some (run.getD s.now)) ∧
          (test = true → run.getD s.now + g.fireDevTime * 1000 ≤ s.now → run' = none ∧
            (if stands then .clear code 255 else .raise code 255) ∈ t.agenda) ∧
          (∀ q, (q = .raise code 255 ∨ q = .clear code 255) → q ∈ t.agenda → q ∈ s.agenda ∨
            (test = true ∧ run.getD s.now + g.fireDevTime * 1000 ≤ s.now))) ∧
      (s.supervises = false → s.heat.supervising = true →
        t.heat = { s.heat with supervising := false, overRun := none, underRun := none } ∧
        t.agenda = s.agenda ++ (if s.stands .overfire 255 = true then [.clear .overfire 255] else []) ++
          (if s.stands .underfire 255 = true then [.clear .underfire 255] else [])) ∧
      (s.supervises = false → s.heat.supervising = false → t = s)) ∧
    (∀ a b : MeritKey, a.lt b = true ↔
      a.rank < b.rank ∨ (a.rank = b.rank ∧ (a.station < b.station ∨ (a.station = b.station ∧ a.channel < b.channel)))) ∧
    (∀ e : PeerEntry, e.meritKey = match e.body with
      | .feed _ _ _ rank _ _ => some { rank := rank, station := e.station, channel := e.channel }
      | .air .. => none) ∧
    (s.slotKey i = match s.slot i with
      | .cf c => some { rank := c.par.rank, station := s.ownNumber, channel := i.val }
      | .di d => some { rank := d.par.rank, station := s.ownNumber, channel := i.val }
      | _ => none) ∧
    (∀ k : MeritKey, s.meritFill k = min 1048575
      ((s.picture.entries.map fun e => match e.body with
          | .feed actual _ _ rank _ _ =>
            if ({ rank := rank, station := e.station, channel := e.channel } : MeritKey).lt k = true then actual else 0
          | .air .. => 0).sum +
        (([0, 1, 2, 3] : List (Fin 4)).map fun j => match s.slot j with
          | .cf c =>
            if ({ rank := c.par.rank, station := s.ownNumber, channel := j.val } : MeritKey).lt k = true
            then s.cfActual c else 0
          | .di d =>
            if ({ rank := d.par.rank, station := s.ownNumber, channel := j.val } : MeritKey).lt k = true
            then s.diActual d else 0
          | _ => 0).sum)) ∧
    s.totalHeat = min 1048575
      ((s.picture.entries.map fun e => match e.body with
          | .feed actual _ _ _ _ _ => actual
          | .air .. => 0).sum +
        (([0, 1, 2, 3] : List (Fin 4)).map fun j => match s.slot j with
          | .cf c => s.cfActual c
          | .di d => s.diActual d
          | _ => 0).sum) ∧
    s.credit = min 1048575
      ((s.picture.entries.map fun e => match e.body with
          | .air role recuperating recovered _ _ _ => if role = 0 ∧ recuperating = true then recovered else 0
          | .feed .. => 0).sum +
        (([0, 1, 2, 3] : List (Fin 4)).map fun j => match s.slot j with
          | .ca a => if a.par.recuperating = true then s.recoveredHeat a else 0
          | _ => 0).sum) ∧
    (∀ c : CfSlot, s.cfActual c = if (s.input c.par.input).freshness = .failed then 0
      else min 400000 ((s.input c.par.input).value.toNat * s.ncv c.par.fuel / 1000)) ∧
    (∀ d : DiSlot, s.diActual d = min 400000
      (((d.history.filter fun x => decide (s.now - x.1 < d.par.windowS * 1000)).map Prod.snd).sum / d.par.windowS))

/-- R46, R48: a running slot's share is 0 where nothing remains, its minimum where less than that remains, and otherwise the
lesser of the remainder and its maximum; the commanded heat moves toward the share by at most its step, a hold bars every
rise and no fall, and a heat and a share within the slot's maximum keep it there. R77, R78: a CF slot leaves OFF for STARTING
where its start condition holds. R79: the start test ends where the measured mass has come to half its target, and the start
timer runs anew while that target is 0. R81: the hold verdict moves a slot between DOSING and HOLD. R85: the mass is out of band
where it is off by more than either allowance; a slot is DEVIATED, or no longer, as the run of its test comes to its end. -/
def Obligations.SharesAndRampsAreBounded : Prop :=
  (∀ (a : Int) (least most : Nat), least ≤ most →
    (a ≤ 0 → shareOf a least most = 0) ∧
    (0 < a → a < least → shareOf a least most = least) ∧
    (0 < a → (least : Int) ≤ a → (shareOf a least most : Int) = min a most) ∧
    shareOf a least most ≤ most) ∧
  (∀ (h share up down most : Nat) (held : Bool),
    (share = h → rampHeat h share up down held = h) ∧
    (h < share → held = false → share - h ≤ up → rampHeat h share up down held = share) ∧
    (h < share → held = false → up < share - h → rampHeat h share up down held = h + up) ∧
    (h < share → held = true → rampHeat h share up down held = h) ∧
    (share < h → h - share ≤ down → rampHeat h share up down held = share) ∧
    (share < h → down < h - share → rampHeat h share up down held = h - down) ∧
    (held = true → rampHeat h share up down held ≤ h) ∧
    (h ≤ most → share ≤ most → rampHeat h share up down held ≤ most)) ∧
  (∀ (s : State) (i : Fin 4) (c : CfSlot),
    (s.cfMayStart i c = true ↔ s.station = .run ∧ s.permit i = true ∧ s.picture.order.isSome = true ∧
      s.alarms.observed = false ∧ s.classTrip i = false ∧ s.inputFailed c.par.input = false) ∧
    (c.state = .off → s.cfMayStart i c = true → (s.cfPassage i c).slot i = .cf { c with
      state := .starting, startDue := some (s.now + c.par.startTime * 1000), publish := 0 }) ∧
    (c.state ≠ .off ∨ s.cfMayStart i c = false → s.cfPassage i c = s) ∧
    (c.alloc.mass = 0 → s.cfStartTest i c = s.setSlot i (.cf { c with startDue := some (s.now + c.par.startTime * 1000) })) ∧
    (0 < c.alloc.mass → c.alloc.mass ≤ 2 * s.cfMeasured c → (s.cfStartTest i c).slot i = .cf { c with
      state := if c.alloc.held then .hold else .dosing, startDue := none, deviated := false, raiseRun := none
      clearRun := none }) ∧
    (2 * s.cfMeasured c < c.alloc.mass → s.cfStartTest i c = s) ∧
    (c.state = .dosing → c.alloc.held = true → (s.cfVerdict i c).slot i = .cf { c with state := .hold }) ∧
    (c.state = .hold → c.alloc.held = false → (s.cfVerdict i c).slot i = .cf { c with state := .dosing }) ∧
    (c.state = .dosing → c.alloc.held = false → s.cfVerdict i c = s) ∧
    (c.state = .hold → c.alloc.held = true → s.cfVerdict i c = s)) ∧
  (∀ measured m devPct devAbs : Nat, massOutOfBand measured m devPct devAbs = true ↔
    (devPct * m < (measured - m) * 100 ∨ devPct * m < (m - measured) * 100) ∧ (devAbs < measured - m ∨ devAbs < m - measured)) ∧
  (∀ (s : State) (i : Fin 4) (c : CfSlot) (out : Bool),
    out = massOutOfBand (s.cfMeasured c) c.alloc.mass c.par.devPct c.par.devAbs →
    (c.deviated = false → out = false → s.cfSupervise i c = s.setSlot i (.cf { c with raiseRun := none })) ∧
    (c.deviated = true → out = true → s.cfSupervise i c = s.setSlot i (.cf { c with clearRun := none })) ∧
    (c.deviated = false → out = true → 0 < c.par.devTime → c.raiseRun = none →
      s.cfSupervise i c = s.setSlot i (.cf { c with raiseRun := some s.now })) ∧
    (∀ since, c.deviated = false → out = true → c.raiseRun = some since → since + c.par.devTime * 1000 ≤ s.now →
      (s.cfSupervise i c).slot i = .cf { c with deviated := true, raiseRun := none, clearRun := none } ∧
      (s.cfSupervise i c).agenda = s.agenda ++ [.raise .feedDeviation i.val] ∧
      ((s.cfSupervise i c).acc i).deviations = min 4294967295 ((s.acc i).deviations + 1)) ∧
    (∀ since, c.deviated = true → out = false → c.clearRun = some since → since + c.par.devTime * 1000 ≤ s.now →
      (s.cfSupervise i c).slot i = .cf { c with deviated := false, raiseRun := none, clearRun := none } ∧
      (s.cfSupervise i c).agenda = s.agenda ++ [.clear .feedDeviation i.val]))

/-- R52, R53: a target of 0 gives a count of 0 whatever the calibration, a target at or above full scale without
correction gives 65,535, and no target gives more. Between these the count is the exact value (ideal count, gain and half-counts of
offset) rounded once to the nearest whole count, halfway to the greater, and then clamped to 0 to 65,535. R70, R71, R74: a latch takes its slot's count, or 0 while it is held at 0,
and no other latch changes its count; a carried latch takes none outside RUN, and its first in RUN ends the mark. R73, R74: as
the calibration blocks are read a latch with the feed mark holds 0, another its fallback count at a power-on start and its old
count, carried, at a line restart; at the acceptance of the image every latch that is not COOLER is written 0 and is not carried. -/
def Obligations.DriveCountsStayInRange : Prop :=
  (∀ (x f : Nat) (gain offset : Int),
    driveCount 0 f gain offset = 0 ∧ driveCount x f gain offset ≤ 65535 ∧
    (0 < f → f ≤ x → driveCount x f 0 0 = 65535) ∧
    (f ≤ x → driveCount x f gain offset = driveCount f f gain offset)) ∧
  (∀ (x f : Nat) (gain offset exact unit : Int), 0 < x → x ≤ f → unit = f * 131072 →
    exact = 2 * x * 65535 * (131072 + gain) + offset * unit →
    (driveCount x f gain offset = 0 ↔ exact < unit) ∧
    (driveCount x f gain offset = 65535 ↔ (2 * 65535 - 1) * unit ≤ exact) ∧
    ∀ v : Nat, 0 < v → v < 65535 →
      (driveCount x f gain offset = v ↔ (2 * (v : Int) - 1) * unit ≤ exact ∧ exact < (2 * v + 1) * unit)) ∧
  (∀ (s : State) (o : Fin 8) (count : Nat),
    ((s.latch o).carried = true → s.station ≠ .run → s.takeCount o count = s) ∧
    ((s.latch o).carried = false ∨ s.station = .run →
      ((s.takeCount o count).latch o).count = (if s.latchHeldAtZero o then 0 else count) ∧
      ((s.takeCount o count).latch o).carried = false ∧
      (((s.takeCount o count).latch o).count ≠ (s.latch o).count → ((s.takeCount o count).latch o).pending = true ∨
        (s.takeCount o count).output.word = some (o, ((s.takeCount o count).latch o).count)) ∧
      ∀ p, p ≠ o → ((s.takeCount o count).latch p).count = (s.latch p).count)) ∧
  (∀ (s : State) (line : Bool) (o : Fin 8) (l : Latch), l = (s.readOtp line).latch o →
    l.count = (if l.feedMark then 0 else if line then (s.latch o).count else l.fallback) ∧
    l.carried = (line && !l.feedMark) ∧ l.owner = none ∧
    l.feedMark = (s.nv.usable (calBlock o) && at1 (s.nv.block (calBlock o)) 6 % 2 == 1) ∧
    (s.nv.usable (calBlock o) = false → l.gain = 0 ∧ l.offset = 0 ∧ l.fallback = 0)) ∧
  (∀ (s : State) (o : Fin 8),
    ((s.mapOutput o).latch o).kind = s.outputKind o ∧ ((s.mapOutput o).latch o).owner = s.outputOwner o ∧
    ((s.mapOutput o).latch o).count = (if s.outputKind o = .cooler then (s.latch o).count else 0) ∧
    ((s.mapOutput o).latch o).carried = ((s.latch o).carried && s.outputKind o == .cooler) ∧
    (s.mapOutput o).output.feedMarkMismatches = if (s.outputKind o = .feed ↔ (s.latch o).feedMark = true)
      then s.output.feedMarkMismatches else up16 s.output.feedMarkMismatches)

/-- R80, R49: a CF slot whose start timer expires in STARTING enters FAULT with share, commanded heat and mass target 0, and
its latch holds 0 (R71), unless it is carried outside RUN; a slot that neither runs nor stands TRIPPED is left as it is. That
the clock stands at the expiry, or where it stood if that is later, is the model's choice (log entry 7). -/
def Obligations.FailedStartsFault : Prop :=
  ∀ (s : State) (i : Fin 4) (c : CfSlot) (due : Nat), s.calm → s.slot i = .cf c → c.startDue = some due →
    c.state = .starting →
    ∃ t c', exec (.startTimerExpiry i) s = .next t ∧ t.slot i = .cf c' ∧ c'.state = .fault ∧ c'.par = c.par ∧
      c'.alloc.share = 0 ∧ c'.alloc.heat = 0 ∧ c'.alloc.mass = 0 ∧ c'.startDue = none ∧ t.now = max s.now due ∧
      ((s.latch c.par.output).carried = false ∨ s.station = .run → (t.latch c.par.output).count = 0) ∧
      (∀ j, j ≠ i → (s.slot j).feedRuns = false → (∀ d, s.slot j = .cf d → d.state ≠ .tripped) →
        (∀ d, s.slot j = .di d → d.state ≠ .tripped) → t.slot j = s.slot j) ∧
      t.picture = s.picture ∧ t.fields = s.fields ∧ t.nv = s.nv

/-! ## Field inputs and drive outputs (R63 to R74) -/

/-- R64: the scaled value is lo + raw × (hi − lo) / 65,535 rounded to the nearest whole unit, halfway to the greater: it is
the one integer v for which that exact value lies in [v − 1/2, v + 1/2). A sample of an input with a freshness state leaves
that value in it, and lo and hi as taken from an image lie from −1,000,000 to +1,000,000. -/
def Obligations.ScalingIsExact : Prop :=
  (∀ (lo hi : Int) (raw : Nat) (v : Int),
    scaled lo hi raw = v ↔
      65535 * (2 * v - 1) ≤ 2 * (lo * 65535 + raw * (hi - lo)) ∧ 2 * (lo * 65535 + raw * (hi - lo)) < 65535 * (2 * v + 1)) ∧
  (∀ (s : State) (k : Fin 16) (raw : BitVec 16), s.calm → (s.inputCfg k).role.timed = true →
    ∃ t, exec (.sampleWord k raw true) s = .next t ∧
      (t.input k).value = scaled (s.inputCfg k).lo (s.inputCfg k).hi raw.toNat) ∧
  (∀ (img : List Byte) (k : Fin 16),
    -1000000 ≤ (takeCfg img).inputs[k].lo ∧ (takeCfg img).inputs[k].lo ≤ 1000000 ∧
    -1000000 ≤ (takeCfg img).inputs[k].hi ∧ (takeCfg img).inputs[k].hi ≤ 1000000)

/-- R63, R65: a word with bad parity or for an unmapped input changes its counter and nothing else (that a word with both
faults counts as a sample error alone is the model's choice, log entry 64); a sample of an input that carries a freshness
state is scaled and makes the input FRESH, its fresh timer running from the sample, and touches no other input. -/
def Obligations.SamplesAreTaken : Prop :=
  (∀ (s : State) (k : Fin 16) (raw : BitVec 16), s.calm →
    exec (.sampleWord k raw false) s =
      .next { s.begun with fields := { s.fields with sampleErrors := up16 s.fields.sampleErrors } } ∧
    ((s.inputCfg k).role = .unmapped → exec (.sampleWord k raw true) s =
      .next { s.begun with fields := { s.fields with unmappedSamples := up16 s.fields.unmappedSamples } })) ∧
  (∀ (s : State) (k : Fin 16) (raw : BitVec 16), s.calm → (s.inputCfg k).role.timed = true →
    ∃ t, exec (.sampleWord k raw true) s = .next t ∧
      t.input k = { s.input k with
        value := scaled (s.inputCfg k).lo (s.inputCfg k).hi raw.toNat, freshness := .fresh
        freshDue := some (s.now + (s.inputCfg k).freshTime), holdDue := none, neverSampled := false
        samples := up16 (s.input k).samples } ∧
      (∀ j, j ≠ k → t.input j = s.input j) ∧ t.fields.permits = s.fields.permits ∧
      t.fields.sampleErrors = s.fields.sampleErrors ∧ t.picture = s.picture ∧ t.nv = s.nv)

/-- R65: an input that is not sampled in fresh_time is HELD at its value for hold_time, and then FAILED. R66: where it is its
consumer's first FAILED input the raise of INPUT STALE is asked for, with the consumer's slot number or 255, and where
another stands FAILED none is; the sample that takes the consumer's last FAILED input back asks for the clear. R84, R116,
R120: the consumer reacts at the same event: a CF slot in RUN enters FAULT from any other state, with its latch at 0, a
running fan whose air flow failed is FORCED, a running grate enters FAULT, and no other slot changes; at the input's return a
CF slot in FAULT whose permit is not asserted enters OFF, a fan in FORCED with no flush enters RUNNING and a grate in FAULT
enters RUNNING. Each of these changes offers the slot's notice. That the clock stands at the expiry, or where it stood if
that is later, and the hold timer runs from there, is the model's choice (log entry 7), and so are that the requests are
taken after the event's own effects (log entry 8) and that INPUT STALE's stands first among them (log entry 65). -/
def Obligations.SilentInputsAreHeldAndFail : Prop :=
  (∀ (s : State) (k : Fin 16) (due : Nat), s.calm →
    ((s.input k).freshDue = some due →
      exec (.freshTimeExpiry k) s = .next ((s.begun.reach due).setInput k { s.input k with
        freshness := .held, freshDue := none, holds := up16 (s.input k).holds
        holdDue := some (max s.now due + (s.inputCfg k).holdTime) })) ∧
    ((s.input k).holdDue = some due → ∃ t, exec (.holdTimeExpiry k) s = .next t ∧
      t.input k = { s.input k with freshness := .failed, holdDue := none } ∧ (∀ j, j ≠ k → t.input j = s.input j) ∧
      t.now = max s.now due ∧ t.picture = s.picture ∧ t.nv = s.nv)) ∧
  (∀ (s : State) (k : Fin 16) (due c : Nat), s.calm → (s.input k).holdDue = some due → c = (s.inputCfg k).consumer →
    ∃ t u, exec (.holdTimeExpiry k) s = .next t ∧ t = State.settle u ∧
      ((∀ j, (s.inputCfg j).role.timed = true → (s.inputCfg j).consumer = c → (s.input j).freshness ≠ .failed) →
        u.agenda.head? = some (.raise .inputStale c)) ∧
      ((∃ j, (s.inputCfg j).role.timed = true ∧ (s.inputCfg j).consumer = c ∧ (s.input j).freshness = .failed) →
        .raise .inputStale c ∉ u.agenda) ∧
      ((s.inputCfg k).slot = none → u.channels = s.channels ∧ u.link = s.link) ∧
      ∀ i, (s.inputCfg k).slot = some i →
        (∀ x, s.slot i = .cf x →
          (x.par.input = k → s.station = .run → x.state ≠ .fault →
            s.announces u i ∧ (t.latch x.par.output).count = 0 ∧
            ∃ x', t.slot i = .cf x' ∧ x'.par = x.par ∧ x'.state = .fault ∧ x'.alloc.share = 0 ∧ x'.alloc.heat = 0 ∧
              x'.alloc.mass = 0 ∧ x'.startDue = none ∧ x'.deviated = false) ∧
          (x.par.input ≠ k ∨ s.station ≠ .run ∨ x.state = .fault → u.channels = s.channels ∧ u.link = s.link)) ∧
        (∀ d, s.slot i = .di d → u.channels = s.channels ∧ u.link = s.link) ∧
        (∀ a, s.slot i = .ca a →
          (a.par.flowInput = k → a.state = .running → s.offers →
            s.announces u i ∧ ∃ a', t.slot i = .ca a' ∧ a'.par = a.par ∧ a'.state = .forced) ∧
          (a.par.flowInput ≠ k ∨ a.state ≠ .running → u.channels = s.channels ∧ u.link = s.link)) ∧
        (∀ g, s.slot i = .cg g →
          (g.par.input = k → g.state = .running → s.offers →
            s.announces u i ∧ ∃ g', t.slot i = .cg g' ∧ g'.par = g.par ∧ g'.state = .fault) ∧
          (g.par.input ≠ k ∨ g.state ≠ .running → u.channels = s.channels ∧ u.link = s.link))) ∧
  (∀ (s : State) (k : Fin 16) (raw : BitVec 16) (c : Nat), s.calm → (s.inputCfg k).role.timed = true →
    (s.input k).freshness = .failed → c = (s.inputCfg k).consumer →
    ∃ t u, exec (.sampleWord k raw true) s = .next t ∧ t = State.settle u ∧
      ((∀ j, j ≠ k → (s.inputCfg j).role.timed = true → (s.inputCfg j).consumer = c → (s.input j).freshness ≠ .failed) →
        u.agenda.head? = some (.clear .inputStale c)) ∧
      ((∃ j, j ≠ k ∧ (s.inputCfg j).role.timed = true ∧ (s.inputCfg j).consumer = c ∧ (s.input j).freshness = .failed) →
        .clear .inputStale c ∉ u.agenda) ∧
      ∀ i, (s.inputCfg k).slot = some i →
        (∀ x, s.slot i = .cf x → x.par.input = k → x.state = .fault →
          (s.permit i = false → s.offers → s.announces u i ∧ .clear .feedFailedToStart i.val ∈ u.agenda ∧
            ∃ x', t.slot i = .cf x' ∧ x'.par = x.par ∧ x'.state = .off) ∧
          (s.permit i = true → u.channels = s.channels ∧ u.link = s.link)) ∧
        (∀ a, s.slot i = .ca a → a.par.flowInput = k → a.state = .forced →
          ((∀ j g, s.slot j = .cg g → g.state ≠ .flush) → s.offers →
            s.announces u i ∧ ∃ a', t.slot i = .ca a' ∧ a'.par = a.par ∧ a'.state = .running) ∧
          ((∃ j g, s.slot j = .cg g ∧ g.state = .flush) → u.channels = s.channels ∧ u.link = s.link)) ∧
        (∀ g, s.slot i = .cg g → g.par.input = k → g.state = .fault → s.offers →
          s.announces u i ∧ ∃ g', t.slot i = .cg g' ∧ g'.par = g.par ∧ g'.state = .running))

/-- R67, R93, R94: an item whose weight is out of its limits, or that finds 16 items queued, is diverted with its counter,
its posting and the divert pulse; another joins the queue's tail with its energy in whole kJ, and clears
FEED STARVED where it stands (R104). An append to an empty queue starts a cycle, or drops a chamber item, where the conditions
below hold, and leaves the gate as it is otherwise. R96: the heat debt grows by the
heat of one period up to its ceiling, and is 0 where the commanded heat is. R97, R103: in DOSING or HOLD with the trip line
released and the gate READY, a chamber item is dropped as soon as any debt stands, and else the head item begins a cycle once
the debt is its energy; otherwise no cycle begins. R104: FEED STARVED is asked for where the debt stands at its ceiling and
the queue is empty. R105: a DI slot leaves OFF for DOSING where its start condition holds. -/
def Obligations.WeighedItemsAreQueuedOrDiverted : Prop :=
  (∀ (s : State) (k : Fin 16) (i : Fin 4) (raw : BitVec 16) (d : DiSlot) (w : Nat), s.calm →
     (s.inputCfg k).role = .itemWeight → (s.inputCfg k).slot = some i → s.slot i = .di d →
     w = min 65535 (scaled (s.inputCfg k).lo (s.inputCfg k).hi raw.toNat).toNat →
     ((w < d.par.minItem ∨ d.par.maxItem < w) → ∃ t, exec (.sampleWord k raw true) s = .next t ∧
       t.slot i = .di { d with divertDue := some (s.now + d.par.divertMs), counters := { d.counters with
         weighed := up32 d.counters.weighed, diverted := up32 d.counters.diverted
         divertedWeight := up32 d.counters.divertedWeight } } ∧
       (t.acc i).divertedWeight = min 4294967295 ((s.acc i).divertedWeight + 1)) ∧
     (d.par.minItem ≤ w → w ≤ d.par.maxItem → d.queue.length = 16 → ∃ t, exec (.sampleWord k raw true) s = .next t ∧
       t.slot i = .di { d with divertDue := some (s.now + d.par.divertMs), counters := { d.counters with
         weighed := up32 d.counters.weighed, diverted := up32 d.counters.diverted
         divertedFull := up32 d.counters.divertedFull } } ∧
       (t.acc i).divertedFull = min 4294967295 ((s.acc i).divertedFull + 1)) ∧
     (d.par.minItem ≤ w → w ≤ d.par.maxItem → d.queue.length ≠ 16 → d.queue ≠ [] → s.stands .feedStarved i.val = false →
       ∃ t d', exec (.sampleWord k raw true) s = .next t ∧ t.slot i = .di d' ∧
         d'.queue = d.queue ++
           [{ weight := w, fuel := d.par.fuel, energy := w * s.ncv d.par.fuel / 10, arrival := s.now }] ∧
         d'.counters = { d.counters with weighed := up32 d.counters.weighed } ∧ d'.state = d.state ∧ d'.gate = d.gate ∧
         d'.debt = d.debt) ∧
     (∀ it : Item, d.par.minItem ≤ w → w ≤ d.par.maxItem → d.queue.length ≠ 16 →
       it = { weight := w, fuel := d.par.fuel, energy := w * s.ncv d.par.fuel / 10, arrival := s.now } →
       (d.queue ≠ [] ∨ d.gate.rests) → ∃ u d', exec (.sampleWord k raw true) s = .next (State.settle u) ∧
         u.slot i = .di d' ∧ d'.counters.weighed = up32 d.counters.weighed ∧ d'.state = d.state ∧
         u.agenda = (if s.stands .feedStarved i.val = true then [.clear .feedStarved i.val] else []) ∧
         ((d.queue ≠ [] ∨ d.runs = false ∨ s.alarms.observed = true ∨ d.gate.state ≠ .ready ∨
             (d.gate.item = none ∧ d.debt < it.energy) ∨ (d.gate.item ≠ none ∧ d.debt = 0)) →
           d'.queue = d.queue ++ [it] ∧ d'.gate = d.gate ∧ d'.debt = d.debt ∧
             d'.counters = { d.counters with weighed := up32 d.counters.weighed }) ∧
         (d.queue = [] → d.runs = true → s.alarms.observed = false → d.gate.state = .ready →
           (d.gate.item = none → it.energy ≤ d.debt → d'.queue = [] ∧ d'.debt = d.debt - it.energy ∧
             d'.counters = { d.counters with weighed := up32 d.counters.weighed } ∧
             (d.gate.upperOpen = false → d'.gate = { d.gate with
               state := .upperOpening, upperOpenCmd := true, lowerOpenCmd := false, item := some it
               phaseDue := some (s.now + d.par.phaseTimeout * 1000) })) ∧
           (∀ held, d.gate.item = some held → 0 < d.debt → d'.queue = [it] ∧ d'.debt = d.debt - held.energy ∧
             (d.gate.lowerOpen = false → d'.counters = { d.counters with weighed := up32 d.counters.weighed } ∧
               d'.gate = { d.gate with
                 state := .lowerOpening, upperOpenCmd := false, lowerOpenCmd := true
                 phaseDue := some (s.now + d.par.phaseTimeout * 1000) }))))) ∧
  (∀ debt heat period ceiling : Nat,
    debtAfter debt 0 period ceiling = 0 ∧ debtAfter debt heat period ceiling ≤ ceiling ∧
    (0 < heat → debt + heat * period / 1000 ≤ ceiling → debtAfter debt heat period ceiling = debt + heat * period / 1000) ∧
    (0 < heat → ceiling ≤ debt + heat * period / 1000 → debtAfter debt heat period ceiling = ceiling)) ∧
  (∀ (s : State) (i : Fin 4) (d : DiSlot), s.slot i = .di d →
    (s.diDebt i d).slot i = .di { d with debt := debtAfter d.debt d.alloc.heat s.period (2 * d.par.maxItemEnergy) } ∧
    (0 < d.alloc.heat → 2 * d.par.maxItemEnergy ≤ d.debt + d.alloc.heat * s.period / 1000 → d.queue = [] →
      s.stands .feedStarved i.val = false → (s.diDebt i d).agenda = s.agenda ++ [.raise .feedStarved i.val]) ∧
    (d.alloc.heat = 0 → s.stands .feedStarved i.val = true →
      (s.diDebt i d).agenda = s.agenda ++ [.clear .feedStarved i.val]) ∧
    (s.diMayStart i d = true ↔ s.station = .run ∧ s.permit i = true ∧ s.picture.order.isSome = true ∧
      s.alarms.observed = false ∧ s.classTrip i = false ∧ d.gate.state ≠ .jammed) ∧
    (d.state = .off → s.diMayStart i d = true → (s.diPassage i d).slot i = .di { d with
      state := .dosing, publish := 0, call := decide (d.queue.length ≤ d.par.lowWater) }) ∧
    (d.state ≠ .off ∨ s.diMayStart i d = false → s.diPassage i d = s)) ∧
  (∀ (s : State) (i : Fin 4) (d : DiSlot), s.slot i = .di d →
    (d.runs = false ∨ s.alarms.observed = true ∨ d.gate.state ≠ .ready ∨ (d.gate.item ≠ none ∧ d.debt = 0) ∨
      (d.gate.item = none ∧ ∀ it ∈ d.queue.head?, d.debt < it.energy) → s.tryStart i = s) ∧
    (∀ it, d.runs = true → s.alarms.observed = false → d.gate.state = .ready → d.gate.item = some it → 0 < d.debt →
      s.tryStart i = s.setSlot i (.di { d with
        debt := d.debt - it.energy
        gate := { d.gate with state := .lowerOpening, upperOpenCmd := false, lowerOpenCmd := true
                              phaseDue := some (s.now + d.par.phaseTimeout * 1000) } })) ∧
    (∀ it rest, d.runs = true → s.alarms.observed = false → d.gate.state = .ready → d.gate.item = none →
      d.queue = it :: rest → it.energy ≤ d.debt →
      s.tryStart i = s.setSlot i (.di (DiSlot.callAfter { d with
        queue := rest
        debt := d.debt - it.energy
        gate := { d.gate with state := .upperOpening, upperOpenCmd := true, lowerOpenCmd := false, item := some it
                              phaseDue := some (s.now + d.par.phaseTimeout * 1000) } }))))

/-- R68, R83, R105, R116, R120: a rising edge of a permit is kept for the next control update; a falling edge stops the slot at
once and moves no other permit. An initial level of a permit is kept without an edge, a confirmation's goes to its gate as
a change of level, and the lines that act on edges alone do nothing at their initial level. -/
def Obligations.PermitsAndInitialLevelsAreTaken : Prop :=
  (∀ (s : State) (i : Fin 4), s.calm → s.cfg.isSome = true →
    exec (.runPermitEdge i true) s =
      .next { s.begun with fields := { s.fields with permits := s.fields.permits.set i true } } ∧
    (∃ t, exec (.runPermitEdge i false) s = .next t ∧ t.fields = { s.fields with permits := s.fields.permits.set i false } ∧
      t.picture = s.picture ∧ t.nv = s.nv ∧
      (∀ c, s.slot i = .cf c → (c.state.runs = true ∨ c.state = .tripped) →
        ∃ c', t.slot i = .cf c' ∧ c'.state = .off ∧ c'.par = c.par ∧ c'.alloc.heat = 0 ∧ c'.alloc.mass = 0) ∧
      (∀ d, s.slot i = .di d → d.gate.conflict = false → (d.runs = true ∨ d.state = .tripped) →
        ∃ d', t.slot i = .di d' ∧ d'.state = .off ∧ d'.par = d.par ∧ d'.debt = 0) ∧
      (∀ a, s.slot i = .ca a → ∃ a', t.slot i = .ca a' ∧ a'.state = .off ∧ a'.par = a.par) ∧
      (∀ g, s.slot i = .cg g → ∃ g', t.slot i = .cg g' ∧ g'.state = .stopped ∧ g'.par = g.par ∧ g'.rate = g.rate))) ∧
  (∀ (s : State) (level : Bool), s.calm → s.cfg.isSome = true →
    (∀ i, exec (.initialLevel (.runPermit i) level) s =
      .next { s.begun with fields := { s.fields with permits := s.fields.permits.set i level } }) ∧
    (∀ i, exec (.initialLevel (.jamClear i) level) s = .next s.begun) ∧
    exec (.initialLevel .take level) s = .next s.begun ∧
    exec (.initialLevel .acknowledge level) s = .next s.begun ∧
    exec (.initialLevel .silence level) s = .next s.begun ∧
    (∀ i sw, exec (.initialLevel (.gate i sw) level) s = exec (.gateConfirmation i sw level) s))

/-- R72: when a word completes, the lowest-numbered pending latch begins the next one and is pending no more; without one
the stream is free. At the refresh every latch is pending with its count as it was. That the clock then stands at the expiry,
or where it stood if that is later, and the refresh timer runs from the expiry itself, is the model's choice (log entry 7). -/
def Obligations.DriveWordsFollowTheLatches : Prop :=
  ∀ s : State, s.calm →
    (s.output.streaming = true → s.lowestPending = none →
      exec .driveWord s = .next { s.begun with output := { s.output with word := none } }) ∧
    (∀ o, s.output.streaming = true → s.lowestPending = some o →
      exec .driveWord s = .next { s.begun with output := { s.output with
        word := some (o, (s.latch o).count)
        latches := s.output.latches.set o { s.latch o with pending := false } } }) ∧
    (∀ due, s.output.refreshDue = some due → ∃ t, exec .driveRefreshTimerExpiry s = .next t ∧
      t.output.refreshDue = some (due + 200) ∧ t.now = max s.now due ∧
      (∀ o, t.latch o = { s.latch o with pending := (t.latch o).pending }) ∧
      (∀ o, (t.latch o).pending = true ∨ t.output.word = some (o, (s.latch o).count)) ∧
      t.channels = s.channels ∧ t.fields = s.fields ∧ t.nv = s.nv)

/-! ## The item gate (R98 to R101) -/

/-- R98, R99: each waiting state of the gate ends at its confirmation: opening the upper flap, closing it, opening the lower
flap, which feeds the item, and closing it, which makes the gate READY; a confirmation that no state waits for is recorded and
nothing more. R102: an interrupted UPPER CLOSING ends in READY with its item kept in the chamber. R97, R103: a gate that becomes
READY in a running slot starts the next cycle at once, or drops its chamber item, where the heat debt allows. R101, R106: a slot in
FAULT whose permit is not asserted leaves it for OFF as the gate becomes READY. -/
def Obligations.GateCyclesAdvance : Prop :=
  ∀ (s : State) (i : Fin 4) (sw : GateSwitch) (level : Bool) (d : DiSlot) (g : Gate), s.calm → s.slot i = .di d →
    g = d.gate.withSwitch sw level → g.conflict = false →
    (g.state = .upperOpening → g.upperOpen = true → exec (.gateConfirmation i sw level) s =
      .next (s.begun.setSlot i (.di ({ d with gate := g }.enterGate s.now .upperClosing)))) ∧
    (g.state = .upperClosing → g.upperClosed = true → g.interrupted = false → g.lowerOpen = false →
      exec (.gateConfirmation i sw level) s =
        .next (s.begun.setSlot i (.di ({ d with gate := g }.enterGate s.now .lowerOpening)))) ∧
    (∀ it, g.state = .lowerOpening → g.lowerOpen = true → g.item = some it → ∃ t d',
      exec (.gateConfirmation i sw level) s = .next t ∧ t.slot i = .di d' ∧ d'.gate.state = .lowerClosing ∧
      d'.gate.item = none ∧ d'.gate.lowerOpenCmd = false ∧ d'.gate.phaseDue = some (s.now + d.par.phaseTimeout * 1000) ∧
      d'.counters = { d.counters with fed := up32 d.counters.fed } ∧ d'.history = addHistory d.history (s.now, it.energy) ∧
      d'.queue = d.queue ∧ d'.debt = d.debt) ∧
    ((g.state = .ready ∨ g.state = .jammed ∨ (g.state = .upperOpening ∧ g.upperOpen = false) ∨
        (g.state = .upperClosing ∧ g.upperClosed = false) ∨ (g.state = .lowerOpening ∧ g.lowerOpen = false) ∨
        (g.state = .lowerClosing ∧ (g.upperClosed && g.lowerClosed) = false)) →
      exec (.gateConfirmation i sw level) s = .next (s.begun.setSlot i (.di { d with gate := g }))) ∧
    (∀ ready : Gate, (g.state = .lowerClosing ∧ g.lowerClosed = true ∧ ready = { g with
          state := .ready, upperOpenCmd := false, lowerOpenCmd := false, phaseDue := none }) ∨
        (g.state = .upperClosing ∧ g.interrupted = true ∧ ready = { g with
          state := .ready, upperOpenCmd := false, lowerOpenCmd := false, phaseDue := none, interrupted := false }) →
      g.upperClosed = true →
      (d.runs = false → ∃ t d', exec (.gateConfirmation i sw level) s = .next t ∧ t.slot i = .di d' ∧ d'.gate = ready ∧
        d'.queue = d.queue ∧ d'.counters = d.counters ∧ d'.runs = false ∧
        (d.state = .fault → d'.state = if s.permit i then .fault else .off)) ∧
      (d.runs = true → s.stands .gateJam i.val = false →
        (s.alarms.observed = true ∨ (g.item = none ∧ ∀ it ∈ d.queue.head?, d.debt < it.energy) ∨
            (g.item ≠ none ∧ d.debt = 0) →
          exec (.gateConfirmation i sw level) s = .next (s.begun.setSlot i (.di { d with gate := ready }))) ∧
        (∀ it rest, s.alarms.observed = false → g.item = none → d.queue = it :: rest → it.energy ≤ d.debt →
          exec (.gateConfirmation i sw level) s = .next (s.begun.setSlot i (.di (DiSlot.callAfter { d with
            queue := rest
            debt := d.debt - it.energy
            gate := { ready with state := .upperOpening, upperOpenCmd := true, item := some it
                                 phaseDue := some (s.now + d.par.phaseTimeout * 1000) } })))) ∧
        (∀ it, s.alarms.observed = false → g.item = some it → 0 < d.debt → g.lowerOpen = false →
          exec (.gateConfirmation i sw level) s = .next (s.begun.setSlot i (.di { d with
            debt := d.debt - it.energy
            gate := { ready with state := .lowerOpening, lowerOpenCmd := true
                                 phaseDue := some (s.now + d.par.phaseTimeout * 1000) } })))))

/-- R100, R106: a waiting state that outlasts its phase timer jams the gate, and so does a confirmation edge that leaves a flap
of a gate in any state but JAMMED with its open and its closed confirmation active together: the item in it is lost and counted,
the flap commands stay, the call line is released, and a slot in RUN stands in FAULT. That the clock stands at the expiry, or where
it stood if that is later, is the model's choice (log entry 7), and so are the loss of a chamber item of a gate in READY (log
entry 36) and that the jams counter stays at 4,294,967,295 (log entry 57). -/
def Obligations.LatePhasesJamTheGate : Prop :=
  (∀ (s : State) (i : Fin 4) (d : DiSlot) (due : Nat), s.calm → s.slot i = .di d → d.gate.phaseDue = some due →
    s.station = .run →
    ∃ t d', exec (.phaseTimerExpiry i) s = .next t ∧ t.slot i = .di d' ∧ d'.gate = { d.gate with
        state := .jammed, item := none, interrupted := false, phaseDue := none } ∧
      d'.state = .fault ∧ d'.call = false ∧ d'.queue = d.queue ∧ d'.counters = { d.counters with
        jams := up32 d.counters.jams
        lost := if d.gate.item.isSome then up32 d.counters.lost else d.counters.lost } ∧
      t.now = max s.now due ∧ t.picture = s.picture ∧ t.fields = s.fields ∧ t.nv = s.nv) ∧
  (∀ (s : State) (i : Fin 4) (sw : GateSwitch) (level : Bool) (d : DiSlot) (g : Gate), s.calm → s.slot i = .di d →
    g = d.gate.withSwitch sw level → g.conflict = true → g.state ≠ .jammed → s.station = .run →
    ∃ t d', exec (.gateConfirmation i sw level) s = .next t ∧ t.slot i = .di d' ∧ d'.gate = { g with
        state := .jammed, item := none, interrupted := false, phaseDue := none } ∧
      d'.state = .fault ∧ d'.call = false ∧ d'.queue = d.queue ∧ d'.counters = { d.counters with
        jams := up32 d.counters.jams
        lost := if d.gate.item.isSome then up32 d.counters.lost else d.counters.lost } ∧
      t.picture = s.picture ∧ t.fields = s.fields ∧ t.nv = s.nv)

/-- R101, R94: jam clear sends a JAMMED gate to LOWER CLOSING, both flaps commanded closed and the phase timer running, and no
other gate answers it. Where both closed confirmations are active already the gate is READY at once, and a slot in FAULT whose
permit is not asserted is OFF (R106). Where a flap shows both its confirmations the gate jams again at once (R100), and is
counted, up to 4,294,967,295 by the model's choice (log entry 57). The divert pulse ends at its timer and nothing else changes;
that the clock stands at that expiry, or where it stood if that is later, is the model's choice (log entry 7). -/
def Obligations.JamClearAndDivertTimers : Prop :=
  (∀ (s : State) (i : Fin 4) (d : DiSlot), s.calm → s.slot i = .di d →
    (d.gate.state = .jammed → d.gate.conflict = false → (d.gate.upperClosed && d.gate.lowerClosed) = false →
      exec (.jamClear i) s = .next (s.begun.setSlot i (.di { d with gate := { d.gate with
        state := .lowerClosing, upperOpenCmd := false, lowerOpenCmd := false
        phaseDue := some (s.now + d.par.phaseTimeout * 1000) } }))) ∧
    (d.gate.state = .jammed → d.gate.conflict = false → d.gate.upperClosed = true → d.gate.lowerClosed = true →
      d.runs = false → ∃ t d', exec (.jamClear i) s = .next t ∧ t.slot i = .di d' ∧ d'.gate = { d.gate with
          state := .ready, upperOpenCmd := false, lowerOpenCmd := false, phaseDue := none } ∧
        d'.queue = d.queue ∧ d'.counters = d.counters ∧ d'.runs = false ∧
        (d.state = .fault → d'.state = if s.permit i then .fault else .off) ∧
        t.picture = s.picture ∧ t.fields = s.fields ∧ t.nv = s.nv) ∧
    (d.gate.state = .jammed → d.gate.conflict = true →
      ∃ t d', exec (.jamClear i) s = .next t ∧ t.slot i = .di d' ∧ d'.gate = { d.gate with
          state := .jammed, upperOpenCmd := false, lowerOpenCmd := false, item := none, interrupted := false
          phaseDue := none } ∧
        d'.queue = d.queue ∧ (s.station = .run → d'.state = .fault) ∧ d'.counters = { d.counters with
          jams := up32 d.counters.jams
          lost := if d.gate.item.isSome then up32 d.counters.lost else d.counters.lost } ∧
        t.picture = s.picture ∧ t.fields = s.fields ∧ t.nv = s.nv) ∧
    (d.gate.state ≠ .jammed → exec (.jamClear i) s = .next s.begun)) ∧
  (∀ (s : State) (i : Fin 4) (d : DiSlot) (due : Nat), s.calm → s.slot i = .di d → d.divertDue = some due →
    exec (.divertTimerExpiry i) s = .next ((s.begun.reach due).setSlot i (.di { d with divertDue := none })))

/-! ## Alarms and the trip line (R125, R135, R144, R145) -/

/-- R71, R125, R144: the trip line is observed at its new level; when it is asserted every FEED latch holds 0 and no feed
slot runs, and no cooler slot is touched; a level already observed changes nothing. R102: the assertion interrupts every
cycle in progress: an upper flap that is opening is closed, and READY keeps its item in the chamber where it is closed
already; a cycle in UPPER CLOSING is marked; every other gate goes on. R82, R105: at the release a slot in TRIPPED without a
class-1 entry of its own passes to OFF; one with such an entry stays in TRIPPED through the release itself, until the
requests that follow it are taken, and no other slot changes. R144: where the station's FLOOR TRIP, of class 1 and without
the floor flag as by default, is that entry and no other bears on the slot, the clear that the release asks for ends it, and
after the requests the slot stands in OFF with share, commanded heat and mass target or debt 0. That requests are taken after
the event's own effects is the model's choice (log entry 8). -/
def Obligations.TripLineIsObserved : Prop :=
  (∀ (s : State) (asserted : Bool), s.calm →
    (s.alarms.observed = asserted → exec (.tripLineObserved asserted) s = .next s.begun) ∧
    (s.alarms.observed ≠ asserted → ∃ t u, exec (.tripLineObserved asserted) s = .next t ∧ t = State.settle u ∧
      t.alarms.observed = asserted ∧ (s.cfg.isSome = true →
        (if asserted then .raise .floorTrip 255 else .clear .floorTrip 255) ∈ u.agenda) ∧
      (asserted = true → ∀ i d, s.slot i = .di d → d.gate.conflict = false → ∃ d', t.slot i = .di d' ∧
        (d.gate.state = .upperOpening → d.gate.upperClosed = false → d'.gate = { d.gate with
          state := .upperClosing, upperOpenCmd := false, lowerOpenCmd := false, interrupted := true
          phaseDue := some (s.now + d.par.phaseTimeout * 1000) }) ∧
        (d.gate.state = .upperOpening → d.gate.upperClosed = true → d'.gate = { d.gate with
          state := .ready, upperOpenCmd := false, lowerOpenCmd := false, interrupted := false, phaseDue := none }) ∧
        (d.gate.state = .upperClosing → d'.gate = { d.gate with interrupted := true }) ∧
        (d.gate.state ≠ .upperOpening → d.gate.state ≠ .upperClosing → d'.gate = d.gate) ∧
        d'.queue = d.queue ∧ d'.counters = d.counters) ∧
      (asserted = false → ∀ i,
        (∀ c, s.slot i = .cf c → c.state = .tripped → s.classTrip i = false → ∃ c', t.slot i = .cf c' ∧ c'.state = .off ∧
          c'.par = c.par ∧ c'.alloc.heat = 0 ∧ c'.alloc.mass = 0) ∧
        (∀ d, s.slot i = .di d → d.state = .tripped → s.classTrip i = false → d.gate.conflict = false →
          ∃ d', t.slot i = .di d' ∧ d'.state = .off ∧ d'.par = d.par ∧ d'.alloc.heat = 0 ∧ d'.debt = 0) ∧
        (∀ c, s.slot i = .cf c → c.state = .tripped ∧ s.classTrip i = true ∨ c.state ≠ .tripped ∧ s.classTrip i = false →
          u.slot i = s.slot i) ∧
        (∀ d, s.slot i = .di d → d.state = .tripped ∧ s.classTrip i = true ∨ d.state ≠ .tripped ∧ s.classTrip i = false →
          u.slot i = s.slot i)) ∧
      (∀ i a, s.slot i = .ca a → t.slot i = .ca a) ∧ (∀ i g, s.slot i = .cg g → t.slot i = .cg g) ∧
      t.interlocked ∧ t.picture = s.picture ∧ t.fields = s.fields ∧ t.nv = s.nv)) ∧
  (∀ (s : State) (i : Fin 4) (e : AlarmEntry), s.calm → s.alarms.observed = true → s.cfg.isSome = true → s.alarmsLegal →
    s.interlocked → (s.response .floorTrip).cls ≠ 4 → (s.response .floorTrip).floor = false →
    s.findAlarm s.ownNumber .floorTrip 255 = some e → e.cls = 1 → e.state ≠ .returned → e.latched = false →
    (∀ f ∈ s.alarms.all, f.origin = s.ownNumber → f.cls = 1 → f.state ≠ .returned →
      (f.channel = i.val ∨ f.channel = 255) → f = e) →
    ∃ t, exec (.tripLineObserved false) s = .next t ∧
      (∀ c, s.slot i = .cf c → c.state = .tripped → ∃ c', t.slot i = .cf c' ∧ c'.state = .off ∧ c'.par = c.par ∧
        c'.alloc.share = 0 ∧ c'.alloc.heat = 0 ∧ c'.alloc.mass = 0) ∧
      (∀ d, s.slot i = .di d → d.state = .tripped → d.gate.conflict = false → ∃ d', t.slot i = .di d' ∧ d'.state = .off ∧
        d'.par = d.par ∧ d'.alloc.share = 0 ∧ d'.alloc.heat = 0 ∧ d'.debt = 0))

/-- R135, R145: an acknowledgement at the panel passes every entry of the table that is in NEW and not latched to STANDING,
with its key and its occurrence as they were, and takes those in RETURNED or latched out, so that every entry left is
STANDING; the flood slot's entry goes the same way, and stays while the table keeps at least 40 entries (R140). The requests
that this sends the alarm unit are taken after it (log entry 8); they touch no entry of a peer that stands. The silence line
silences the horn and changes nothing else. Before an image is accepted neither line does anything. R145: in START HALT every
class lamp flashes and the horn is silent; in every other station state the lamp of a class flashes while an entry of the
class stands in NEW, is steady while none does and one stands in STANDING, and is dark where every entry of the class is in
RETURNED, and the horn sounds while an entry stands in NEW and the silenced mark is clear. -/
def Obligations.PanelLinesAct : Prop :=
  (∀ s : State, s.calm →
    (s.cfg = none → exec .acknowledge s = .next s.begun) ∧
    (s.cfg.isSome = true → s.alarmsLegal →
      (∃ t, exec .acknowledge s = .next t ∧
        (∀ e ∈ t.alarms.table, e.origin ≠ s.ownNumber → e.state = .standing) ∧
        (∀ e ∈ s.alarms.table, e.origin ≠ s.ownNumber → e.state = .new → e.latched = false →
          ∃ b, { e with state := .standing, ackUnpublished := b } ∈ t.alarms.table) ∧
        (∀ e ∈ s.alarms.table, e.origin ≠ s.ownNumber → e.state = .standing → e ∈ t.alarms.table) ∧
        t.picture = s.picture ∧ t.fields = s.fields ∧ t.nv = s.nv) ∧
      ∃ u, exec .acknowledge s = .next (State.settle u) ∧
        (∀ e ∈ u.alarms.all, e.state = .standing) ∧
        (∀ e ∈ s.alarms.table, e.state = .new → e.latched = false →
          ∃ b, { e with state := .standing, ackUnpublished := b } ∈ u.alarms.table) ∧
        (∀ e ∈ s.alarms.flood, e.state = .new → e.latched = false → 40 ≤ u.alarms.table.length →
          ∃ b, u.alarms.flood = some { e with state := .standing, ackUnpublished := b }))) ∧
  (∀ s : State, s.calm →
    (s.cfg.isSome = true → ∃ t, exec .silence s = .next t ∧ t.horn = false ∧
      t = { s.begun with alarms := { s.alarms with silenced := true } }) ∧
    (s.cfg = none → exec .silence s = .next s.begun)) ∧
  (∀ (s : State) (cls : Nat),
    (s.live = true → s.station = .startHalt → s.lamp cls = .flashing ∧ s.horn = false) ∧
    (s.station ≠ .startHalt →
      (s.lamp cls = .flashing ↔ ∃ e ∈ s.alarms.all, e.cls = cls ∧ e.state = .new) ∧
      (s.lamp cls = .steady ↔ (∀ e ∈ s.alarms.all, e.cls = cls → e.state ≠ .new) ∧
        ∃ e ∈ s.alarms.all, e.cls = cls ∧ e.state = .standing) ∧
      (s.lamp cls = .dark ↔ ∀ e ∈ s.alarms.all, e.cls = cls → e.state = .returned) ∧
      (s.horn = true ↔ s.alarms.silenced = false ∧ ∃ e ∈ s.alarms.all, e.state = .new)))

/-! ## Shift accounting (R153, R155, R157) -/

/-- R153, R155, R157: the shift timer closes the current shift into collation with the next number taken, its timer at full
length, and the station's clinker and class-1 seconds at 0; the collation timer ends a collation. R155: the close itself sets
every accumulator of the station and of its slots to 0, the raised counts among them, and the saturation mark is off; the
remainders keep their values. R156: the close offers the shift summary of the closed shift, composed from the accumulators as
they stood: the number, the count of used slots, the clinker, the raised counts and, for each used slot, its channel, kind,
main total, heat and running or flush seconds, each bounded by its field. R153: the close by the timer then offers the shift
mark of the new number. The alarm requests that the close sends are taken after it and may post again (log entry 8). That the
clock stands at the expiry, or where it stood if that is later, and the timers run from there, is the model's choice (log
entry 7). -/
def Obligations.ShiftTimersCloseAndCollate : Prop :=
  (∀ (s : State) (due : Nat) (g : Cfg), s.calm → s.cfg = some g →
     (∀ n : Serial, s.accountant.shiftDue = some due → s.accountant.shift = some n →
       (s.offers → ∃ u l, exec .shiftTimerExpiry s = .next (State.settle u) ∧
         s.link.tookOffer l (.summary (s.summaryPayload n)) ∧ l.tookOffer u.link (.mark (n + 1))) ∧
       ∃ t, exec .shiftTimerExpiry s = .next t ∧ t.accountant.shift = some (n + 1) ∧ t.now = max s.now due ∧
         t.accountant.shiftDue = some (t.now + g.shiftLen * 3600000) ∧ t.accountant.collating = some n ∧
         t.accountant.collationDue = some (t.now + g.collateS * 1000) ∧ t.accountant.collated = [] ∧
         t.accountant.clinker = 0 ∧ t.accountant.class1Seconds = 0 ∧ t.picture = s.picture ∧ t.fields = s.fields ∧
         t.nv = s.nv) ∧
     (s.accountant.collationDue = some due → ∃ t, exec .collationTimerExpiry s = .next t ∧ t.now = max s.now due ∧
       t.accountant.collating = none ∧ t.accountant.collationDue = none ∧ t.accountant.collated = [] ∧
       t.accountant.shift = s.accountant.shift ∧ t.picture = s.picture ∧ t.fields = s.fields ∧ t.nv = s.nv)) ∧
  (∀ (s : State) (n new : Serial) (reason : Nat) (t : State), t = s.closeShift n reason new →
    t.accountant.clinker = 0 ∧ t.accountant.raised = Vector.replicate 4 0 ∧ t.accountant.class1Seconds = 0 ∧
    t.accountant.saturated = false ∧ t.accountant.clinkerRem = s.accountant.clinkerRem ∧
    (∀ i, t.acc i = { gramRem := (s.acc i).gramRem, kjRem := (s.acc i).kjRem }) ∧ t.accountant.collating = some n ∧
    (s.offers → s.link.tookOffer t.link (.summary (s.summaryPayload n)))) ∧
  (∀ (s : State) (n : Serial) (used : List (Fin 4)),
    used = (([0, 1, 2, 3] : List (Fin 4)).filter fun i => s.slot i != .unused) →
    s.summaryPayload n = be2 n.toNat ++ [byte used.length] ++ be4 s.accountant.clinker ++
      (s.accountant.raised.toList.flatMap fun x => be2 (min 65535 x)) ++
      used.flatMap fun i => match s.slot i with
        | .unused => []
        | .cf _ => [byte i.val, 1] ++ be4 (s.acc i).mass ++ be4 (s.acc i).heat ++ be2 (min 65535 (s.acc i).running)
        | .di _ => [byte i.val, 2] ++ be4 (s.acc i).mass ++ be4 (s.acc i).heat ++ be2 (min 65535 (s.acc i).running)
        | .ca _ => [byte i.val, 3] ++ be4 (s.acc i).air ++ be4 (s.acc i).recovered ++ be2 (min 65535 (s.acc i).running)
        | .cg _ => [byte i.val, 4] ++ be4 (s.acc i).strokes ++ be4 0 ++ be2 (min 65535 (s.acc i).flushSeconds))

/-! ## The report store (R169, R171) -/

/-- R163, R166, R169: a program that passes leaves its records' bytes at its place in the array and every other byte as it
was; one that fails leaves every byte outside its place as it was. -/
def Obligations.ProgramsWriteTheirRecords : Prop :=
  ∀ (s : State) (op : ProgramOp) (bytes : List Byte), s.calm → s.nv.array.wf = true → s.store.program = some op →
    bytes = op.records.flatMap (QRecord.bytes (s.store.aux[op.file]).base) →
    (∃ t, exec (.programCompletion true) s = .next t ∧
      (∀ (n : Nat) (h : n < bytes.length), t.nv.array.read (op.address + n) = bytes[n]) ∧
      (∀ a, a < op.address ∨ op.address + bytes.length ≤ a → t.nv.array.read a = s.nv.array.read a) ∧
      t.nv.config = s.nv.config ∧ t.nv.otp = s.nv.otp ∧ t.picture = s.picture ∧ t.fields = s.fields) ∧
    (∃ t, exec (.programCompletion false) s = .next t ∧
      t.store.counters.programFailures = up16 s.store.counters.programFailures ∧
      (∀ a, a < op.address ∨ op.address + op.size ≤ a → t.nv.array.read a = s.nv.array.read a) ∧
      t.nv.config = s.nv.config ∧ t.nv.otp = s.nv.otp ∧ t.picture = s.picture ∧ t.fields = s.fields)

/-- R163, R171, R172: an erase that passes leaves the 4,096 bytes of its granule 0xFF and every other byte as it was, and is
counted; one that fails is counted, and that it changes no byte is the model's choice (log entry 4); an erase that stands
suspended does not end. -/
def Obligations.ErasesClearOneGranule : Prop :=
  ∀ (s : State) (x : EraseOp), s.calm → s.nv.array.wf = true → s.store.erase = some x →
    (x.suspended = true → ∀ pass, exec (.eraseCompletion pass) s = .next s.begun) ∧
    (x.suspended = false → ∃ t, exec (.eraseCompletion true) s = .next t ∧
      (∀ a, x.granule.val * 4096 ≤ a → a < x.granule.val * 4096 + 4096 → t.nv.array.read a = 0xFF) ∧
      (∀ a, a < x.granule.val * 4096 ∨ x.granule.val * 4096 + 4096 ≤ a → t.nv.array.read a = s.nv.array.read a) ∧
      t.store.counters.erases = up16 s.store.counters.erases ∧ t.nv.config = s.nv.config ∧ t.nv.otp = s.nv.otp ∧
      t.picture = s.picture ∧ t.fields = s.fields) ∧
    (x.suspended = false → ∃ t, exec (.eraseCompletion false) s = .next t ∧ t.nv = s.nv ∧
      t.store.counters.eraseFailures = up16 s.store.counters.eraseFailures ∧ t.picture = s.picture ∧ t.fields = s.fields)

/-! ## The service port (R180 to R183) -/

/-- R183, Formats: a read command answers with a snapshot and changes nothing else, and every one but STATUS closes the
window; an index beyond a table's entries is answered with the one byte 0xEE. The order and the form of the fields that the
manual leaves open are the model's choice (log entries 27 and 63), as are the closed time 0 that DIR ENTRY shows for a file
not yet CLOSED (log entry 69), the suspension count 0 that STATUS shows where no erase is in progress (log entry 70) and DIR
ENTRY's answer from the map in START HALT (log entry 74). -/
def Obligations.SnapshotsChangeNothing : Prop :=
  (∀ (s : State) (index : Byte), s.calm →
    exec .status s = .next { s.begun with port := { s.port with response := s.begun.statusBytes } } ∧
    (s.port.window = none →
      exec .ident s = .next { s.begun with port := { s.port with response := s.begun.identBytes } } ∧
      exec (.dirEntry index) s = .next { s.begun with port := { s.port with response := s.begun.dirResponse index.toNat } } ∧
      exec (.pictureEntry index) s =
        .next { s.begun with port := { s.port with response := s.begun.pictureResponse index.toNat } } ∧
      exec (.alarmEntry index) s =
        .next { s.begun with port := { s.port with response := s.begun.alarmResponse index.toNat } } ∧
      exec (.channelView index) s =
        .next { s.begun with port := { s.port with response := s.begun.channelResponse index.toNat } }) ∧
    (∀ c, (c = .ident ∨ c = .dirEntry index ∨ c = .pictureEntry index ∨ c = .alarmEntry index ∨ c = .channelView index) →
      ∃ t, exec c s = .next t ∧ t.port.window = none ∧ t.nv = s.nv ∧ t.picture = s.picture ∧ t.fields = s.fields)) ∧
  (∀ (s : State) (index : Byte), s.calm → s.port.window = none →
    (32 ≤ index.toNat → ∃ t, exec (.dirEntry index) s = .next t ∧ t.port.response = [0xEE]) ∧
    (s.picture.entries.length ≤ index.toNat → ∃ t, exec (.pictureEntry index) s = .next t ∧ t.port.response = [0xEE]) ∧
    (s.alarms.all.length ≤ index.toNat → ∃ t, exec (.alarmEntry index) s = .next t ∧ t.port.response = [0xEE]) ∧
    (4 ≤ index.toNat → ∃ t, exec (.channelView index) s = .next t ∧ t.port.response = [0xEE]))

/-- R182: WINDOW opens the read window on an entry at an offset with an empty buffer, and an entry above 31 or a mode above 1
opens none; a read of the array that ends fills the buffer from where it stood, in AUTO up to 32 bytes and in FIXED up to
a unit, and does not end while the array cannot be read. -/
def Obligations.WindowsOpenAndFill : Prop :=
  (∀ (s : State) (entry mode : Byte) (offset : BitVec 24), s.calm →
    ∃ t, exec (.window entry mode offset) s = .next t ∧ t.nv = s.nv ∧ t.picture = s.picture ∧ t.fields = s.fields ∧
      (∀ h : entry.toNat < 32, mode.toNat ≤ 1 → t.port.buffer = [] ∧ ∃ w, t.port.window = some w ∧ w.entry = ⟨entry.toNat, h⟩ ∧
        w.fixed = (mode == 1) ∧ w.offset = offset.toNat) ∧
      (32 ≤ entry.toNat ∨ 1 < mode.toNat → t.port.window = none)) ∧
  (∀ (s : State) (w : ReadWindow), s.calm → s.port.window = some w →
    (s.port.reading = true → s.arrayReadable = true → ∃ t, exec .prefetchReadDone s = .next t ∧
      t.port.buffer = s.port.buffer ++ s.fileBytes w (w.offset + s.port.buffer.length)
        ((if w.fixed then 16 else 32) - s.port.buffer.length) ∧
      t.port.reading = false ∧ t.nv = s.nv ∧ t.picture = s.picture ∧ t.fields = s.fields) ∧
    (s.port.reading = false ∨ s.arrayReadable = false → exec .prefetchReadDone s = .next s.begun))

/-- R182: STREAM answers as many bytes as the master clocks; without a window each unit is the status END and 16 bytes 0xFF;
a unit whose bytes the buffer holds is READY, carries them in the file's order and moves the offset past them. A unit at or
past the file's length is END as well. A unit whose bytes the buffer does not hold is NOT READY: the status 0 and 16 bytes
0xFF, with a read of the array begun and the offset unchanged. A unit cut short answers as many of its bytes as were clocked
and moves no offset; a READY one keeps its bytes in the buffer. That NOT READY begins a read in AUTO too, and that in FIXED a
unit that cannot be filled drops what the buffer holds and reads again, is the model's inference (log entry 26). -/
def Obligations.StreamsAnswerInUnits : Prop :=
  ∀ (s : State) (clocked : Nat), s.calm →
    (∃ t, exec (.stream clocked) s = .next t ∧ t.port.response.length = clocked ∧ t.nv = s.nv ∧
      t.picture = s.picture ∧ t.fields = s.fields) ∧
    (s.port.window = none → exec (.stream 17) s =
      .next { s.begun with port := { s.port with response := 0xE0 :: List.replicate 16 0xFF } }) ∧
    (∀ w : ReadWindow, s.port.window = some w → w.offset < s.windowLength w → s.unitReady w = true →
      ∃ t w', exec (.stream 17) s = .next t ∧ t.port.window = some w' ∧ w'.entry = w.entry ∧ w'.fixed = w.fixed ∧
        w'.offset = w.offset + min 16 (s.windowLength w - w.offset) ∧
        t.port.response = 0x5A :: (s.port.buffer.take (min 16 (s.windowLength w - w.offset)) ++
          List.replicate (16 - min 16 (s.windowLength w - w.offset)) 0xFF)) ∧
    (∀ w : ReadWindow, s.port.window = some w →
      (s.windowLength w ≤ w.offset → ∀ n, n ≤ 17 → exec (.stream n) s =
        .next { s.begun with port := { s.port with response := (0xE0 :: List.replicate 16 0xFF).take n } }) ∧
      (w.offset < s.windowLength w → s.unitReady w = true → ∀ n, n < 17 → exec (.stream n) s =
        .next { s.begun with port := { s.port with
          response := (0x5A :: (s.port.buffer.take (min 16 (s.windowLength w - w.offset)) ++
            List.replicate (16 - min 16 (s.windowLength w - w.offset)) 0xFF)).take n } }) ∧
      (w.offset < s.windowLength w → s.unitReady w = false → ∀ n, 0 < n → n ≤ 17 →
        ∃ t w', exec (.stream n) s = .next t ∧ t.port.response = ((0x00 : Byte) :: List.replicate 16 0xFF).take n ∧
          t.port.reading = true ∧ t.port.window = some w' ∧ w'.entry = w.entry ∧ w'.fixed = w.fixed ∧
          w'.offset = w.offset ∧
          t.port.buffer = if s.port.reading = false ∧ w.fixed = true then [] else s.port.buffer))

/-- R180, R181: WRITE ENABLE sets its latch; a program or erase command clears it and is tested in order: LOCKED outside
COMMISSION or without the latch, BUSY while the engine runs, its own refusal, and otherwise IN PROGRESS with the
operation handed to the engine. That an OTP WRITE of a locked block 15 is refused as RANGE, that test standing before the one of
the lock, is the model's choice (log entry 26). R182: each of these commands closes an open read window first, which may let the
engine begin an operation, and is then tested in the same order. -/
def Obligations.WriteCommandsAreTestedInOrder : Prop :=
  (∀ (s : State) (offset : BitVec 16) (count : Byte) (block lock : Byte) (data : List Byte), s.calm →
     s.port.window = none →
     exec .writeEnable s = .next { s.begun with port := { s.port with writeEnable := true, lastResult := .done } } ∧
     ∀ (c : Instr) (refusal : Option Result) (op : AreaOp),
       (c = .configWrite offset count data ∧
           refusal = (if count.toNat = 0 ∨ 64 < count.toNat ∨ 1024 < offset.toNat + count.toNat then some .range else none) ∧
           op = .write offset.toNat (data.take count.toNat)) ∨
         (c = .configErase ∧ refusal = none ∧ op = .erase) ∨
         (c = .otpWrite block lock data ∧
           refusal = (if 14 < block.toNat then some .range
             else if s.nv.otpLocks[Fin.ofNat 16 block.toNat] then some .locked else none) ∧
           op = .otp (Fin.ofNat 16 block.toNat) (data.take 32) (lock == 1)) ∨
         (c = .freeze ∧ refusal = (if s.nv.image.isNone then some .invalid else none) ∧ op = .freeze) →
       ((s.protection ≠ .commission ∨ s.port.writeEnable = false) →
         exec c s = .next { s.begun with port := { s.port with writeEnable := false, lastResult := .locked } }) ∧
       (s.protection = .commission → s.port.writeEnable = true → s.engineBusy = true →
         exec c s = .next { s.begun with port := { s.port with writeEnable := false, lastResult := .busy } }) ∧
       (∀ r, s.protection = .commission → s.port.writeEnable = true → s.engineBusy = false → refusal = some r →
         exec c s = .next { s.begun with port := { s.port with writeEnable := false, lastResult := r } }) ∧
       (s.protection = .commission → s.port.writeEnable = true → s.engineBusy = false → refusal = none →
         exec c s = .next { s.begun with
           port := { s.port with writeEnable := false, lastResult := .inProgress }
           store := { s.store with area := some op } })) ∧
  ∀ (s : State) (offset : BitVec 16) (count : Byte) (block lock : Byte) (data : List Byte), s.calm →
    s.port.window.isSome = true →
    (∃ t, exec .writeEnable s = .next t ∧ t.port.window = none ∧ t.port.writeEnable = true ∧ t.port.lastResult = .done ∧
      t.nv = s.nv ∧ t.picture = s.picture ∧ t.fields = s.fields) ∧
    ∀ (c : Instr) (refusal : Option Result) (op : AreaOp),
      (c = .configWrite offset count data ∧
          refusal = (if count.toNat = 0 ∨ 64 < count.toNat ∨ 1024 < offset.toNat + count.toNat then some .range else none) ∧
          op = .write offset.toNat (data.take count.toNat)) ∨
        (c = .configErase ∧ refusal = none ∧ op = .erase) ∨
        (c = .otpWrite block lock data ∧
          refusal = (if 14 < block.toNat then some .range
            else if s.nv.otpLocks[Fin.ofNat 16 block.toNat] then some .locked else none) ∧
          op = .otp (Fin.ofNat 16 block.toNat) (data.take 32) (lock == 1)) ∨
        (c = .freeze ∧ refusal = (if s.nv.image.isNone then some .invalid else none) ∧ op = .freeze) →
      ∃ t r, exec c s = .next t ∧ t.port.window = none ∧ t.port.writeEnable = false ∧ t.port.lastResult = r ∧
        t.store.area = (if r = .inProgress then some op else s.store.area) ∧
        r = (if s.protection ≠ .commission ∨ s.port.writeEnable = false then .locked
          else if s.begun.closeWindow.engineBusy = true then .busy else refusal.getD .inProgress) ∧
        t.nv = s.nv ∧ t.picture = s.picture ∧ t.fields = s.fields

/-- R181: a CONFIG WRITE that the engine completes takes each byte that was erased and leaves every programmed byte and every
byte outside its range; it is DONE where its bytes read back as its data. A CONFIG ERASE leaves the 1,024 bytes 0xFF. A
failed verify of either is VERIFY FAILED, and that of a CONFIG WRITE changes no byte outside its range (what its bytes then hold
is free: log entry 4). The result replaces IN PROGRESS alone: that of
a later write command stays. -/
def Obligations.ConfigOperationsComplete : Prop :=
  ∀ s : State, s.calm → s.nv.config.wf = true →
    (∀ offset data, s.store.area = some (.write offset data) →
      (∃ t, exec (.configOperationCompletion true) s = .next t ∧
        (∀ (n : Nat) (h : n < data.length), t.nv.config.read (offset + n) =
          if s.nv.config.read (offset + n) = 0xFF then data[n] else s.nv.config.read (offset + n)) ∧
        (∀ a, a < offset ∨ offset + data.length ≤ a → t.nv.config.read a = s.nv.config.read a) ∧
        t.port.lastResult = (if s.port.lastResult = .inProgress then
          if t.nv.config.readBytes offset data.length = data then .done else .verifyFailed
          else s.port.lastResult) ∧
        t.store.area = none ∧ t.nv.array = s.nv.array ∧ t.nv.otp = s.nv.otp) ∧
      (∃ t, exec (.configOperationCompletion false) s = .next t ∧
        t.port.lastResult = (if s.port.lastResult = .inProgress then .verifyFailed else s.port.lastResult) ∧
        (∀ a, a < offset ∨ offset + data.length ≤ a → t.nv.config.read a = s.nv.config.read a) ∧
        t.store.area = none ∧ t.nv.array = s.nv.array ∧ t.nv.otp = s.nv.otp)) ∧
    (s.store.area = some .erase → ∃ t, exec (.configOperationCompletion true) s = .next t ∧
      (∀ a, a < 1024 → t.nv.config.read a = 0xFF) ∧
      t.port.lastResult = (if s.port.lastResult = .inProgress then .done else s.port.lastResult) ∧ t.store.area = none ∧
      t.nv.array = s.nv.array ∧ t.nv.otp = s.nv.otp) ∧
    (s.store.area = some .erase → ∃ t, exec (.configOperationCompletion false) s = .next t ∧
      t.port.lastResult = (if s.port.lastResult = .inProgress then .verifyFailed else s.port.lastResult) ∧
      t.store.area = none ∧ t.nv.array = s.nv.array ∧ t.nv.otp = s.nv.otp ∧ t.protection = s.protection ∧
      t.picture = s.picture ∧ t.fields = s.fields)

/-- R180: an OTP WRITE that the engine completes takes the erased bytes of its block alone, is DONE where the block reads
back as its data, and then locks it where that was asked for. FREEZE takes the erased bytes of block 15 to the freeze mark:
it is DONE where the block reads back as the mark, as it does from an erased block, and then the protection state is FROZEN
and the block locked; otherwise it is VERIFY FAILED. A failed verify of either is VERIFY FAILED, changes no programmed byte
and no byte outside the block, and sets no lock; after a failed FREEZE the protection state is FROZEN only where block 15
holds a valid mark. That a FREEZE which does not read back, or whose verify fails, sets no lock is the model's inference (log
entry 26). R181: the result replaces IN PROGRESS alone: that of a later write command stays. -/
def Obligations.OtpProgramsComplete : Prop :=
  ∀ s : State, s.calm → s.nv.otp.wf = true →
    (∀ block data lock, s.store.area = some (.otp block data lock) →
      ∃ t, exec (.otpProgramCompletion true) s = .next t ∧
        (∀ (n : Nat) (h : n < data.length), t.nv.otp.read (32 * block.val + n) =
          if s.nv.otp.read (32 * block.val + n) = 0xFF then data[n] else s.nv.otp.read (32 * block.val + n)) ∧
        (∀ a, a < 32 * block.val ∨ 32 * block.val + data.length ≤ a → t.nv.otp.read a = s.nv.otp.read a) ∧
        t.port.lastResult = (if s.port.lastResult = .inProgress then
          if t.nv.otp.readBytes (32 * block.val) data.length = data then .done else .verifyFailed
          else s.port.lastResult) ∧
        t.nv.otpLocks = (if lock = true ∧ t.nv.otp.readBytes (32 * block.val) data.length = data
          then s.nv.otpLocks.set block true else s.nv.otpLocks) ∧
        t.store.area = none ∧ t.nv.array = s.nv.array ∧ t.nv.config = s.nv.config) ∧
    (∀ mark : List Byte, mark = 0x01 :: (List.replicate 30 0xFF ++ [0x1D]) → s.store.area = some .freeze →
      ∃ t, exec (.otpProgramCompletion true) s = .next t ∧
        (∀ (n : Nat) (h : n < mark.length), t.nv.otp.read (480 + n) =
          if s.nv.otp.read (480 + n) = 0xFF then mark[n] else s.nv.otp.read (480 + n)) ∧
        (∀ a, a < 480 ∨ 480 + mark.length ≤ a → t.nv.otp.read a = s.nv.otp.read a) ∧
        t.port.lastResult = (if s.port.lastResult = .inProgress then
          if t.nv.otp.readBytes 480 32 = mark then .done else .verifyFailed
          else s.port.lastResult) ∧
        (t.nv.otp.readBytes 480 32 = mark → t.protection = .frozen ∧ t.nv.otpLocks = s.nv.otpLocks.set 15 true) ∧
        (t.nv.otp.readBytes 480 32 ≠ mark → t.protection = (if t.nv.frozen = true then .frozen else s.protection) ∧
          t.nv.otpLocks = s.nv.otpLocks) ∧
        ((∀ n, n < 32 → s.nv.otp.read (480 + n) = 0xFF) → t.nv.otp.readBytes 480 32 = mark) ∧
        t.store.area = none ∧ t.nv.array = s.nv.array ∧ t.nv.config = s.nv.config) ∧
    (∀ op (block : Fin 16) (size : Nat), s.store.area = some op →
      ((∃ data lock, op = .otp block data lock ∧ size = data.length) ∨ (op = .freeze ∧ block = 15 ∧ size = 32)) →
      ∃ t, exec (.otpProgramCompletion false) s = .next t ∧
        t.port.lastResult = (if s.port.lastResult = .inProgress then .verifyFailed else s.port.lastResult) ∧
        (∀ a, a < 32 * block.val ∨ 32 * block.val + size ≤ a → t.nv.otp.read a = s.nv.otp.read a) ∧
        (∀ a, s.nv.otp.read a ≠ 0xFF → t.nv.otp.read a = s.nv.otp.read a) ∧ t.nv.otpLocks = s.nv.otpLocks ∧
        t.protection = (if op = .freeze ∧ t.nv.frozen = true then .frozen else s.protection) ∧
        t.store.area = none ∧ t.nv.array = s.nv.array ∧ t.nv.config = s.nv.config)

/-- R172, R181: FLUSH is always taken: it closes the window, its result is DONE, and the command changes no memory. A write
command whose transaction ends early, and a byte that names no command, are counted and have no other effect; the unknown
byte is answered with 0xFF. That neither of the two closes a read window is the model's choice (log entry 26). -/
def Obligations.FlushAndBadCommands : Prop :=
  (∀ s : State, s.calm → ∃ t, exec .flush s = .next t ∧ t.port.lastResult = .done ∧ t.port.window = none ∧
    t.port.writeEnable = s.port.writeEnable ∧ t.nv = s.nv ∧ t.picture = s.picture ∧ t.fields = s.fields) ∧
  (∀ (s : State) (b : Byte), s.calm →
    exec .commandDiscarded s = .next { s.begun with port :=
      { s.port with commandsDiscarded := up16 s.port.commandsDiscarded } } ∧
    exec (.unknownCommand b) s = .next { s.begun with port :=
      { s.port with commandsDiscarded := up16 s.port.commandsDiscarded, response := [0xFF] } })
end

