-- ==== Sys2Proof/Laws/Memory.lean ====
section
/-! SUPPORT. The non-volatile memories: every operation keeps the canonical form, and what each byte reads as after it. -/

namespace Sys2Proof.Machine

/-! ## The canonical form -/

theorem Memory.wf_cons (k : Nat) (b : Byte) (m : Memory) :
    Memory.wf ((k, b) :: m) = true ↔ b ≠ Memory.erasedByte ∧ (∀ c ∈ m, k < c.1) ∧ Memory.wf m = true := by
  induction m generalizing k b with
  | nil => simp [Memory.wf]
  | cons c t ih =>
    obtain ⟨k', b'⟩ := c
    simp only [Memory.wf, Bool.and_eq_true, decide_eq_true_eq, bne_iff_ne, ne_eq, List.mem_cons, forall_eq_or_imp]
    rw [ih]
    constructor
    · rintro ⟨⟨hb, hk⟩, hb', ht, hw⟩
      exact ⟨hb, ⟨hk, fun c hc => lt_trans hk (ht c hc)⟩, hb', ht, hw⟩
    · rintro ⟨hb, ⟨hk, _⟩, hb', ht, hw⟩
      exact ⟨⟨hb, hk⟩, hb', ht, hw⟩

theorem Memory.mem_write {c : Host.Cell} {a : Nat} {v : Byte} {m : Memory} (h : c ∈ Memory.write m a v) :
    c = (a, v) ∨ c ∈ m := by
  induction m with
  | nil =>
    simp only [Memory.write] at h
    split_ifs at h <;> simp_all
  | cons d t ih =>
    obtain ⟨j, b⟩ := d
    simp only [Memory.write] at h
    split_ifs at h
    · exact .inr h
    · exact (List.mem_cons.1 h).imp id id
    · exact .inr (List.mem_cons_of_mem _ h)
    · exact (List.mem_cons.1 h).imp id (List.mem_cons_of_mem _)
    · rcases List.mem_cons.1 h with h | h
      · exact .inr (by simp [h])
      · exact (ih h).imp id (List.mem_cons_of_mem _)

theorem Memory.lt_of_mem_write {k a : Nat} {v : Byte} {m : Memory} (hk : k < a) (h : ∀ c ∈ m, k < c.1) :
    ∀ c ∈ Memory.write m a v, k < c.1 := by
  intro c hc
  rcases Memory.mem_write hc with rfl | hc
  · exact hk
  · exact h c hc

theorem Memory.wf_write {m : Memory} (a : Nat) (v : Byte) (h : Memory.wf m = true) :
    Memory.wf (Memory.write m a v) = true := by
  induction m with
  | nil => simp only [Memory.write]; split_ifs with hv <;> simp [Memory.wf, hv]
  | cons d t ih =>
    obtain ⟨j, b⟩ := d
    have h' := h
    rw [Memory.wf_cons] at h'
    obtain ⟨hb, hj, ht⟩ := h'
    simp only [Memory.write]
    split_ifs with h1 hv h2 hv
    · exact h
    · rw [Memory.wf_cons]
      refine ⟨hv, ?_, h⟩
      simp only [List.mem_cons, forall_eq_or_imp]
      exact ⟨h1, fun c hc => lt_trans h1 (hj c hc)⟩
    · exact ht
    · rw [Memory.wf_cons]
      exact ⟨hv, by rw [h2]; exact hj, ht⟩
    · rw [Memory.wf_cons]
      exact ⟨hb, Memory.lt_of_mem_write (by omega) hj, ih ht⟩

theorem Memory.wf_writeBytes (bs : List Byte) {m : Memory} (a : Nat) (h : Memory.wf m = true) :
    Memory.wf (Memory.writeBytes m a bs) = true := by
  induction bs generalizing m a with
  | nil => exact h
  | cons b bs ih => exact ih (a + 1) (Memory.wf_write a b h)

theorem Memory.wf_program (bs : List Byte) {m : Memory} (a : Nat) (h : Memory.wf m = true) :
    Memory.wf (Memory.program m a bs) = true := by
  induction bs generalizing m a with
  | nil => exact h
  | cons b bs ih =>
    simp only [Memory.program]
    split_ifs
    · exact ih (a + 1) (Memory.wf_write a b h)
    · exact ih (a + 1) h

theorem Memory.wf_filter (p : Host.Cell → Bool) {m : Memory} (h : Memory.wf m = true) :
    Memory.wf (m.filter p) = true := by
  induction m with
  | nil => rfl
  | cons d t ih =>
    obtain ⟨j, b⟩ := d
    rw [Memory.wf_cons] at h
    obtain ⟨hb, hj, ht⟩ := h
    by_cases hp : p (j, b) = true
    · rw [List.filter_cons_of_pos hp, Memory.wf_cons]
      exact ⟨hb, fun c hc => hj c (List.mem_filter.1 hc).1, ih ht⟩
    · rw [List.filter_cons_of_neg hp]; exact ih ht

theorem Memory.wf_eraseBytes {m : Memory} (a n : Nat) (h : Memory.wf m = true) :
    Memory.wf (Memory.eraseBytes m a n) = true := Memory.wf_filter _ h

/-! ## What a byte reads as -/

theorem Memory.read_of_lt {m : Memory} {a : Nat} (h : ∀ c ∈ m, a < c.1) : Memory.read m a = Memory.erasedByte := by
  cases m with
  | nil => rfl
  | cons d t =>
    obtain ⟨j, b⟩ := d
    have : a < j := h (j, b) (by simp)
    simp [Memory.read, this, Nat.ne_of_lt this]

theorem Memory.read_write_self {m : Memory} (a : Nat) (v : Byte) (h : Memory.wf m = true) :
    Memory.read (Memory.write m a v) a = v := by
  induction m with
  | nil => simp only [Memory.write]; split_ifs with hv <;> simp [Memory.read, hv]
  | cons d t ih =>
    obtain ⟨j, b⟩ := d
    rw [Memory.wf_cons] at h
    obtain ⟨hb, hj, ht⟩ := h
    simp only [Memory.write]
    split_ifs with h1 hv h2 hv
    · simp [Memory.read, h1, Nat.ne_of_lt h1, hv]
    · simp [Memory.read]
    · rw [Memory.read_of_lt (fun c hc => h2 ▸ hj c hc), hv]
    · simp [Memory.read]
    · simp [Memory.read, h1, h2, ih ht]

theorem Memory.read_write_ne {m : Memory} {a x : Nat} (v : Byte) (h : Memory.wf m = true) (hx : x ≠ a) :
    Memory.read (Memory.write m a v) x = Memory.read m x := by
  induction m with
  | nil => simp only [Memory.write]; split_ifs <;> simp [Memory.read, hx]
  | cons d t ih =>
    obtain ⟨j, b⟩ := d
    rw [Memory.wf_cons] at h
    obtain ⟨hb, hj, ht⟩ := h
    simp only [Memory.write]
    split_ifs with h1 hv h2 hv
    · rfl
    · simp only [Memory.read, hx, if_false]
      split_ifs <;> first | rfl | omega
    · simp only [Memory.read, h2 ▸ hx, if_false]
      split_ifs with h3
      · exact Memory.read_of_lt fun c hc => lt_trans h3 (hj c hc)
      · rfl
    · subst h2; simp [Memory.read, hx]
    · simp only [Memory.read, ih ht]

theorem Memory.read_writeBytes_out (bs : List Byte) {m : Memory} (a : Nat) {x : Nat} (h : Memory.wf m = true)
    (hx : x < a ∨ a + bs.length ≤ x) : Memory.read (Memory.writeBytes m a bs) x = Memory.read m x := by
  induction bs generalizing m a with
  | nil => rfl
  | cons b bs ih =>
    simp only [List.length_cons] at hx
    rw [Memory.writeBytes, ih (a + 1) (Memory.wf_write a b h) (by omega), Memory.read_write_ne b h (by omega)]

theorem Memory.read_writeBytes_in (bs : List Byte) {m : Memory} (a i : Nat) (h : Memory.wf m = true)
    (hi : i < bs.length) : Memory.read (Memory.writeBytes m a bs) (a + i) = bs[i] := by
  induction bs generalizing m a i with
  | nil => simp at hi
  | cons b bs ih =>
    simp only [List.length_cons] at hi
    rw [Memory.writeBytes]
    cases i with
    | zero =>
      rw [Memory.read_writeBytes_out bs (a + 1) (Memory.wf_write a b h) (by omega)]
      exact Memory.read_write_self a b h
    | succ i =>
      rw [show a + (i + 1) = a + 1 + i by omega, ih (a + 1) i (Memory.wf_write a b h) (by omega)]
      rfl

theorem Memory.read_program_out (bs : List Byte) {m : Memory} (a : Nat) {x : Nat} (h : Memory.wf m = true)
    (hx : x < a ∨ a + bs.length ≤ x) : Memory.read (Memory.program m a bs) x = Memory.read m x := by
  induction bs generalizing m a with
  | nil => rfl
  | cons b bs ih =>
    simp only [List.length_cons] at hx
    simp only [Memory.program]
    split_ifs
    · rw [ih (a + 1) (Memory.wf_write a b h) (by omega), Memory.read_write_ne b h (by omega)]
    · exact ih (a + 1) h (by omega)

/-- R180, R181: a byte still erased takes its new value, a programmed byte stays as it is. -/
theorem Memory.read_program_in (bs : List Byte) {m : Memory} (a i : Nat) (h : Memory.wf m = true)
    (hi : i < bs.length) :
    Memory.read (Memory.program m a bs) (a + i)
      = if Memory.read m (a + i) = Memory.erasedByte then bs[i] else Memory.read m (a + i) := by
  induction bs generalizing m a i with
  | nil => simp at hi
  | cons b bs ih =>
    simp only [List.length_cons] at hi
    simp only [Memory.program]
    cases i with
    | zero =>
      split_ifs with h1 h2 h2
      · rw [Memory.read_program_out bs (a + 1) (Memory.wf_write a b h) (by omega)]
        exact Memory.read_write_self a b h
      · exact absurd h1 h2
      · exact absurd h2 h1
      · rw [Memory.read_program_out bs (a + 1) h (by omega)]
    | succ i =>
      have e : a + (i + 1) = a + 1 + i := by omega
      rw [e]
      split_ifs with h1 h2 h2
      · rw [ih (a + 1) i (Memory.wf_write a b h) (by omega), Memory.read_write_ne b h (by omega), if_pos h2]
        rfl
      · rw [ih (a + 1) i (Memory.wf_write a b h) (by omega), Memory.read_write_ne b h (by omega), if_neg h2]
      · rw [ih (a + 1) i h (by omega), if_pos h2]; rfl
      · rw [ih (a + 1) i h (by omega), if_neg h2]

theorem Memory.read_eraseBytes_out {m : Memory} (a n : Nat) {x : Nat} (h : Memory.wf m = true)
    (hx : x < a ∨ a + n ≤ x) : Memory.read (Memory.eraseBytes m a n) x = Memory.read m x := by
  induction m with
  | nil => rfl
  | cons d t ih =>
    obtain ⟨j, b⟩ := d
    rw [Memory.wf_cons] at h
    obtain ⟨hb, hj, ht⟩ := h
    have ih := ih ht
    simp only [Memory.eraseBytes, List.filter_cons] at ih ⊢
    split_ifs with hp
    · simp only [Memory.read, ih]
    · rw [ih]
      have hxj : x ≠ j := by
        rintro rfl
        apply hp
        simp only [Bool.not_eq_true', Bool.and_eq_false_iff, decide_eq_false_iff_not]
        omega
      simp only [Memory.read, hxj, if_false]
      split_ifs with h3
      · exact Memory.read_of_lt fun c hc => lt_trans h3 (hj c hc)
      · rfl

theorem Memory.read_eraseBytes_in {m : Memory} (a n : Nat) {x : Nat} (hx : a ≤ x) (hx' : x < a + n) :
    Memory.read (Memory.eraseBytes m a n) x = Memory.erasedByte := by
  induction m with
  | nil => rfl
  | cons d t ih =>
    obtain ⟨j, b⟩ := d
    simp only [Memory.eraseBytes, List.filter_cons] at ih ⊢
    split_ifs with hp
    · have hxj : x ≠ j := by
        rintro rfl
        simp [hx, hx'] at hp
      simp only [Memory.read, hxj, if_false, ih, ite_self]
    · exact ih

end Sys2Proof.Machine
end

