-- ==== Sys2Proof/Laws/State.lean ====
section
/-! SUPPORT. The small lemmas of the operations on State: what each one leaves in each field. -/

namespace Sys2Proof.Machine

/-! ## reach -/

@[simp] theorem State.reach_pending (s : State) (t : Nat) : (s.reach t).pending = s.pending := rfl
@[simp] theorem State.reach_supply (s : State) (t : Nat) : (s.reach t).supply = s.supply := rfl
@[simp] theorem State.reach_resetHeld (s : State) (t : Nat) : (s.reach t).resetHeld = s.resetHeld := rfl
@[simp] theorem State.reach_station (s : State) (t : Nat) : (s.reach t).station = s.station := rfl
@[simp] theorem State.reach_strap (s : State) (t : Nat) : (s.reach t).strap = s.strap := rfl
@[simp] theorem State.reach_protection (s : State) (t : Nat) : (s.reach t).protection = s.protection := rfl
@[simp] theorem State.reach_cfg (s : State) (t : Nat) : (s.reach t).cfg = s.cfg := rfl
@[simp] theorem State.reach_clampedFields (s : State) (t : Nat) : (s.reach t).clampedFields = s.clampedFields := rfl
@[simp] theorem State.reach_nv (s : State) (t : Nat) : (s.reach t).nv = s.nv := rfl
@[simp] theorem State.reach_map (s : State) (t : Nat) : (s.reach t).map = s.map := rfl
@[simp] theorem State.reach_link (s : State) (t : Nat) : (s.reach t).link = s.link := rfl
@[simp] theorem State.reach_picture (s : State) (t : Nat) : (s.reach t).picture = s.picture := rfl
@[simp] theorem State.reach_heat (s : State) (t : Nat) : (s.reach t).heat = s.heat := rfl
@[simp] theorem State.reach_fields (s : State) (t : Nat) : (s.reach t).fields = s.fields := rfl
@[simp] theorem State.reach_output (s : State) (t : Nat) : (s.reach t).output = s.output := rfl
@[simp] theorem State.reach_channels (s : State) (t : Nat) : (s.reach t).channels = s.channels := rfl
@[simp] theorem State.reach_alarms (s : State) (t : Nat) : (s.reach t).alarms = s.alarms := rfl
@[simp] theorem State.reach_accountant (s : State) (t : Nat) : (s.reach t).accountant = s.accountant := rfl
@[simp] theorem State.reach_store (s : State) (t : Nat) : (s.reach t).store = s.store := rfl
@[simp] theorem State.reach_port (s : State) (t : Nat) : (s.reach t).port = s.port := rfl
@[simp] theorem State.reach_agenda (s : State) (t : Nat) : (s.reach t).agenda = s.agenda := rfl
@[simp] theorem State.reach_mapLog (s : State) (t : Nat) : (s.reach t).mapLog = s.mapLog := rfl
@[simp] theorem State.reach_programNew (s : State) (t : Nat) : (s.reach t).programNew = s.programNew := rfl
@[simp] theorem State.reach_free (s : State) (t : Nat) : (s.reach t).free = s.free := rfl

/-! ## ask -/

@[simp] theorem State.ask_pending (s : State) (r : AlarmRequest) : (s.ask r).pending = s.pending := rfl
@[simp] theorem State.ask_supply (s : State) (r : AlarmRequest) : (s.ask r).supply = s.supply := rfl
@[simp] theorem State.ask_resetHeld (s : State) (r : AlarmRequest) : (s.ask r).resetHeld = s.resetHeld := rfl
@[simp] theorem State.ask_now (s : State) (r : AlarmRequest) : (s.ask r).now = s.now := rfl
@[simp] theorem State.ask_station (s : State) (r : AlarmRequest) : (s.ask r).station = s.station := rfl
@[simp] theorem State.ask_strap (s : State) (r : AlarmRequest) : (s.ask r).strap = s.strap := rfl
@[simp] theorem State.ask_protection (s : State) (r : AlarmRequest) : (s.ask r).protection = s.protection := rfl
@[simp] theorem State.ask_cfg (s : State) (r : AlarmRequest) : (s.ask r).cfg = s.cfg := rfl
@[simp] theorem State.ask_clampedFields (s : State) (r : AlarmRequest) : (s.ask r).clampedFields = s.clampedFields := rfl
@[simp] theorem State.ask_nv (s : State) (r : AlarmRequest) : (s.ask r).nv = s.nv := rfl
@[simp] theorem State.ask_map (s : State) (r : AlarmRequest) : (s.ask r).map = s.map := rfl
@[simp] theorem State.ask_link (s : State) (r : AlarmRequest) : (s.ask r).link = s.link := rfl
@[simp] theorem State.ask_picture (s : State) (r : AlarmRequest) : (s.ask r).picture = s.picture := rfl
@[simp] theorem State.ask_heat (s : State) (r : AlarmRequest) : (s.ask r).heat = s.heat := rfl
@[simp] theorem State.ask_fields (s : State) (r : AlarmRequest) : (s.ask r).fields = s.fields := rfl
@[simp] theorem State.ask_output (s : State) (r : AlarmRequest) : (s.ask r).output = s.output := rfl
@[simp] theorem State.ask_channels (s : State) (r : AlarmRequest) : (s.ask r).channels = s.channels := rfl
@[simp] theorem State.ask_alarms (s : State) (r : AlarmRequest) : (s.ask r).alarms = s.alarms := rfl
@[simp] theorem State.ask_accountant (s : State) (r : AlarmRequest) : (s.ask r).accountant = s.accountant := rfl
@[simp] theorem State.ask_store (s : State) (r : AlarmRequest) : (s.ask r).store = s.store := rfl
@[simp] theorem State.ask_port (s : State) (r : AlarmRequest) : (s.ask r).port = s.port := rfl
@[simp] theorem State.ask_mapLog (s : State) (r : AlarmRequest) : (s.ask r).mapLog = s.mapLog := rfl
@[simp] theorem State.ask_programNew (s : State) (r : AlarmRequest) : (s.ask r).programNew = s.programNew := rfl
@[simp] theorem State.ask_free (s : State) (r : AlarmRequest) : (s.ask r).free = s.free := rfl

/-! ## useFree -/

@[simp] theorem State.useFree_pending (s : State) (n : Nat) : (s.useFree n).pending = s.pending := rfl
@[simp] theorem State.useFree_supply (s : State) (n : Nat) : (s.useFree n).supply = s.supply := rfl
@[simp] theorem State.useFree_resetHeld (s : State) (n : Nat) : (s.useFree n).resetHeld = s.resetHeld := rfl
@[simp] theorem State.useFree_now (s : State) (n : Nat) : (s.useFree n).now = s.now := rfl
@[simp] theorem State.useFree_station (s : State) (n : Nat) : (s.useFree n).station = s.station := rfl
@[simp] theorem State.useFree_strap (s : State) (n : Nat) : (s.useFree n).strap = s.strap := rfl
@[simp] theorem State.useFree_protection (s : State) (n : Nat) : (s.useFree n).protection = s.protection := rfl
@[simp] theorem State.useFree_cfg (s : State) (n : Nat) : (s.useFree n).cfg = s.cfg := rfl
@[simp] theorem State.useFree_clampedFields (s : State) (n : Nat) : (s.useFree n).clampedFields = s.clampedFields := rfl
@[simp] theorem State.useFree_nv (s : State) (n : Nat) : (s.useFree n).nv = s.nv := rfl
@[simp] theorem State.useFree_map (s : State) (n : Nat) : (s.useFree n).map = s.map := rfl
@[simp] theorem State.useFree_link (s : State) (n : Nat) : (s.useFree n).link = s.link := rfl
@[simp] theorem State.useFree_picture (s : State) (n : Nat) : (s.useFree n).picture = s.picture := rfl
@[simp] theorem State.useFree_heat (s : State) (n : Nat) : (s.useFree n).heat = s.heat := rfl
@[simp] theorem State.useFree_fields (s : State) (n : Nat) : (s.useFree n).fields = s.fields := rfl
@[simp] theorem State.useFree_output (s : State) (n : Nat) : (s.useFree n).output = s.output := rfl
@[simp] theorem State.useFree_channels (s : State) (n : Nat) : (s.useFree n).channels = s.channels := rfl
@[simp] theorem State.useFree_alarms (s : State) (n : Nat) : (s.useFree n).alarms = s.alarms := rfl
@[simp] theorem State.useFree_accountant (s : State) (n : Nat) : (s.useFree n).accountant = s.accountant := rfl
@[simp] theorem State.useFree_store (s : State) (n : Nat) : (s.useFree n).store = s.store := rfl
@[simp] theorem State.useFree_port (s : State) (n : Nat) : (s.useFree n).port = s.port := rfl
@[simp] theorem State.useFree_agenda (s : State) (n : Nat) : (s.useFree n).agenda = s.agenda := rfl
@[simp] theorem State.useFree_mapLog (s : State) (n : Nat) : (s.useFree n).mapLog = s.mapLog := rfl
@[simp] theorem State.useFree_programNew (s : State) (n : Nat) : (s.useFree n).programNew = s.programNew := rfl

/-! ## setSlot -/

@[simp] theorem State.setSlot_pending (s : State) (i : Fin 4) (u : SlotUnit) : (s.setSlot i u).pending = s.pending := rfl
@[simp] theorem State.setSlot_supply (s : State) (i : Fin 4) (u : SlotUnit) : (s.setSlot i u).supply = s.supply := rfl
@[simp] theorem State.setSlot_resetHeld (s : State) (i : Fin 4) (u : SlotUnit) : (s.setSlot i u).resetHeld = s.resetHeld := rfl
@[simp] theorem State.setSlot_now (s : State) (i : Fin 4) (u : SlotUnit) : (s.setSlot i u).now = s.now := rfl
@[simp] theorem State.setSlot_station (s : State) (i : Fin 4) (u : SlotUnit) : (s.setSlot i u).station = s.station := rfl
@[simp] theorem State.setSlot_strap (s : State) (i : Fin 4) (u : SlotUnit) : (s.setSlot i u).strap = s.strap := rfl
@[simp] theorem State.setSlot_protection (s : State) (i : Fin 4) (u : SlotUnit) : (s.setSlot i u).protection = s.protection := rfl
@[simp] theorem State.setSlot_cfg (s : State) (i : Fin 4) (u : SlotUnit) : (s.setSlot i u).cfg = s.cfg := rfl
@[simp] theorem State.setSlot_clampedFields (s : State) (i : Fin 4) (u : SlotUnit) : (s.setSlot i u).clampedFields = s.clampedFields := rfl
@[simp] theorem State.setSlot_nv (s : State) (i : Fin 4) (u : SlotUnit) : (s.setSlot i u).nv = s.nv := rfl
@[simp] theorem State.setSlot_map (s : State) (i : Fin 4) (u : SlotUnit) : (s.setSlot i u).map = s.map := rfl
@[simp] theorem State.setSlot_link (s : State) (i : Fin 4) (u : SlotUnit) : (s.setSlot i u).link = s.link := rfl
@[simp] theorem State.setSlot_picture (s : State) (i : Fin 4) (u : SlotUnit) : (s.setSlot i u).picture = s.picture := rfl
@[simp] theorem State.setSlot_heat (s : State) (i : Fin 4) (u : SlotUnit) : (s.setSlot i u).heat = s.heat := rfl
@[simp] theorem State.setSlot_fields (s : State) (i : Fin 4) (u : SlotUnit) : (s.setSlot i u).fields = s.fields := rfl
@[simp] theorem State.setSlot_output (s : State) (i : Fin 4) (u : SlotUnit) : (s.setSlot i u).output = s.output := rfl
@[simp] theorem State.setSlot_alarms (s : State) (i : Fin 4) (u : SlotUnit) : (s.setSlot i u).alarms = s.alarms := rfl
@[simp] theorem State.setSlot_accountant (s : State) (i : Fin 4) (u : SlotUnit) : (s.setSlot i u).accountant = s.accountant := rfl
@[simp] theorem State.setSlot_store (s : State) (i : Fin 4) (u : SlotUnit) : (s.setSlot i u).store = s.store := rfl
@[simp] theorem State.setSlot_port (s : State) (i : Fin 4) (u : SlotUnit) : (s.setSlot i u).port = s.port := rfl
@[simp] theorem State.setSlot_agenda (s : State) (i : Fin 4) (u : SlotUnit) : (s.setSlot i u).agenda = s.agenda := rfl
@[simp] theorem State.setSlot_mapLog (s : State) (i : Fin 4) (u : SlotUnit) : (s.setSlot i u).mapLog = s.mapLog := rfl
@[simp] theorem State.setSlot_programNew (s : State) (i : Fin 4) (u : SlotUnit) : (s.setSlot i u).programNew = s.programNew := rfl
@[simp] theorem State.setSlot_free (s : State) (i : Fin 4) (u : SlotUnit) : (s.setSlot i u).free = s.free := rfl

/-! ## setInput -/

@[simp] theorem State.setInput_pending (s : State) (k : Fin 16) (x : Input) : (s.setInput k x).pending = s.pending := rfl
@[simp] theorem State.setInput_supply (s : State) (k : Fin 16) (x : Input) : (s.setInput k x).supply = s.supply := rfl
@[simp] theorem State.setInput_resetHeld (s : State) (k : Fin 16) (x : Input) : (s.setInput k x).resetHeld = s.resetHeld := rfl
@[simp] theorem State.setInput_now (s : State) (k : Fin 16) (x : Input) : (s.setInput k x).now = s.now := rfl
@[simp] theorem State.setInput_station (s : State) (k : Fin 16) (x : Input) : (s.setInput k x).station = s.station := rfl
@[simp] theorem State.setInput_strap (s : State) (k : Fin 16) (x : Input) : (s.setInput k x).strap = s.strap := rfl
@[simp] theorem State.setInput_protection (s : State) (k : Fin 16) (x : Input) : (s.setInput k x).protection = s.protection := rfl
@[simp] theorem State.setInput_cfg (s : State) (k : Fin 16) (x : Input) : (s.setInput k x).cfg = s.cfg := rfl
@[simp] theorem State.setInput_clampedFields (s : State) (k : Fin 16) (x : Input) : (s.setInput k x).clampedFields = s.clampedFields := rfl
@[simp] theorem State.setInput_nv (s : State) (k : Fin 16) (x : Input) : (s.setInput k x).nv = s.nv := rfl
@[simp] theorem State.setInput_map (s : State) (k : Fin 16) (x : Input) : (s.setInput k x).map = s.map := rfl
@[simp] theorem State.setInput_link (s : State) (k : Fin 16) (x : Input) : (s.setInput k x).link = s.link := rfl
@[simp] theorem State.setInput_picture (s : State) (k : Fin 16) (x : Input) : (s.setInput k x).picture = s.picture := rfl
@[simp] theorem State.setInput_heat (s : State) (k : Fin 16) (x : Input) : (s.setInput k x).heat = s.heat := rfl
@[simp] theorem State.setInput_output (s : State) (k : Fin 16) (x : Input) : (s.setInput k x).output = s.output := rfl
@[simp] theorem State.setInput_channels (s : State) (k : Fin 16) (x : Input) : (s.setInput k x).channels = s.channels := rfl
@[simp] theorem State.setInput_alarms (s : State) (k : Fin 16) (x : Input) : (s.setInput k x).alarms = s.alarms := rfl
@[simp] theorem State.setInput_accountant (s : State) (k : Fin 16) (x : Input) : (s.setInput k x).accountant = s.accountant := rfl
@[simp] theorem State.setInput_store (s : State) (k : Fin 16) (x : Input) : (s.setInput k x).store = s.store := rfl
@[simp] theorem State.setInput_port (s : State) (k : Fin 16) (x : Input) : (s.setInput k x).port = s.port := rfl
@[simp] theorem State.setInput_agenda (s : State) (k : Fin 16) (x : Input) : (s.setInput k x).agenda = s.agenda := rfl
@[simp] theorem State.setInput_mapLog (s : State) (k : Fin 16) (x : Input) : (s.setInput k x).mapLog = s.mapLog := rfl
@[simp] theorem State.setInput_programNew (s : State) (k : Fin 16) (x : Input) : (s.setInput k x).programNew = s.programNew := rfl
@[simp] theorem State.setInput_free (s : State) (k : Fin 16) (x : Input) : (s.setInput k x).free = s.free := rfl

/-! ## setLatch -/

@[simp] theorem State.setLatch_pending (s : State) (o : Fin 8) (l : Latch) : (s.setLatch o l).pending = s.pending := rfl
@[simp] theorem State.setLatch_supply (s : State) (o : Fin 8) (l : Latch) : (s.setLatch o l).supply = s.supply := rfl
@[simp] theorem State.setLatch_resetHeld (s : State) (o : Fin 8) (l : Latch) : (s.setLatch o l).resetHeld = s.resetHeld := rfl
@[simp] theorem State.setLatch_now (s : State) (o : Fin 8) (l : Latch) : (s.setLatch o l).now = s.now := rfl
@[simp] theorem State.setLatch_station (s : State) (o : Fin 8) (l : Latch) : (s.setLatch o l).station = s.station := rfl
@[simp] theorem State.setLatch_strap (s : State) (o : Fin 8) (l : Latch) : (s.setLatch o l).strap = s.strap := rfl
@[simp] theorem State.setLatch_protection (s : State) (o : Fin 8) (l : Latch) : (s.setLatch o l).protection = s.protection := rfl
@[simp] theorem State.setLatch_cfg (s : State) (o : Fin 8) (l : Latch) : (s.setLatch o l).cfg = s.cfg := rfl
@[simp] theorem State.setLatch_clampedFields (s : State) (o : Fin 8) (l : Latch) : (s.setLatch o l).clampedFields = s.clampedFields := rfl
@[simp] theorem State.setLatch_nv (s : State) (o : Fin 8) (l : Latch) : (s.setLatch o l).nv = s.nv := rfl
@[simp] theorem State.setLatch_map (s : State) (o : Fin 8) (l : Latch) : (s.setLatch o l).map = s.map := rfl
@[simp] theorem State.setLatch_link (s : State) (o : Fin 8) (l : Latch) : (s.setLatch o l).link = s.link := rfl
@[simp] theorem State.setLatch_picture (s : State) (o : Fin 8) (l : Latch) : (s.setLatch o l).picture = s.picture := rfl
@[simp] theorem State.setLatch_heat (s : State) (o : Fin 8) (l : Latch) : (s.setLatch o l).heat = s.heat := rfl
@[simp] theorem State.setLatch_fields (s : State) (o : Fin 8) (l : Latch) : (s.setLatch o l).fields = s.fields := rfl
@[simp] theorem State.setLatch_channels (s : State) (o : Fin 8) (l : Latch) : (s.setLatch o l).channels = s.channels := rfl
@[simp] theorem State.setLatch_alarms (s : State) (o : Fin 8) (l : Latch) : (s.setLatch o l).alarms = s.alarms := rfl
@[simp] theorem State.setLatch_accountant (s : State) (o : Fin 8) (l : Latch) : (s.setLatch o l).accountant = s.accountant := rfl
@[simp] theorem State.setLatch_store (s : State) (o : Fin 8) (l : Latch) : (s.setLatch o l).store = s.store := rfl
@[simp] theorem State.setLatch_port (s : State) (o : Fin 8) (l : Latch) : (s.setLatch o l).port = s.port := rfl
@[simp] theorem State.setLatch_agenda (s : State) (o : Fin 8) (l : Latch) : (s.setLatch o l).agenda = s.agenda := rfl
@[simp] theorem State.setLatch_mapLog (s : State) (o : Fin 8) (l : Latch) : (s.setLatch o l).mapLog = s.mapLog := rfl
@[simp] theorem State.setLatch_programNew (s : State) (o : Fin 8) (l : Latch) : (s.setLatch o l).programNew = s.programNew := rfl
@[simp] theorem State.setLatch_free (s : State) (o : Fin 8) (l : Latch) : (s.setLatch o l).free = s.free := rfl

/-! ## writeGranule -/

@[simp] theorem State.writeGranule_pending (s : State) (g : Fin 128) (v : Granule) : (s.writeGranule g v).pending = s.pending := rfl
@[simp] theorem State.writeGranule_supply (s : State) (g : Fin 128) (v : Granule) : (s.writeGranule g v).supply = s.supply := rfl
@[simp] theorem State.writeGranule_resetHeld (s : State) (g : Fin 128) (v : Granule) : (s.writeGranule g v).resetHeld = s.resetHeld := rfl
@[simp] theorem State.writeGranule_now (s : State) (g : Fin 128) (v : Granule) : (s.writeGranule g v).now = s.now := rfl
@[simp] theorem State.writeGranule_station (s : State) (g : Fin 128) (v : Granule) : (s.writeGranule g v).station = s.station := rfl
@[simp] theorem State.writeGranule_strap (s : State) (g : Fin 128) (v : Granule) : (s.writeGranule g v).strap = s.strap := rfl
@[simp] theorem State.writeGranule_protection (s : State) (g : Fin 128) (v : Granule) : (s.writeGranule g v).protection = s.protection := rfl
@[simp] theorem State.writeGranule_cfg (s : State) (g : Fin 128) (v : Granule) : (s.writeGranule g v).cfg = s.cfg := rfl
@[simp] theorem State.writeGranule_clampedFields (s : State) (g : Fin 128) (v : Granule) : (s.writeGranule g v).clampedFields = s.clampedFields := rfl
@[simp] theorem State.writeGranule_nv (s : State) (g : Fin 128) (v : Granule) : (s.writeGranule g v).nv = s.nv := rfl
@[simp] theorem State.writeGranule_link (s : State) (g : Fin 128) (v : Granule) : (s.writeGranule g v).link = s.link := rfl
@[simp] theorem State.writeGranule_picture (s : State) (g : Fin 128) (v : Granule) : (s.writeGranule g v).picture = s.picture := rfl
@[simp] theorem State.writeGranule_heat (s : State) (g : Fin 128) (v : Granule) : (s.writeGranule g v).heat = s.heat := rfl
@[simp] theorem State.writeGranule_fields (s : State) (g : Fin 128) (v : Granule) : (s.writeGranule g v).fields = s.fields := rfl
@[simp] theorem State.writeGranule_output (s : State) (g : Fin 128) (v : Granule) : (s.writeGranule g v).output = s.output := rfl
@[simp] theorem State.writeGranule_channels (s : State) (g : Fin 128) (v : Granule) : (s.writeGranule g v).channels = s.channels := rfl
@[simp] theorem State.writeGranule_alarms (s : State) (g : Fin 128) (v : Granule) : (s.writeGranule g v).alarms = s.alarms := rfl
@[simp] theorem State.writeGranule_accountant (s : State) (g : Fin 128) (v : Granule) : (s.writeGranule g v).accountant = s.accountant := rfl
@[simp] theorem State.writeGranule_store (s : State) (g : Fin 128) (v : Granule) : (s.writeGranule g v).store = s.store := rfl
@[simp] theorem State.writeGranule_port (s : State) (g : Fin 128) (v : Granule) : (s.writeGranule g v).port = s.port := rfl
@[simp] theorem State.writeGranule_agenda (s : State) (g : Fin 128) (v : Granule) : (s.writeGranule g v).agenda = s.agenda := rfl
@[simp] theorem State.writeGranule_programNew (s : State) (g : Fin 128) (v : Granule) : (s.writeGranule g v).programNew = s.programNew := rfl
@[simp] theorem State.writeGranule_free (s : State) (g : Fin 128) (v : Granule) : (s.writeGranule g v).free = s.free := rfl

/-! ## writeDir -/

@[simp] theorem State.writeDir_pending (s : State) (e : Fin 32) (v : DirEntry) : (s.writeDir e v).pending = s.pending := rfl
@[simp] theorem State.writeDir_supply (s : State) (e : Fin 32) (v : DirEntry) : (s.writeDir e v).supply = s.supply := rfl
@[simp] theorem State.writeDir_resetHeld (s : State) (e : Fin 32) (v : DirEntry) : (s.writeDir e v).resetHeld = s.resetHeld := rfl
@[simp] theorem State.writeDir_now (s : State) (e : Fin 32) (v : DirEntry) : (s.writeDir e v).now = s.now := rfl
@[simp] theorem State.writeDir_station (s : State) (e : Fin 32) (v : DirEntry) : (s.writeDir e v).station = s.station := rfl
@[simp] theorem State.writeDir_strap (s : State) (e : Fin 32) (v : DirEntry) : (s.writeDir e v).strap = s.strap := rfl
@[simp] theorem State.writeDir_protection (s : State) (e : Fin 32) (v : DirEntry) : (s.writeDir e v).protection = s.protection := rfl
@[simp] theorem State.writeDir_cfg (s : State) (e : Fin 32) (v : DirEntry) : (s.writeDir e v).cfg = s.cfg := rfl
@[simp] theorem State.writeDir_clampedFields (s : State) (e : Fin 32) (v : DirEntry) : (s.writeDir e v).clampedFields = s.clampedFields := rfl
@[simp] theorem State.writeDir_nv (s : State) (e : Fin 32) (v : DirEntry) : (s.writeDir e v).nv = s.nv := rfl
@[simp] theorem State.writeDir_link (s : State) (e : Fin 32) (v : DirEntry) : (s.writeDir e v).link = s.link := rfl
@[simp] theorem State.writeDir_picture (s : State) (e : Fin 32) (v : DirEntry) : (s.writeDir e v).picture = s.picture := rfl
@[simp] theorem State.writeDir_heat (s : State) (e : Fin 32) (v : DirEntry) : (s.writeDir e v).heat = s.heat := rfl
@[simp] theorem State.writeDir_fields (s : State) (e : Fin 32) (v : DirEntry) : (s.writeDir e v).fields = s.fields := rfl
@[simp] theorem State.writeDir_output (s : State) (e : Fin 32) (v : DirEntry) : (s.writeDir e v).output = s.output := rfl
@[simp] theorem State.writeDir_channels (s : State) (e : Fin 32) (v : DirEntry) : (s.writeDir e v).channels = s.channels := rfl
@[simp] theorem State.writeDir_alarms (s : State) (e : Fin 32) (v : DirEntry) : (s.writeDir e v).alarms = s.alarms := rfl
@[simp] theorem State.writeDir_accountant (s : State) (e : Fin 32) (v : DirEntry) : (s.writeDir e v).accountant = s.accountant := rfl
@[simp] theorem State.writeDir_store (s : State) (e : Fin 32) (v : DirEntry) : (s.writeDir e v).store = s.store := rfl
@[simp] theorem State.writeDir_port (s : State) (e : Fin 32) (v : DirEntry) : (s.writeDir e v).port = s.port := rfl
@[simp] theorem State.writeDir_agenda (s : State) (e : Fin 32) (v : DirEntry) : (s.writeDir e v).agenda = s.agenda := rfl
@[simp] theorem State.writeDir_programNew (s : State) (e : Fin 32) (v : DirEntry) : (s.writeDir e v).programNew = s.programNew := rfl
@[simp] theorem State.writeDir_free (s : State) (e : Fin 32) (v : DirEntry) : (s.writeDir e v).free = s.free := rfl

/-! ## The changed field of each operation -/

@[simp] theorem State.reach_now (s : State) (t : Nat) : (s.reach t).now = max s.now t := rfl
@[simp] theorem State.ask_agenda (s : State) (r : AlarmRequest) : (s.ask r).agenda = s.agenda ++ [r] := rfl
@[simp] theorem State.useFree_free (s : State) (n : Nat) : (s.useFree n).free = s.free + n := rfl
@[simp] theorem State.setSlot_channels (s : State) (i : Fin 4) (u : SlotUnit) :
    (s.setSlot i u).channels = { s.channels with slots := s.channels.slots.set i u } := rfl
@[simp] theorem State.setInput_fields (s : State) (k : Fin 16) (x : Input) :
    (s.setInput k x).fields = { s.fields with inputs := s.fields.inputs.set k x } := rfl
@[simp] theorem State.setLatch_output (s : State) (o : Fin 8) (l : Latch) :
    (s.setLatch o l).output = { s.output with latches := s.output.latches.set o l } := rfl
@[simp] theorem State.writeGranule_map (s : State) (g : Fin 128) (v : Granule) :
    (s.writeGranule g v).map = { s.map with alloc := s.map.alloc.set g v } := rfl
@[simp] theorem State.writeDir_map (s : State) (e : Fin 32) (v : DirEntry) :
    (s.writeDir e v).map = { s.map with dir := s.map.dir.set e v } := rfl

/-! ## Reading back what an operation wrote -/

@[simp] theorem State.setSlot_slot_self (s : State) (i : Fin 4) (u : SlotUnit) : (s.setSlot i u).slot i = u := by
  simp [State.slot]

theorem State.setSlot_slot_ne (s : State) (i j : Fin 4) (u : SlotUnit) (h : j ≠ i) :
    (s.setSlot i u).slot j = s.slot j := by
  have : i.val ≠ j.val := fun e => h (Fin.ext e.symm)
  simp [State.slot, Vector.getElem_set_ne, this]

@[simp] theorem State.setInput_input_self (s : State) (k : Fin 16) (x : Input) : (s.setInput k x).input k = x := by
  simp [State.input]

theorem State.setInput_input_ne (s : State) (k j : Fin 16) (x : Input) (h : j ≠ k) :
    (s.setInput k x).input j = s.input j := by
  have : k.val ≠ j.val := fun e => h (Fin.ext e.symm)
  simp [State.input, Vector.getElem_set_ne, this]

@[simp] theorem State.setLatch_latch_self (s : State) (o : Fin 8) (l : Latch) : (s.setLatch o l).latch o = l := by
  simp [State.latch]

theorem State.setLatch_latch_ne (s : State) (o j : Fin 8) (l : Latch) (h : j ≠ o) :
    (s.setLatch o l).latch j = s.latch j := by
  have : o.val ≠ j.val := fun e => h (Fin.ext e.symm)
  simp [State.latch, Vector.getElem_set_ne, this]

@[simp] theorem State.writeDir_dir_self (s : State) (e : Fin 32) (v : DirEntry) : (s.writeDir e v).dir e = v := by
  simp [State.dir]

theorem State.writeDir_dir_ne (s : State) (e f : Fin 32) (v : DirEntry) (h : f ≠ e) :
    (s.writeDir e v).dir f = s.dir f := by
  have : e.val ≠ f.val := fun x => h (Fin.ext x.symm)
  simp [State.dir, Vector.getElem_set_ne, this]

/-! ## The running number of the store (R167, R168) -/

@[simp] theorem State.nextNumber_seq (s : State) : s.nextNumber.store.seq = s.store.seq + 1 := rfl
@[simp] theorem State.nextNumber_queue (s : State) : s.nextNumber.store.queue = s.store.queue := rfl
@[simp] theorem State.nextNumber_map (s : State) : s.nextNumber.map = s.map := rfl
@[simp] theorem State.nextNumber_aux (s : State) (e : Fin 32) : s.nextNumber.aux e = s.aux e := rfl
@[simp] theorem State.nextNumber_dir (s : State) (e : Fin 32) : s.nextNumber.dir e = s.dir e := rfl
@[simp] theorem State.nextNumber_agenda (s : State) : s.nextNumber.agenda = s.agenda := rfl

/-! ## RUN left (R14, R15) -/

@[simp] theorem State.leaveRun_access (s : State) : s.leaveRun.link.access = .idle := rfl
@[simp] theorem State.leaveRun_backoff (s : State) : s.leaveRun.link.backoff = 0 := rfl
@[simp] theorem State.leaveRun_sendingEntry (s : State) : s.leaveRun.link.sendingEntry = none := rfl

/-- Outside SENDING the link keeps all but its access state and its wait as the station leaves RUN. -/
theorem State.leaveRun_link {s : State} (h : s.link.access ≠ .sending) :
    s.leaveRun.link = { s.link with access := .idle, backoff := 0, sendingEntry := none } := by
  simp [State.leaveRun, h]

/-! ## The next file step (R167) -/

/-- The step to be written is the first pending step of one of the entries looked at, and its conditions allow it. -/
theorem State.nextStep_spec {s : State} {l : List (Fin 32)} {x : Fin 32 × FileStep × Nat} (h : s.nextStep l = some x) :
    x.1 ∈ l ∧ (∃ rest, (s.aux x.1).steps = x.2 :: rest) ∧ s.stepAllowed x.1 x.2 = true := by
  induction l generalizing x with
  | nil => simp [State.nextStep] at h
  | cons e es ih =>
    unfold State.nextStep at h
    split at h
    · exact (ih h).imp (List.mem_cons_of_mem _) id
    · rename_i st rest hs
      split at h
      · rename_i ha
        cases h
        unfold earlierStep
        split
        · exact ⟨List.mem_cons_self, ⟨rest, hs⟩, ha⟩
        · rename_i y hy
          split
          · exact ⟨List.mem_cons_self, ⟨rest, hs⟩, ha⟩
          · exact (ih hy).imp (List.mem_cons_of_mem _) id
      · exact (ih h).imp (List.mem_cons_of_mem _) id

end Sys2Proof.Machine
end

