-- ==== Sys2Proof/Laws/Still.lean ====
section
/-! SUPPORT. What the work of the transmit queue, the report store, the drive outputs, the slots and the alarm unit never
touches: `State.still`, with one lemma for each of their operations, so that what a command does to these parts is
not hidden by the requests that the alarm unit settles after it. -/

namespace Sys2Proof.Machine

/-- The parts that no operation of the link's transmit side, the store, the outputs, the slots and the alarm unit
changes: neither the settling of alarm requests nor a slot's change of state. -/
structure Still where
  pending : List Instr
  supply : Bool
  resetHeld : Bool
  now : Nat
  station : StationState
  strap : Bool
  protection : Protection
  cfg : Option Cfg
  clampedFields : Nat
  nv : Nonvolatile
  picture : Picture
  heat : Heat
  fields : Fields
  writeEnable : Bool
  lastResult : Result
  commandsDiscarded : Nat
  window : Option (Fin 32 × Bool × Nat)
  buffer : List Byte
  reading : Bool
  response : List Byte
  observed : Bool
  class1Carry : Nat
  duplicateDue : Option Nat
  silenceDue : Option Nat
  exhaustionCause : Bool
  silenceCause : Bool
  discardsInRow : Nat
  contention : Nat
  received : List Nat
  writes : List Nat
  streaming : Bool
  refreshDue : Option Nat
  calibrationUnusable : Nat
  feedMarkMismatches : Nat
  area : Option AreaOp
  estimate : Nat
  rawRate : Nat
  updating : Bool
  inHand : Vector (Option Nat) 4
  shift : Option Serial
  shiftDue : Option Nat
  collating : Option Serial
  collationDue : Option Nat
  collated : List Nat
  file : Option (Fin 32)
  collFile : Option (Fin 32)
  restartDue : Bool
  lineStart : Bool
  shiftCounters : ShiftCounters
  clinker : Nat
  clinkerRem : Nat
  class1Seconds : Nat
deriving DecidableEq, Repr

/-- The link counters that no offer changes. -/
def LinkCounters.received (c : LinkCounters) : List Nat :=
  [c.accepted, c.badCheck, c.badLength, c.badOrigin, c.unknownKind, c.lengthMismatch, c.ownOrigin, c.sent, c.collisions,
   c.exhaustionDiscards]

@[simp] theorem LinkCounters.drop_received (c : LinkCounters) (n : Notice) : (c.drop n).received = c.received := by
  unfold LinkCounters.drop; split <;> rfl

/-- The parts of a state that stay. -/
def State.still (s : State) : Still where
  pending := s.pending
  supply := s.supply
  resetHeld := s.resetHeld
  now := s.now
  station := s.station
  strap := s.strap
  protection := s.protection
  cfg := s.cfg
  clampedFields := s.clampedFields
  nv := s.nv
  picture := s.picture
  heat := s.heat
  fields := s.fields
  writeEnable := s.port.writeEnable
  lastResult := s.port.lastResult
  commandsDiscarded := s.port.commandsDiscarded
  window := s.port.window.map fun w => (w.entry, w.fixed, w.offset)
  buffer := s.port.buffer
  reading := s.port.reading
  response := s.port.response
  observed := s.alarms.observed
  class1Carry := s.alarms.class1Carry
  duplicateDue := s.link.duplicateDue
  silenceDue := s.link.silenceDue
  exhaustionCause := s.link.exhaustionCause
  silenceCause := s.link.silenceCause
  discardsInRow := s.link.discardsInRow
  contention := s.link.window
  received := s.link.counters.received
  writes := [s.store.counters.programFailures, s.store.counters.erases, s.store.counters.eraseFailures,
    s.store.counters.orphans, s.store.counters.chainsRepaired]
  streaming := s.output.streaming
  refreshDue := s.output.refreshDue
  calibrationUnusable := s.output.calibrationUnusable
  feedMarkMismatches := s.output.feedMarkMismatches
  area := s.store.area
  estimate := s.channels.estimate
  rawRate := s.channels.rawRate
  updating := s.channels.updating
  inHand := s.channels.inHand
  shift := s.accountant.shift
  shiftDue := s.accountant.shiftDue
  collating := s.accountant.collating
  collationDue := s.accountant.collationDue
  collated := s.accountant.collated
  file := s.accountant.file
  collFile := s.accountant.collFile
  restartDue := s.accountant.restartDue
  lineStart := s.accountant.lineStart
  shiftCounters := s.accountant.counters
  clinker := s.accountant.clinker
  clinkerRem := s.accountant.clinkerRem
  class1Seconds := s.accountant.class1Seconds

/-! ## The plain operations -/

@[simp] theorem State.ask_still (s : State) (r : AlarmRequest) : (s.ask r).still = s.still := rfl
@[simp] theorem State.useFree_still (s : State) (n : Nat) : (s.useFree n).still = s.still := rfl
@[simp] theorem State.setSlot_still (s : State) (i : Fin 4) (u : SlotUnit) : (s.setSlot i u).still = s.still := rfl
@[simp] theorem State.setLatch_still (s : State) (o : Fin 8) (l : Latch) : (s.setLatch o l).still = s.still := rfl
@[simp] theorem State.writeGranule_still (s : State) (g : Fin 128) (v : Granule) : (s.writeGranule g v).still = s.still := rfl
@[simp] theorem State.writeDir_still (s : State) (e : Fin 32) (v : DirEntry) : (s.writeDir e v).still = s.still := rfl
@[simp] theorem State.setAux_still (s : State) (e : Fin 32) (x : FileAux) : (s.setAux e x).still = s.still := rfl
theorem State.countStore_still (s : State) (f : StoreCounters → StoreCounters)
    (h : ∀ c, (f c).programFailures = c.programFailures ∧ (f c).erases = c.erases ∧ (f c).eraseFailures = c.eraseFailures ∧
      (f c).orphans = c.orphans ∧ (f c).chainsRepaired = c.chainsRepaired) : (s.countStore f).still = s.still := by
  obtain ⟨h1, h2, h3, h4, h5⟩ := h s.store.counters
  simp [State.countStore, State.still, h1, h2, h3, h4, h5]

@[simp] theorem State.queueDrops_still (s : State) :
    (s.countStore fun c => { c with queueDrops := up16 c.queueDrops }).still = s.still := rfl
@[simp] theorem State.refusedAppends_still (s : State) :
    (s.countStore fun c => { c with refusedAppends := up16 c.refusedAppends }).still = s.still := rfl
@[simp] theorem State.links_still (s : State) :
    (s.countStore fun c => { c with links := up16 c.links }).still = s.still := rfl
@[simp] theorem State.reclaims_still (s : State) :
    (s.countStore fun c => { c with reclaims := up16 c.reclaims }).still = s.still := rfl
@[simp] theorem State.suspensions_still (s : State) :
    (s.countStore fun c => { c with suspensions := up16 c.suspensions }).still = s.still := rfl
@[simp] theorem State.setAcc_still (s : State) (i : Fin 4) (a : SlotAcc) (b : Bool) : (s.setAcc i a b).still = s.still := rfl
@[simp] theorem State.still_agenda (s : State) (a : List AlarmRequest) : ({ s with agenda := a } : State).still = s.still := rfl
@[simp] theorem State.still_slots (s : State) (v : Vector SlotUnit 4) :
    ({ s with channels := { s.channels with slots := v } } : State).still = s.still := rfl
@[simp] theorem State.still_noticed (s : State) (v : Vector Bool 4) :
    ({ s with channels := { s.channels with noticed := v } } : State).still = s.still := rfl
@[simp] theorem State.still_leftOff (s : State) (v : Vector Bool 4) :
    ({ s with channels := { s.channels with leftOff := v } } : State).still = s.still := rfl

@[simp] theorem Alarms.replace_observed (a : Alarms) (e : AlarmEntry) : (a.replace e).observed = a.observed := rfl
@[simp] theorem Alarms.replace_class1Carry (a : Alarms) (e : AlarmEntry) : (a.replace e).class1Carry = a.class1Carry := rfl
@[simp] theorem Alarms.supersede_observed (a : Alarms) : a.supersede.observed = a.observed := rfl
@[simp] theorem Alarms.supersede_class1Carry (a : Alarms) : a.supersede.class1Carry = a.class1Carry := rfl
@[simp] theorem Alarms.retryPush_observed (a : Alarms) (n : Notice) : (a.retryPush n).observed = a.observed := by
  unfold Alarms.retryPush; split <;> rfl
@[simp] theorem Alarms.retryPush_class1Carry (a : Alarms) (n : Notice) : (a.retryPush n).class1Carry = a.class1Carry := by
  unfold Alarms.retryPush; split <;> rfl

/-! ## The transmit side of the link -/

@[simp] theorem State.handBack_still (s : State) (n : Notice) : (s.handBack n).still = s.still := by
  unfold State.handBack; repeat' split
  all_goals simp [State.still]

theorem Link.enter_kept (l : Link) (n : Notice) :
    (l.enter n).1.duplicateDue = l.duplicateDue ∧ (l.enter n).1.silenceDue = l.silenceDue ∧
    (l.enter n).1.exhaustionCause = l.exhaustionCause ∧ (l.enter n).1.silenceCause = l.silenceCause ∧
    (l.enter n).1.discardsInRow = l.discardsInRow ∧ (l.enter n).1.window = l.window ∧
    (l.enter n).1.counters.received = l.counters.received := by
  unfold Link.enter; repeat' split
  all_goals simp [Link.insert]
  all_goals rfl

@[simp] theorem State.enterBackoff_still (s : State) : s.enterBackoff.still = s.still := by
  unfold State.enterBackoff; repeat' split
  all_goals simp [State.still, Link.send]

@[simp] theorem State.kickAccess_still (s : State) : s.kickAccess.still = s.still := by
  unfold State.kickAccess; repeat' split
  all_goals simp
  simp [State.still]

@[simp] theorem State.offer_still (s : State) (n : Notice) : (s.offer n).still = s.still := by
  have h : ({ s with link := (s.link.enter n).1 } : State).still = s.still := by
    obtain ⟨h1, h2, h3, h4, h5, h6, h7⟩ := s.link.enter_kept n
    simp [State.still, h1, h2, h3, h4, h5, h6, h7]
  unfold State.offer
  simp only
  repeat' split
  all_goals simp [h]
  simp [State.still]

@[simp] theorem State.reoffer_still (s : State) (n : Notice) : (s.reoffer n).still = s.still := by
  simp [State.reoffer]; rfl

@[simp] theorem State.reofferAlarm_still (s : State) (k : AlarmEntry) : (s.reofferAlarm k).still = s.still := by
  unfold State.reofferAlarm; repeat' split
  all_goals simp
  rfl

@[simp] theorem State.reofferAck_still (s : State) (k : AlarmEntry) : (s.reofferAck k).still = s.still := by
  unfold State.reofferAck; repeat' split
  all_goals simp
  rfl

@[simp] theorem State.reofferRetry_still (n : Nat) (s : State) : (s.reofferRetry n).still = s.still := by
  induction n generalizing s with
  | zero => rfl
  | succ n ih =>
    unfold State.reofferRetry
    split
    · rfl
    · simp [ih]; rfl

/-- Folding an operation that keeps the still parts keeps them. -/
theorem foldl_still {α : Type} (f : State → α → State) (h : ∀ s a, (f s a).still = s.still) (l : List α) (s : State) :
    (l.foldl f s).still = s.still := by
  induction l generalizing s with
  | nil => rfl
  | cons a l ih => rw [List.foldl_cons, ih, h]

theorem eachSlot_still {f : State → Fin 4 → State} (h : ∀ s i, (f s i).still = s.still) (s : State) :
    (s.eachSlot f).still = s.still := by
  simp [State.eachSlot, h]

@[simp] theorem State.room_still (s : State) : s.room.still = s.still := by
  unfold State.room
  rw [State.reofferRetry_still, foldl_still]
  intro s a; simp

/-! ## The report store -/

@[simp] theorem State.takeOut_still (s : State) (p : QRecord → Bool) : (s.takeOut p).still = s.still := rfl

@[simp] theorem State.dropRecord_still (s : State) (r : QRecord) : (s.dropRecord r).still = s.still := by
  unfold State.dropRecord
  simp only [State.ask_still, State.queueDrops_still]
  repeat' split
  all_goals rfl

@[simp] theorem State.dequeue_still (s : State) (p : QRecord → Bool) : (s.dequeue p).still = s.still := by
  unfold State.dequeue
  simp only [apply_ite State.still, State.ask_still, ite_self]
  rfl

@[simp] theorem State.clearStoreFull_still (s : State) : s.clearStoreFull.still = s.still := by
  unfold State.clearStoreFull; split <;> simp

@[simp] theorem State.reclaimFile_still (s : State) (e : Fin 32) : (s.reclaimFile e).still = s.still := by
  have h : ∀ t : State, ({ t with port := { t.port with
      window := t.port.window.map fun (w : ReadWindow) => if w.entry = e then { w with dead := true } else w } } : State).still
      = t.still := by
    intro t
    simp only [State.still, Option.map_map]
    congr 2
    funext w
    simp only [Function.comp]
    split <;> rfl
  unfold State.reclaimFile
  simp only
  rw [State.clearStoreFull_still, h, State.reclaims_still, foldl_still, State.writeDir_still]
  intro s a; simp

theorem State.reclaim_still {s t : State} (h : s.reclaim = some t) : t.still = s.still := by
  unfold State.reclaim at h
  obtain ⟨e, _, rfl⟩ := Option.map_eq_some_iff.1 h
  simp

@[simp] theorem State.linkGranule_still (s : State) (e : Fin 32) (g : Fin 128) : (s.linkGranule e g).still = s.still := by
  unfold State.linkGranule; simp only; split <;> simp

@[simp] theorem State.widenLast_still (s : State) (e : Fin 32) (p : Nat) : (s.widenLast e p).still = s.still := by
  unfold State.widenLast; repeat' split
  all_goals simp

@[simp] theorem State.startProgram_still (s : State) (e : Fin 32) (p : Place) (rs : List QRecord) :
    (s.startProgram e p rs).still = s.still := by
  rw [← State.widenLast_still s e p.page]; rfl

@[simp] theorem State.programFrom_still (s : State) (e : Fin 32) (r : QRecord) (f : List QRecord) :
    (s.programFrom e r f).still = s.still := by
  unfold State.programFrom; simp only; rw [State.startProgram_still]; repeat' split
  all_goals simp

@[simp] theorem State.startErase_still (s : State) (g : Fin 128) : (s.startErase g).still = s.still := rfl

@[simp] theorem State.dropHead_still (s : State) (r : QRecord) : (s.dropHead r).still = s.still := by
  unfold State.dropHead; simp only; split <;> simp

@[simp] theorem State.chooseIdle_still (s : State) : s.chooseIdle.1.still = s.still := by
  unfold State.chooseIdle; repeat' split
  all_goals simp
  exact State.reclaim_still ‹_›

@[simp] theorem State.serveSuspended_still (s : State) : s.serveSuspended.still = s.still := by
  unfold State.serveSuspended; repeat' split
  all_goals simp

@[simp] theorem State.chooseErasing_still (s : State) (x : EraseOp) : (s.chooseErasing x).still = s.still := by
  unfold State.chooseErasing; repeat' split
  all_goals simp
  all_goals rfl

@[simp] theorem State.engineStep_still (s : State) : s.engineStep.1.still = s.still := by
  unfold State.engineStep; repeat' split
  all_goals simp

@[simp] theorem State.writeStep_still (s : State) (e : Fin 32) (st : FileStep) : (s.writeStep e st).still = s.still := by
  unfold State.writeStep; split <;> simp

@[simp] theorem State.takeStep_still (s : State) (e : Fin 32) (st : FileStep) : (s.takeStep e st).still = s.still := by
  unfold State.takeStep; simp

theorem State.stepOnce_still {s t : State} (h : s.stepOnce = some t) : t.still = s.still := by
  unfold State.stepOnce at h
  split at h
  · cases h
  · cases h; simp

@[simp] theorem State.runSteps_still (n : Nat) (s : State) : (s.runSteps n).still = s.still := by
  induction n generalizing s with
  | zero => rfl
  | succ n ih =>
    unfold State.runSteps
    split
    · rfl
    · rw [ih]; exact State.stepOnce_still ‹_›

@[simp] theorem State.storeLoop_still (n : Nat) (s : State) : (s.storeLoop n).still = s.still := by
  induction n generalizing s with
  | zero => rfl
  | succ n ih =>
    unfold State.storeLoop
    simp only
    split
    · rw [ih]; simp
    · simp

@[simp] theorem State.runStore_still (s : State) : s.runStore.still = s.still := State.storeLoop_still 64 s

@[simp] theorem State.enqueue_still (s : State) (r : QRecord) : (s.enqueue r).still = s.still := rfl

@[simp] theorem State.takeRecord_still (s : State) (r : QRecord) : (s.takeRecord r).still = s.still := by
  unfold State.takeRecord; repeat' split
  all_goals simp
  rfl

@[simp] theorem State.nextNumber_still (s : State) : s.nextNumber.still = s.still := rfl

@[simp] theorem State.append_still (s : State) (type : RecordType) (rest : List Byte) (b : Binding) (p q : Bool) :
    (s.append type rest b p q).still = s.still := by
  unfold State.append; split <;> simp

@[simp] theorem State.bindNext_still (s : State) (e : Fin 32) : (s.bindNext e).still = s.still := rfl

@[simp] theorem State.reserve_still (s : State) (e : Fin 32) (n : Serial) : (s.reserve e n).still = s.still := by
  simp [State.reserve]

@[simp] theorem State.openFails_still (s : State) : s.openFails.still = s.still := by
  unfold State.openFails
  rw [foldl_still]
  · rfl
  · intro s r; simp

@[simp] theorem State.openFile_still (s : State) (n : Serial) : (s.openFile n).1.still = s.still := by
  unfold State.openFile
  split
  · simp
  · split
    · simp
    · rename_i h
      have := State.reclaim_still h
      split <;> simp [this]

@[simp] theorem State.requestStep_still (s : State) (f : Option (Fin 32)) (st : FileStep) :
    (s.requestStep f st).still = s.still := by
  unfold State.requestStep; repeat' split
  all_goals simp

@[simp] theorem State.resumeFile_still (s : State) (e : Fin 32) (age : Nat) : (s.resumeFile e age).still = s.still := by
  unfold State.resumeFile; simp only; split <;> simp

@[simp] theorem State.lateSummary_still (s : State) (f : Option (Fin 32)) : (s.lateSummary f).still = s.still := by
  unfold State.lateSummary; repeat' split
  all_goals simp

/-! ## Postings -/

@[simp] theorem State.postMass_still (s : State) (i : Fin 4) (n : Nat) : (s.postMass i n).still = s.still := rfl
@[simp] theorem State.postHeat_still (s : State) (i : Fin 4) (n : Nat) : (s.postHeat i n).still = s.still := rfl
@[simp] theorem State.postRunning_still (s : State) (i : Fin 4) (n : Nat) : (s.postRunning i n).still = s.still := rfl
@[simp] theorem State.postTripped_still (s : State) (i : Fin 4) (n : Nat) : (s.postTripped i n).still = s.still := rfl
@[simp] theorem State.postDeviation_still (s : State) (i : Fin 4) : (s.postDeviation i).still = s.still := rfl
@[simp] theorem State.postDivertedWeight_still (s : State) (i : Fin 4) : (s.postDivertedWeight i).still = s.still := rfl
@[simp] theorem State.postDivertedFull_still (s : State) (i : Fin 4) : (s.postDivertedFull i).still = s.still := rfl
@[simp] theorem State.postLost_still (s : State) (i : Fin 4) : (s.postLost i).still = s.still := rfl
@[simp] theorem State.postJam_still (s : State) (i : Fin 4) : (s.postJam i).still = s.still := rfl
@[simp] theorem State.postAir_still (s : State) (i : Fin 4) (n : Nat) : (s.postAir i n).still = s.still := rfl
@[simp] theorem State.postRecovered_still (s : State) (i : Fin 4) (n : Nat) : (s.postRecovered i n).still = s.still := rfl
@[simp] theorem State.postForced_still (s : State) (i : Fin 4) (n : Nat) : (s.postForced i n).still = s.still := rfl
@[simp] theorem State.postStrokes_still (s : State) (i : Fin 4) (n : Nat) : (s.postStrokes i n).still = s.still := rfl
@[simp] theorem State.postFlush_still (s : State) (i : Fin 4) : (s.postFlush i).still = s.still := rfl
@[simp] theorem State.postFlushSeconds_still (s : State) (i : Fin 4) (n : Nat) : (s.postFlushSeconds i n).still = s.still := rfl
@[simp] theorem State.postRaise_still (s : State) (c : Nat) : (s.postRaise c).still = s.still := rfl

/-! ## Outputs -/

@[simp] theorem State.kickStream_still (s : State) : s.kickStream.still = s.still := by
  unfold State.kickStream; repeat' split
  all_goals rfl

@[simp] theorem State.writeLatch_still (s : State) (o : Fin 8) (n : Nat) : (s.writeLatch o n).still = s.still := by
  unfold State.writeLatch; split <;> simp

@[simp] theorem State.uncarry_still (s : State) (o : Fin 8) : (s.uncarry o).still = s.still := by
  unfold State.uncarry; split <;> simp

@[simp] theorem State.takeCount_still (s : State) (o : Fin 8) (n : Nat) : (s.takeCount o n).still = s.still := by
  unfold State.takeCount; split <;> simp

@[simp] theorem State.handTarget_still (s : State) (o : Fin 8) (x f : Nat) : (s.handTarget o x f).still = s.still := by
  simp [State.handTarget]

@[simp] theorem State.handFallback_still (s : State) (o : Fin 8) : (s.handFallback o).still = s.still := by
  simp [State.handFallback]

/-! ## Publication and the slots -/

@[simp] theorem State.publish_still (s : State) (i : Fin 4) : (s.publish i).still = s.still := by
  unfold State.publish; split <;> simp

@[simp] theorem State.markNoticed_still (s : State) (i : Fin 4) : (s.markNoticed i).still = s.still := by
  unfold State.markNoticed; split <;> simp

@[simp] theorem State.noteChange_still (s : State) (i : Fin 4) : (s.noteChange i).still = s.still := by
  simp [State.noteChange]

@[simp] theorem State.markLeft_still (s : State) (i : Fin 4) : (s.markLeft i).still = s.still := rfl

@[simp] theorem State.allocate_still (s : State) : s.allocate.still = s.still := rfl

theorem onCf_still {f : CfSlot → State} (s : State) (i : Fin 4) (h : ∀ c, (f c).still = s.still) :
    (s.onCf i f).still = s.still := by
  unfold State.onCf; split <;> simp [h]

theorem onDi_still {f : DiSlot → State} (s : State) (i : Fin 4) (h : ∀ c, (f c).still = s.still) :
    (s.onDi i f).still = s.still := by
  unfold State.onDi; split <;> simp [h]

theorem onCa_still {f : CaSlot → State} (s : State) (i : Fin 4) (h : ∀ c, (f c).still = s.still) :
    (s.onCa i f).still = s.still := by
  unfold State.onCa; split <;> simp [h]

theorem onCg_still {f : CgSlot → State} (s : State) (i : Fin 4) (h : ∀ c, (f c).still = s.still) :
    (s.onCg i f).still = s.still := by
  unfold State.onCg; split <;> simp [h]

@[simp] theorem State.cfStop_still (s : State) (i : Fin 4) (c : CfSlot) (st : CfState) :
    (s.cfStop i c st).still = s.still := by
  unfold State.cfStop; simp only; split <;> simp

@[simp] theorem State.cfTrip_still (s : State) (i : Fin 4) (c : CfSlot) : (s.cfTrip i c).still = s.still := by
  unfold State.cfTrip; repeat' split
  all_goals simp

@[simp] theorem State.cfPassage_still (s : State) (i : Fin 4) (c : CfSlot) : (s.cfPassage i c).still = s.still := by
  unfold State.cfPassage; split <;> simp

@[simp] theorem State.cfStartTest_still (s : State) (i : Fin 4) (c : CfSlot) : (s.cfStartTest i c).still = s.still := by
  unfold State.cfStartTest; repeat' split
  all_goals simp

@[simp] theorem State.cfVerdict_still (s : State) (i : Fin 4) (c : CfSlot) : (s.cfVerdict i c).still = s.still := by
  unfold State.cfVerdict; repeat' split
  all_goals simp

@[simp] theorem State.cfSupervise_still (s : State) (i : Fin 4) (c : CfSlot) : (s.cfSupervise i c).still = s.still := by
  unfold State.cfSupervise; simp only; repeat' split
  all_goals simp

@[simp] theorem State.cfHandOn_still (s : State) (i : Fin 4) : (s.cfHandOn i).still = s.still := by
  unfold State.cfHandOn; simp only
  rw [onCf_still, onCf_still, onCf_still]
  · intro c; simp
  · intro c; split <;> simp
  · intro c; split <;> simp

@[simp] theorem State.cfLeaveFault_still (s : State) (i : Fin 4) (c : CfSlot) : (s.cfLeaveFault i c).still = s.still := by
  unfold State.cfLeaveFault; split <;> simp

@[simp] theorem State.cfPermitFalls_still (s : State) (i : Fin 4) (c : CfSlot) :
    (s.cfPermitFalls i c).still = s.still := by
  unfold State.cfPermitFalls; split <;> simp

@[simp] theorem State.cfInputFailed_still (s : State) (i : Fin 4) (c : CfSlot) :
    (s.cfInputFailed i c).still = s.still := by
  unfold State.cfInputFailed; split <;> simp

@[simp] theorem State.cfPostAmounts_still (s : State) (i : Fin 4) : (s.cfPostAmounts i).still = s.still :=
  onCf_still s i fun c => by simp

@[simp] theorem State.cfPostTime_still (s : State) (i : Fin 4) (a : CfState) : (s.cfPostTime i a).still = s.still :=
  onCf_still s i fun c => by cases a <;> simp

@[simp] theorem State.clearStarved_still (s : State) (i : Fin 4) : (s.clearStarved i).still = s.still := by
  unfold State.clearStarved; split <;> simp

@[simp] theorem State.diStop_still (s : State) (i : Fin 4) (d : DiSlot) (st : DiState) :
    (s.diStop i d st).still = s.still := by simp [State.diStop]

@[simp] theorem State.gateJam_still (s : State) (i : Fin 4) (d : DiSlot) : (s.gateJam i d).still = s.still := by
  unfold State.gateJam; simp only; repeat' split
  all_goals simp

@[simp] theorem State.tryStart_still (s : State) (i : Fin 4) : (s.tryStart i).still = s.still := by
  unfold State.tryStart
  apply onDi_still; intro d
  repeat' split
  all_goals simp

@[simp] theorem State.countFed_still (s : State) (i : Fin 4) (d : DiSlot) : (s.countFed i d).still = s.still := by
  unfold State.countFed; split <;> simp

@[simp] theorem State.gateReady_still (s : State) (i : Fin 4) (d : DiSlot) : (s.gateReady i d).still = s.still := by
  unfold State.gateReady; simp only
  repeat' split
  all_goals first
    | (rw [onDi_still] <;> simp)
    | simp

@[simp] theorem State.gateRun_still (n : Nat) (s : State) (i : Fin 4) : (s.gateRun n i).still = s.still := by
  induction n generalizing s with
  | zero => rfl
  | succ n ih =>
    unfold State.gateRun
    apply onDi_still; intro d
    repeat' split
    all_goals simp only [ih, State.setSlot_still, State.gateJam_still, State.tryStart_still, State.gateReady_still]
    rw [onDi_still, State.countFed_still]
    intro d1; simp

@[simp] theorem State.gateGo_still (s : State) (i : Fin 4) : (s.gateGo i).still = s.still := State.gateRun_still 16 s i

@[simp] theorem State.interrupt_still (s : State) (i : Fin 4) : (s.interrupt i).still = s.still := by
  unfold State.interrupt
  apply onDi_still; intro d
  split <;> simp

@[simp] theorem State.diLeave_still (s : State) (i : Fin 4) (d : DiSlot) (st : DiState) :
    (s.diLeave i d st).still = s.still := by simp [State.diLeave]

@[simp] theorem State.diTrip_still (s : State) (i : Fin 4) (d : DiSlot) : (s.diTrip i d).still = s.still := by
  unfold State.diTrip; repeat' split
  all_goals simp

@[simp] theorem State.diPassage_still (s : State) (i : Fin 4) (d : DiSlot) : (s.diPassage i d).still = s.still := by
  unfold State.diPassage; split <;> simp

@[simp] theorem State.diVerdict_still (s : State) (i : Fin 4) (d : DiSlot) : (s.diVerdict i d).still = s.still := by
  unfold State.diVerdict; repeat' split
  all_goals simp

@[simp] theorem State.diDebt_still (s : State) (i : Fin 4) (d : DiSlot) : (s.diDebt i d).still = s.still := by
  unfold State.diDebt; simp only; repeat' split
  all_goals simp

@[simp] theorem State.diHandOn_still (s : State) (i : Fin 4) : (s.diHandOn i).still = s.still := by
  unfold State.diHandOn; simp only
  rw [State.gateGo_still, State.tryStart_still, onDi_still, onDi_still]
  · intro d; simp
  · intro d; simp

@[simp] theorem State.diPermitFalls_still (s : State) (i : Fin 4) (d : DiSlot) :
    (s.diPermitFalls i d).still = s.still := by
  unfold State.diPermitFalls; repeat' split
  all_goals simp

@[simp] theorem State.divert_still (s : State) (i : Fin 4) (d : DiSlot) (b : Bool) : (s.divert i d b).still = s.still := by
  unfold State.divert; simp only; split <;> simp

@[simp] theorem State.appendItem_still (s : State) (i : Fin 4) (d : DiSlot) (x : Item) :
    (s.appendItem i d x).still = s.still := by
  unfold State.appendItem; simp only; split <;> simp

@[simp] theorem State.itemWeighed_still (s : State) (i : Fin 4) (w : Nat) : (s.itemWeighed i w).still = s.still := by
  unfold State.itemWeighed
  apply onDi_still; intro d
  simp only; repeat' split
  all_goals simp

@[simp] theorem State.confirm_still (s : State) (i : Fin 4) (sw : GateSwitch) (b : Bool) :
    (s.confirm i sw b).still = s.still := by
  unfold State.confirm
  apply onDi_still; intro d; simp

@[simp] theorem State.diPostTime_still (s : State) (i : Fin 4) (a : DiState) : (s.diPostTime i a).still = s.still :=
  onDi_still s i fun c => by cases a <;> simp

/-! ## The cooler's slots -/

@[simp] theorem State.caForm_still (s : State) (i : Fin 4) : (s.caForm i).still = s.still :=
  onCa_still s i fun a => by simp

@[simp] theorem State.caHand_still (s : State) (a : CaSlot) : (s.caHand a).still = s.still := by
  unfold State.caHand; split <;> simp

@[simp] theorem State.caEnter_still (s : State) (i : Fin 4) (a : CaSlot) (st : CaState) :
    (s.caEnter i a st).still = s.still := by
  unfold State.caEnter; simp only; repeat' split
  all_goals simp

@[simp] theorem State.caPassage_still (s : State) (i : Fin 4) : (s.caPassage i).still = s.still := by
  unfold State.caPassage
  apply onCa_still; intro a; split <;> simp

@[simp] theorem State.caRespond_still (s : State) (i : Fin 4) : (s.caRespond i).still = s.still := by
  unfold State.caRespond
  apply onCa_still; intro a
  simp only; repeat' split
  all_goals simp

@[simp] theorem State.caSupervise_still (s : State) (i : Fin 4) : (s.caSupervise i).still = s.still := by
  unfold State.caSupervise
  apply onCa_still; intro a
  simp only; repeat' split
  all_goals simp

@[simp] theorem State.caHot_still (s : State) (i : Fin 4) : (s.caHot i).still = s.still := by
  unfold State.caHot
  apply onCa_still; intro a
  simp only; repeat' split
  all_goals simp

@[simp] theorem State.caUpdate_still (s : State) (i : Fin 4) : (s.caUpdate i).still = s.still := by
  unfold State.caUpdate; simp only
  split
  · simp only [State.caHot_still, State.caSupervise_still, State.caRespond_still]
    rw [onCa_still]
    · simp
    · intro a; simp
  · simp

@[simp] theorem State.caPermitFalls_still (s : State) (i : Fin 4) (a : CaSlot) :
    (s.caPermitFalls i a).still = s.still := by
  unfold State.caPermitFalls; split <;> simp

@[simp] theorem State.caForce_still (s : State) (i : Fin 4) : (s.caForce i).still = s.still := by
  unfold State.caForce
  apply onCa_still; intro a; split <;> simp

@[simp] theorem State.caRelease_still (s : State) (i : Fin 4) : (s.caRelease i).still = s.still := by
  unfold State.caRelease
  apply onCa_still; intro a; split <;> simp

@[simp] theorem State.cgHand_still (s : State) (g : CgSlot) : (s.cgHand g).still = s.still := by
  unfold State.cgHand; split <;> simp

@[simp] theorem State.cgEnter_still (s : State) (i : Fin 4) (g : CgSlot) (st : CgState) :
    (s.cgEnter i g st).still = s.still := by
  unfold State.cgEnter; simp only; split
  · rw [eachSlot_still State.caRelease_still]; simp
  · simp

@[simp] theorem State.cgFlush_still (s : State) (i : Fin 4) (g : CgSlot) : (s.cgFlush i g).still = s.still := by
  unfold State.cgFlush; simp only
  rw [eachSlot_still State.caForce_still]; simp

@[simp] theorem State.cgPassage_still (s : State) (i : Fin 4) : (s.cgPassage i).still = s.still := by
  unfold State.cgPassage
  apply onCg_still; intro g; split <;> simp

@[simp] theorem State.cgRunning_still (s : State) (i : Fin 4) (g : CgSlot) (p : Int) :
    (s.cgRunning i g p).still = s.still := by
  unfold State.cgRunning; simp only; split <;> simp

@[simp] theorem State.cgFlushing_still (s : State) (i : Fin 4) (g : CgSlot) (b : Bool) :
    (s.cgFlushing i g b).still = s.still := by
  unfold State.cgFlushing; simp only; split <;> simp

@[simp] theorem State.cgPressure_still (s : State) (i : Fin 4) : (s.cgPressure i).still = s.still := by
  unfold State.cgPressure
  apply onCg_still; intro g
  simp only; repeat' split
  all_goals simp

@[simp] theorem State.cgAct_still (s : State) (i : Fin 4) : (s.cgAct i).still = s.still := by
  unfold State.cgAct
  apply onCg_still; intro g
  simp only; repeat' split
  all_goals simp

@[simp] theorem State.cgUpdate_still (s : State) (i : Fin 4) : (s.cgUpdate i).still = s.still := by
  unfold State.cgUpdate; simp only
  split
  · rw [State.cgPressure_still, onCg_still]
    · simp
    · intro g; simp
  · rfl

@[simp] theorem State.cgPermitFalls_still (s : State) (i : Fin 4) (g : CgSlot) :
    (s.cgPermitFalls i g).still = s.still := by
  unfold State.cgPermitFalls; split <;> simp

@[simp] theorem State.caPost_still (s : State) (i : Fin 4) (a : CaState) : (s.caPost i a).still = s.still :=
  onCa_still s i fun c => by cases a <;> simp

@[simp] theorem State.cgPost_still (s : State) (i : Fin 4) (a : CgState) : (s.cgPost i a).still = s.still :=
  onCg_still s i fun c => by simp only; split <;> simp

/-! ## The alarm unit -/

@[simp] theorem State.journal_still (s : State) (n : Nat) (e : AlarmEntry) (r a l : Nat) :
    (s.journal n e r a l).still = s.still := by simp [State.journal]

@[simp] theorem State.dropAlarm_still (s : State) (e : AlarmEntry) : (s.dropAlarm e).still = s.still := by
  unfold State.dropAlarm; split <;> rfl

@[simp] theorem State.placeAlarm_still (s : State) (e : AlarmEntry) : (s.placeAlarm e).still = s.still := by
  unfold State.placeAlarm; split <;> rfl

@[simp] theorem State.setAlarm_still (s : State) (e : AlarmEntry) : (s.setAlarm e).still = s.still := rfl

@[simp] theorem State.countAlarm_still (s : State) (f : AlarmCounters → AlarmCounters) : (s.countAlarm f).still = s.still := rfl

@[simp] theorem State.staleNotice_still (s : State) : s.staleNotice.still = s.still := rfl

@[simp] theorem State.staleAck_still (s : State) : s.staleAck.still = s.still := rfl

@[simp] theorem State.evalTrips_still (s : State) : s.evalTrips.still = s.still := by
  apply eachSlot_still
  intro t i
  split <;> simp

@[simp] theorem State.forgetRetry_still (s : State) (e : AlarmEntry) : (s.forgetRetry e).still = s.still := rfl

@[simp] theorem State.enterNew_still (s : State) (e : AlarmEntry) : (s.enterNew e).still = s.still := by
  unfold State.enterNew
  rw [State.journal_still, ← State.placeAlarm_still s e]; rfl

@[simp] theorem State.enterOwn_still (s : State) (c : AlarmCode) (ch : Nat) : (s.enterOwn c ch).still = s.still := by
  have h : ∀ (e : AlarmEntry) (o : Serial),
      (State.postRaise (State.enterNew { s with alarms := { s.alarms with occurrence := o } } e) e.cls).still = s.still := by
    intro e o
    rw [State.postRaise_still, State.enterNew_still]; rfl
  unfold State.enterOwn
  simp only
  rw [State.evalTrips_still]
  split
  · rw [State.offer_still, h]
  · rw [h]

@[simp] theorem State.logRaise_still (s : State) (c : AlarmCode) (ch : Nat) : (s.logRaise c ch).still = s.still := by
  unfold State.logRaise; simp only
  split
  · rfl
  · have h : ∀ (e : AlarmEntry) (o : Serial),
        (State.postRaise (State.journal { s with alarms := { s.alarms with occurrence := o } } 1 e 4 0 0) 4).still = s.still := by
      intro e o
      rw [State.postRaise_still, State.journal_still]; rfl
    split
    · exact Eq.trans rfl (h _ _)
    · exact h _ _

@[simp] theorem State.evictAlarm_still (s : State) (e : AlarmEntry) : (s.evictAlarm e).still = s.still := by
  unfold State.evictAlarm; simp only
  rw [State.journal_still]
  split
  · have h : ∀ t : State, ∀ n, ({ t with alarms := t.alarms.retryPush n } : State).still = t.still := by
      intro t n; simp [State.still]
    rw [h]; simp
  · simp

@[simp] theorem State.raiseFlood_still (s : State) : s.raiseFlood.still = s.still := by
  unfold State.raiseFlood
  rw [State.enterOwn_still]
  split <;> rfl

@[simp] theorem State.loseRaise_still (s : State) : s.loseRaise.still = s.still := by
  unfold State.loseRaise; simp only; repeat' split
  · simp
  · rfl
  · simp

theorem State.makeRoom_still {s t : State} (h : s.makeRoom = some t) : t.still = s.still := by
  unfold State.makeRoom at h
  split at h
  · cases h; rfl
  · obtain ⟨e, _, rfl⟩ := Option.map_eq_some_iff.1 h
    simp

@[simp] theorem State.takeRaise_still (s : State) (c : AlarmCode) (ch : Nat) : (s.takeRaise c ch).still = s.still := by
  unfold State.takeRaise; repeat' split
  all_goals simp
  exact State.makeRoom_still ‹_›

@[simp] theorem State.logClear_still (s : State) (c : AlarmCode) (ch : Nat) : (s.logClear c ch).still = s.still := by
  unfold State.logClear; split
  · rfl
  · simp only [State.journal_still]; rfl

@[simp] theorem State.offerClear_still (s : State) (e : AlarmEntry) : (s.offerClear e).still = s.still := by
  unfold State.offerClear; split <;> simp

@[simp] theorem State.clearEntry_still (s : State) (e : AlarmEntry) : (s.clearEntry e).still = s.still := by
  unfold State.clearEntry; simp only; repeat' split
  all_goals simp

@[simp] theorem State.clearKey_still (s : State) (c : AlarmCode) (ch : Nat) : (s.clearKey c ch).still = s.still := by
  unfold State.clearKey; repeat' split
  all_goals simp

@[simp] theorem State.floodCheck_still (s : State) : s.floodCheck.still = s.still := by
  unfold State.floodCheck; split <;> simp

@[simp] theorem State.afterChange_still (s : State) : s.afterChange.still = s.still := by simp [State.afterChange]

@[simp] theorem State.takeClear_still (s : State) (c : AlarmCode) (ch : Nat) : (s.takeClear c ch).still = s.still := by
  unfold State.takeClear; split <;> simp

@[simp] theorem State.enterPeer_still (s : State) (o : Nat) (c : AlarmCode) (ch cls : Nat) (occ : Serial) :
    (s.enterPeer o c ch cls occ).still = s.still := by simp [State.enterPeer]

@[simp] theorem State.peerRaise_still (s : State) (o : Nat) (c : AlarmCode) (ch cls : Nat) (occ : Serial) :
    (s.peerRaise o c ch cls occ).still = s.still := by
  unfold State.peerRaise; repeat' split
  all_goals simp
  exact State.makeRoom_still ‹_›

@[simp] theorem State.peerClear_still (s : State) (o : Nat) (c : AlarmCode) (ch : Nat) (occ : Serial) :
    (s.peerClear o c ch occ).still = s.still := by
  unfold State.peerClear; repeat' split
  all_goals simp

@[simp] theorem State.alarmNotice_still (s : State) (o c ch cls ev : Nat) (occ : Serial) :
    (s.alarmNotice o c ch cls ev occ).still = s.still := by
  unfold State.alarmNotice; repeat' split
  all_goals simp

@[simp] theorem State.acknowledgeEntry_still (s : State) (e : AlarmEntry) (n : Nat) :
    (s.acknowledgeEntry e n).still = s.still := by
  unfold State.acknowledgeEntry; repeat' split
  all_goals simp

@[simp] theorem State.ackNotice_still (s : State) (st o c ch : Nat) (occ : Serial) :
    (s.ackNotice st o c ch occ).still = s.still := by
  unfold State.ackNotice; repeat' split
  all_goals simp

@[simp] theorem State.panelAck_still (s : State) (k : AlarmEntry) : (s.panelAck k).still = s.still := by
  unfold State.panelAck; simp only
  repeat' split
  all_goals simp

@[simp] theorem State.panelAckAll_still (s : State) : s.panelAckAll.still = s.still := by
  unfold State.panelAckAll
  split
  · rfl
  · exact foldl_still _ State.panelAck_still _ _

@[simp] theorem State.orphanEntry_still (s : State) (e : AlarmEntry) : (s.orphanEntry e).still = s.still := by
  unfold State.orphanEntry; repeat' split
  all_goals simp

@[simp] theorem State.orphan_still (s : State) (o : Nat) : (s.orphan o).still = s.still := by
  unfold State.orphan
  rw [State.afterChange_still, foldl_still _ State.orphanEntry_still]

@[simp] theorem State.takeRequest_still (s : State) (r : AlarmRequest) : (s.takeRequest r).still = s.still := by
  unfold State.takeRequest; split <;> simp

@[simp] theorem State.takeFirst_still (s : State) : s.takeFirst.still = s.still := by
  unfold State.takeFirst; split
  · rfl
  · exact Eq.trans rfl (State.takeRequest_still s _)

@[simp] theorem State.settleSome_still (n : Nat) (s : State) : (s.settleSome n).still = s.still := by
  induction n generalizing s with
  | zero => rfl
  | succ n ih =>
    unfold State.settleSome
    split
    · rfl
    · rw [ih, State.takeFirst_still]

/-- The alarm unit's requests leave the still parts alone. -/
@[simp] theorem State.settle_still (s : State) : s.settle.still = s.still :=
  Eq.trans rfl (State.settleSome_still Config.settleFuel s)

end Sys2Proof.Machine
end

