-- ==== Sys2Proof/Laws/Kept.lean ====
section
/-! SUPPORT. What every command but those that start and stop the part keeps: the queue, the supply, RESET, the strap and
the configuration; and what keeps the non-volatile memories besides the map region. -/

namespace Sys2Proof.Machine

/-- What no command but a start, a RESET or a loss of supply changes. -/
structure Kept where
  pending : List Instr
  supply : Bool
  resetHeld : Bool
  strap : Bool
  cfg : Option Cfg
  clampedFields : Nat
deriving DecidableEq, Repr

/-- What a state keeps from start to start. -/
def State.kept (s : State) : Kept where
  pending := s.pending
  supply := s.supply
  resetHeld := s.resetHeld
  strap := s.strap
  cfg := s.cfg
  clampedFields := s.clampedFields

/-- What is kept, with the memories besides the map region. -/
def State.keptNv (s : State) : Kept × Nonvolatile := (s.kept, s.nv)

theorem keptNv_of_still {s t : State} (h : t.still = s.still) : t.keptNv = s.keptNv := by
  have h1 : t.pending = s.pending := congrArg Still.pending h
  have h2 : t.supply = s.supply := congrArg Still.supply h
  have h3 : t.resetHeld = s.resetHeld := congrArg Still.resetHeld h
  have h4 : t.strap = s.strap := congrArg Still.strap h
  have h5 : t.cfg = s.cfg := congrArg Still.cfg h
  have h6 : t.clampedFields = s.clampedFields := congrArg Still.clampedFields h
  have h7 : t.nv = s.nv := congrArg Still.nv h
  simp [State.keptNv, State.kept, h1, h2, h3, h4, h5, h6, h7]

theorem kept_of_keptNv {s t : State} (h : t.keptNv = s.keptNv) : t.kept = s.kept := congrArg Prod.fst h

theorem kept_of_still {s t : State} (h : t.still = s.still) : t.kept = s.kept := kept_of_keptNv (keptNv_of_still h)

@[simp] theorem State.settle_keptNv (s : State) : s.settle.keptNv = s.keptNv := keptNv_of_still (by simp)
@[simp] theorem State.runStore_keptNv (s : State) : s.runStore.keptNv = s.keptNv := keptNv_of_still (by simp)
@[simp] theorem State.ask_keptNv (s : State) (r : AlarmRequest) : (s.ask r).keptNv = s.keptNv := rfl
@[simp] theorem State.reach_keptNv (s : State) (t : Nat) : (s.reach t).keptNv = s.keptNv := rfl
@[simp] theorem State.useFree_keptNv (s : State) (n : Nat) : (s.useFree n).keptNv = s.keptNv := rfl
@[simp] theorem State.countStore_keptNv (s : State) (f : StoreCounters → StoreCounters) :
    (s.countStore f).keptNv = s.keptNv := rfl
@[simp] theorem State.writeGranule_keptNv (s : State) (g : Fin 128) (v : Granule) :
    (s.writeGranule g v).keptNv = s.keptNv := rfl
@[simp] theorem State.setSlot_keptNv (s : State) (i : Fin 4) (u : SlotUnit) : (s.setSlot i u).keptNv = s.keptNv := rfl
@[simp] theorem State.setInput_keptNv (s : State) (k : Fin 16) (x : Input) : (s.setInput k x).keptNv = s.keptNv := rfl
@[simp] theorem State.setLatch_keptNv (s : State) (o : Fin 8) (l : Latch) : (s.setLatch o l).keptNv = s.keptNv := rfl
@[simp] theorem State.offer_keptNv (s : State) (n : Notice) : (s.offer n).keptNv = s.keptNv := keptNv_of_still (by simp)
@[simp] theorem State.append_keptNv (s : State) (type : RecordType) (rest : List Byte) (b : Binding) (p q : Bool) :
    (s.append type rest b p q).keptNv = s.keptNv := keptNv_of_still (by simp)

theorem foldl_keptNv {α : Type} (f : State → α → State) (h : ∀ s a, (f s a).keptNv = s.keptNv) (l : List α) (s : State) :
    (l.foldl f s).keptNv = s.keptNv := by
  induction l generalizing s with
  | nil => rfl
  | cons a l ih => rw [List.foldl_cons, ih, h]

theorem eachSlot_keptNv {f : State → Fin 4 → State} (h : ∀ s i, (f s i).keptNv = s.keptNv) (s : State) :
    (s.eachSlot f).keptNv = s.keptNv := by
  simp [State.eachSlot, h]

/-! ## The floor picture -/

@[simp] theorem State.placePeer_keptNv (s : State) (e : PeerEntry) : (s.placePeer e).keptNv = s.keptNv := rfl
@[simp] theorem State.countPicture_keptNv (s : State) (f : PictureCounters → PictureCounters) :
    (s.countPicture f).keptNv = s.keptNv := rfl
@[simp] theorem State.refuseNotice_keptNv (s : State) : s.refuseNotice.keptNv = s.keptNv := rfl
@[simp] theorem State.refuseTake_keptNv (s : State) : s.refuseTake.keptNv = s.keptNv := rfl

@[simp] theorem State.startLossHold_keptNv (s : State) : s.startLossHold.keptNv = s.keptNv := by
  unfold State.startLossHold; repeat' split
  all_goals rfl

@[simp] theorem State.removePeer_keptNv (s : State) (e : PeerEntry) : (s.removePeer e).keptNv = s.keptNv := by
  unfold State.removePeer
  simp only [apply_ite State.keptNv, State.ask_keptNv, ite_self]
  split
  · simp; rfl
  · rfl

@[simp] theorem State.createPeer_keptNv (s : State) (e : PeerEntry) : (s.createPeer e).keptNv = s.keptNv := by
  unfold State.createPeer; simp only; repeat' split
  all_goals simp

@[simp] theorem State.useNotice_keptNv (s : State) (e : PeerEntry) : (s.useNotice e).keptNv = s.keptNv := by
  unfold State.useNotice; simp only; repeat' split
  all_goals simp

@[simp] theorem State.heatNotice_keptNv (s : State) (a b c d e f g : Nat) (h k : Bool) :
    (s.heatNotice a b c d e f g h k).keptNv = s.keptNv := by
  unfold State.heatNotice; split <;> simp

@[simp] theorem State.airNotice_keptNv (s : State) (a b c : Nat) (h k : Bool) (d e f g : Nat) :
    (s.airNotice a b c h k d e f g).keptNv = s.keptNv := by
  unfold State.airNotice; split <;> simp

@[simp] theorem State.signOfLife_keptNv (s : State) (n : Nat) : (s.signOfLife n).keptNv = s.keptNv := by
  unfold State.signOfLife; simp only; repeat' split
  all_goals rfl

@[simp] theorem State.goAbsent_keptNv (s : State) (n : Nat) : (s.goAbsent n).keptNv = s.keptNv := by
  unfold State.goAbsent
  simp only
  rw [keptNv_of_still (State.orphan_still _ n), State.settle_keptNv, foldl_keptNv _ State.removePeer_keptNv]
  rfl

@[simp] theorem State.restartRefresh_keptNv (s : State) : s.restartRefresh.keptNv = s.keptNv := by
  unfold State.restartRefresh; repeat' split
  all_goals rfl

@[simp] theorem State.adopt_keptNv (s : State) (c : FiringOrder) (b : Bool) : (s.adopt c b).keptNv = s.keptNv := by
  unfold State.adopt; simp only
  split <;> simp <;> rfl

@[simp] theorem State.considerOrder_keptNv (s : State) (c : FiringOrder) (b : Bool) :
    (s.considerOrder c b).keptNv = s.keptNv := by
  unfold State.considerOrder; split <;> simp

@[simp] theorem State.orderNotice_keptNv (s : State) (n : Nat) (e : Serial) (t : Nat) :
    (s.orderNotice n e t).keptNv = s.keptNv := by
  unfold State.orderNotice; split <;> simp

@[simp] theorem State.originate_keptNv (s : State) : s.originate.keptNv = s.keptNv := by
  unfold State.originate; repeat' split
  all_goals simp

@[simp] theorem State.refreshOrder_keptNv (s : State) : s.refreshOrder.keptNv = s.keptNv := by
  unfold State.refreshOrder; split <;> simp

/-! ## The measurement stage -/

@[simp] theorem State.inputLost_keptNv (s : State) (k : Fin 16) : (s.inputLost k).keptNv = s.keptNv := by
  unfold State.inputLost; repeat' split
  all_goals first | rfl | exact keptNv_of_still (by simp)

@[simp] theorem State.inputBack_keptNv (s : State) (k : Fin 16) : (s.inputBack k).keptNv = s.keptNv := by
  unfold State.inputBack; repeat' split
  all_goals first | rfl | exact keptNv_of_still (by simp)

@[simp] theorem State.takeSample_keptNv (s : State) (k : Fin 16) (r : Nat) : (s.takeSample k r).keptNv = s.keptNv := by
  unfold State.takeSample; simp only; repeat' split
  all_goals simp

@[simp] theorem State.takeItem_keptNv (s : State) (k : Fin 16) (r : Nat) : (s.takeItem k r).keptNv = s.keptNv := by
  unfold State.takeItem; simp only; split
  · rfl
  · exact (keptNv_of_still (State.itemWeighed_still _ _ _)).trans rfl

@[simp] theorem State.takeWord_keptNv (s : State) (k : Fin 16) (r : Nat) (b : Bool) :
    (s.takeWord k r b).keptNv = s.keptNv := by
  unfold State.takeWord; repeat' split
  all_goals first | rfl | simp

@[simp] theorem State.freshExpires_keptNv (s : State) (k : Fin 16) : (s.freshExpires k).keptNv = s.keptNv := rfl

@[simp] theorem State.holdExpires_keptNv (s : State) (k : Fin 16) : (s.holdExpires k).keptNv = s.keptNv := by
  unfold State.holdExpires; simp only; split <;> simp

/-! ## The shift accountant -/

@[simp] theorem State.offerRestart_keptNv (s : State) (b : Bool) : (s.offerRestart b).keptNv = s.keptNv := by
  unfold State.offerRestart; split <;> simp
  rfl

@[simp] theorem State.countShift_keptNv (s : State) (f : ShiftCounters → ShiftCounters) :
    (s.countShift f).keptNv = s.keptNv := rfl

@[simp] theorem State.takeNumber_keptNv (s : State) (n : Serial) : (s.takeNumber n).keptNv = s.keptNv := rfl

@[simp] theorem State.requestStep_keptNv (s : State) (f : Option (Fin 32)) (st : FileStep) :
    (s.requestStep f st).keptNv = s.keptNv := keptNv_of_still (by simp)

@[simp] theorem State.openShiftFile_keptNv (s : State) (n : Serial) : (s.openShiftFile n).keptNv = s.keptNv := by
  have h : (s.openFile n).1.keptNv = s.keptNv := keptNv_of_still (State.openFile_still s n)
  exact h

@[simp] theorem State.endCollation_keptNv (s : State) (b : Bool) : (s.endCollation b).keptNv = s.keptNv :=
  Eq.trans rfl (State.requestStep_keptNv s s.accountant.collFile (.closed b))

@[simp] theorem State.clearStoreFull_keptNv (s : State) : s.clearStoreFull.keptNv = s.keptNv :=
  keptNv_of_still (State.clearStoreFull_still s)

@[simp] theorem State.summaryLate_keptNv (s : State) (f : Option (Fin 32)) : (s.summaryLate f).keptNv = s.keptNv :=
  (keptNv_of_still (State.lateSummary_still _ f)).trans rfl

@[simp] theorem State.summaryNotice_keptNv (s : State) (o : Nat) (p : List Byte) :
    (s.summaryNotice o p).keptNv = s.keptNv := by
  unfold State.summaryNotice; simp only; repeat' split
  all_goals simp
  rfl

@[simp] theorem State.beginCollation_keptNv (s : State) (n : Serial) : (s.beginCollation n).keptNv = s.keptNv :=
  Eq.trans rfl (State.requestStep_keptNv s s.accountant.file .collating)

@[simp] theorem State.closeShift_keptNv (s : State) (n : Serial) (r : Nat) (m : Serial) :
    (s.closeShift n r m).keptNv = s.keptNv := by
  unfold State.closeShift
  simp only [State.openShiftFile_keptNv]
  refine Eq.trans (b := State.keptNv (State.offer _ _)) rfl ?_
  rw [State.offer_keptNv, State.beginCollation_keptNv]
  split <;> simp

@[simp] theorem State.closeByTimer_keptNv (s : State) : s.closeByTimer.keptNv = s.keptNv := by
  unfold State.closeByTimer; split <;> simp

@[simp] theorem State.firstShift_keptNv (s : State) (n : Serial) : (s.firstShift n).keptNv = s.keptNv := by
  simp [State.firstShift]

@[simp] theorem State.ignoreMark_keptNv (s : State) : s.ignoreMark.keptNv = s.keptNv := rfl

@[simp] theorem State.markNotice_keptNv (s : State) (m : Serial) : (s.markNotice m).keptNv = s.keptNv := by
  unfold State.markNotice; repeat' split
  all_goals simp

/-! ## The control update -/

@[simp] theorem State.slew_keptNv (s : State) : s.slew.keptNv = s.keptNv := by
  unfold State.slew; split <;> rfl

@[simp] theorem State.updateEstimate_keptNv (s : State) : s.updateEstimate.keptNv = s.keptNv := by
  unfold State.updateEstimate; repeat' split
  all_goals rfl

@[simp] theorem State.feedPassage_keptNv (s : State) (i : Fin 4) : (s.feedPassage i).keptNv = s.keptNv := by
  unfold State.feedPassage; split
  all_goals first | rfl | exact keptNv_of_still (by simp)

@[simp] theorem State.feedHandOn_keptNv (s : State) (i : Fin 4) : (s.feedHandOn i).keptNv = s.keptNv := by
  unfold State.feedHandOn; split
  all_goals first | rfl | exact keptNv_of_still (by simp)

@[simp] theorem State.coolerAct_keptNv (s : State) (i : Fin 4) : (s.coolerAct i).keptNv = s.keptNv := by
  unfold State.coolerAct; split
  all_goals first | rfl | exact keptNv_of_still (by simp)

@[simp] theorem State.slotPublish_keptNv (c l : Vector Bool 4) (s : State) (i : Fin 4) :
    (State.slotPublish c l s i).keptNv = s.keptNv := by
  unfold State.slotPublish; simp only; repeat' split
  all_goals first | rfl | exact keptNv_of_still (by simp)

@[simp] theorem State.endMarks_keptNv (s : State) : s.endMarks.keptNv = s.keptNv := rfl

@[simp] theorem State.publishAll_keptNv (s : State) : s.publishAll.keptNv = s.keptNv := by
  unfold State.publishAll
  rw [eachSlot_keptNv fun t i => State.slotPublish_keptNv _ _ t i]; rfl

@[simp] theorem State.slotPost_keptNv (a : Vector SlotUnit 4) (s : State) (i : Fin 4) :
    (State.slotPost a s i).keptNv = s.keptNv := by
  unfold State.slotPost; split
  all_goals first | rfl | exact keptNv_of_still (by simp)

@[simp] theorem State.postAlarmTime_keptNv (s : State) (b : Bool) : (s.postAlarmTime b).keptNv = s.keptNv := by
  unfold State.postAlarmTime; split <;> rfl

@[simp] theorem State.postCooler_keptNv (s : State) : s.postCooler.keptNv = s.keptNv := by
  unfold State.postCooler; split <;> rfl

@[simp] theorem State.fireRun_keptNv (s : State) (c : AlarmCode) (b : Bool) (n : Nat) (r : Option Nat) :
    (s.fireRun c b n r).1.keptNv = s.keptNv := by
  unfold State.fireRun; simp only; split <;> rfl

@[simp] theorem State.superviseFire_keptNv (s : State) (g : Cfg) : (s.superviseFire g).keptNv = s.keptNv := by
  unfold State.superviseFire
  exact Eq.trans rfl ((State.fireRun_keptNv _ _ _ _ _).trans (State.fireRun_keptNv _ _ _ _ _))

@[simp] theorem State.ceaseFire_keptNv (s : State) : s.ceaseFire.keptNv = s.keptNv := by
  unfold State.ceaseFire; simp only; repeat' split
  all_goals rfl

@[simp] theorem State.fireSupervision_keptNv (s : State) : s.fireSupervision.keptNv = s.keptNv := by
  unfold State.fireSupervision; repeat' split
  all_goals simp

@[simp] theorem State.controlSlots_keptNv (s : State) : s.controlSlots.keptNv = s.keptNv := by
  unfold State.controlSlots
  simp only
  rw [eachSlot_keptNv State.coolerAct_keptNv, eachSlot_keptNv State.feedHandOn_keptNv,
    keptNv_of_still (State.allocate_still _), eachSlot_keptNv State.feedPassage_keptNv]
  refine Eq.trans (b := State.keptNv (State.updateEstimate _)) rfl ?_
  simp

@[simp] theorem State.controlAccounts_keptNv (a : Vector SlotUnit 4) (b : Bool) (s : State) :
    (s.controlAccounts a b).keptNv = s.keptNv := by
  unfold State.controlAccounts
  split
  · rw [State.postAlarmTime_keptNv, State.postCooler_keptNv,
      eachSlot_keptNv fun t i => State.slotPost_keptNv a t i, State.publishAll_keptNv]
  · rfl

@[simp] theorem State.control_keptNv (s : State) : s.control.keptNv = s.keptNv := by simp [State.control]

@[simp] theorem State.updateExpires_keptNv (s : State) (n : Nat) : (s.updateExpires n).keptNv = s.keptNv :=
  (State.control_keptNv _).trans rfl

@[simp] theorem State.faultAtRun_keptNv (s : State) (i : Fin 4) : (s.faultAtRun i).keptNv = s.keptNv := by
  unfold State.faultAtRun; repeat' split
  all_goals first | rfl | exact keptNv_of_still (by simp)

@[simp] theorem State.firstNotice_keptNv (s : State) (i : Fin 4) : (s.firstNotice i).keptNv = s.keptNv := by
  unfold State.firstNotice; simp only; split
  all_goals exact keptNv_of_still (by simp)

@[simp] theorem State.slotToRun_keptNv (s : State) (i : Fin 4) : (s.slotToRun i).keptNv = s.keptNv := by
  simp [State.slotToRun]

@[simp] theorem State.enterRun_keptNv (s : State) : s.enterRun.keptNv = s.keptNv := by
  have h : ∀ t : State, ((t.kickAccess.eachSlot State.slotToRun).endMarks).keptNv = t.keptNv := by
    intro t
    rw [State.endMarks_keptNv, eachSlot_keptNv State.slotToRun_keptNv]
    exact keptNv_of_still (by simp)
  unfold State.enterRun
  simp only [apply_ite State.keptNv, State.firstShift_keptNv, ite_self, State.refreshOrder_keptNv, State.ask_keptNv]
  rw [h]; rfl

/-! ## The receive side of the link -/

@[simp] theorem State.countLink_keptNv (s : State) (f : LinkCounters → LinkCounters) : (s.countLink f).keptNv = s.keptNv := rfl

@[simp] theorem State.mediumBusy_keptNv (s : State) : s.mediumBusy.keptNv = s.keptNv := by
  unfold State.mediumBusy; split <;> rfl

@[simp] theorem State.mediumQuiet_keptNv (s : State) : s.mediumQuiet.keptNv = s.keptNv := by
  unfold State.mediumQuiet; split
  · rfl
  · exact (keptNv_of_still (State.kickAccess_still _)).trans rfl

@[simp] theorem State.countSlot_keptNv (s : State) : s.countSlot.keptNv = s.keptNv := by
  unfold State.countSlot; repeat' split
  all_goals rfl

@[simp] theorem State.setExhaustion_keptNv (s : State) : s.setExhaustion.keptNv = s.keptNv := by
  unfold State.setExhaustion; simp only; repeat' split
  all_goals rfl

@[simp] theorem State.clearExhaustion_keptNv (s : State) : s.clearExhaustion.keptNv = s.keptNv := by
  unfold State.clearExhaustion; simp only; repeat' split
  all_goals rfl

@[simp] theorem State.setSilence_keptNv (s : State) : s.setSilence.keptNv = s.keptNv := by
  unfold State.setSilence; simp only; repeat' split
  all_goals rfl

@[simp] theorem State.clearSilence_keptNv (s : State) : s.clearSilence.keptNv = s.keptNv := by
  unfold State.clearSilence; simp only; repeat' split
  all_goals rfl

@[simp] theorem State.afterSending_keptNv (s : State) : s.afterSending.keptNv = s.keptNv := rfl

@[simp] theorem State.unqueue_keptNv (s : State) (f : QFrame) : (s.unqueue f).keptNv = s.keptNv := rfl

@[simp] theorem State.discard_keptNv (s : State) (f : QFrame) : (s.discard f).keptNv = s.keptNv := by
  unfold State.discard; simp only
  rw [keptNv_of_still (State.room_still _), keptNv_of_still (State.handBack_still _ _)]
  split
  · rw [State.setExhaustion_keptNv]; rfl
  · rfl

@[simp] theorem State.collide_keptNv (s : State) : s.collide.keptNv = s.keptNv := by
  unfold State.collide; simp only
  split
  · rfl
  · rw [State.afterSending_keptNv]
    split
    · rw [State.discard_keptNv]; rfl
    · rfl

@[simp] theorem State.sent_keptNv (s : State) : s.sent.keptNv = s.keptNv := by
  unfold State.sent; simp only
  split
  · rfl
  · rw [State.afterSending_keptNv, keptNv_of_still (State.room_still _), State.clearExhaustion_keptNv]; rfl

@[simp] theorem State.ownOrigin_keptNv (s : State) : s.ownOrigin.keptNv = s.keptNv := by
  unfold State.ownOrigin; simp only; split <;> rfl

@[simp] theorem State.handOn_keptNv (s : State) (o : Nat) (n : Notice) : (s.handOn o n).keptNv = s.keptNv := by
  unfold State.handOn; split
  all_goals first | exact keptNv_of_still (by simp) | simp

@[simp] theorem State.accept_keptNv (s : State) (o : Nat) (n : Notice) : (s.accept o n).keptNv = s.keptNv := by
  unfold State.accept
  simp only [State.handOn_keptNv, State.signOfLife_keptNv]
  split
  · rw [State.clearSilence_keptNv]; rfl
  · rfl

@[simp] theorem State.checkFrame_keptNv (s : State) (o k : Nat) (p : List Byte) (b : Bool) :
    (s.checkFrame o k p b).keptNv = s.keptNv := by
  unfold State.checkFrame; repeat' split
  all_goals first | rfl | simp

@[simp] theorem State.hearBurst_keptNv (s : State) (b : List Byte) : (s.hearBurst b).keptNv = s.keptNv := by
  unfold State.hearBurst; simp only; repeat' split
  all_goals simp

/-! ## The service port -/

@[simp] theorem State.result_keptNv (s : State) (r : Result) : (s.result r).keptNv = s.keptNv := rfl

@[simp] theorem State.closeWindow_keptNv (s : State) : s.closeWindow.keptNv = s.keptNv := by
  unfold State.closeWindow; split <;> simp
  rfl

@[simp] theorem State.portKick_keptNv (s : State) : s.portKick.keptNv = s.keptNv := by
  unfold State.portKick; repeat' split
  all_goals first | rfl | simp
  rfl

@[simp] theorem State.openWindow_keptNv (s : State) (e m : Byte) (o : BitVec 24) : (s.openWindow e m o).keptNv = s.keptNv := by
  unfold State.openWindow; simp only; repeat' split
  · rw [State.portKick_keptNv]; exact Eq.trans rfl (State.closeWindow_keptNv s)
  · simp
  · simp

@[simp] theorem State.readEnds_keptNv (s : State) : s.readEnds.keptNv = s.keptNv := by
  unfold State.readEnds; simp only; repeat' split
  all_goals first | rfl | (rw [State.runStore_keptNv]; rfl)

@[simp] theorem State.unitMissed_keptNv (s : State) (w : ReadWindow) : (s.unitMissed w).keptNv = s.keptNv := by
  unfold State.unitMissed; simp only; split
  · rfl
  · rw [State.runStore_keptNv]; rfl

@[simp] theorem State.unitDone_keptNv (s : State) : s.unitDone.keptNv = s.keptNv := by
  unfold State.unitDone; simp only; repeat' split
  all_goals first | rfl | simp
  all_goals rfl

@[simp] theorem State.unitCut_keptNv (s : State) : s.unitCut.keptNv = s.keptNv := by
  unfold State.unitCut; repeat' split
  all_goals first | rfl | simp

@[simp] theorem State.units_keptNv (n r : Nat) (s : State) (out : List Byte) : (State.units n r s out).1.keptNv = s.keptNv := by
  induction n generalizing s out with
  | zero => unfold State.units; split <;> simp
  | succ n ih => unfold State.units; rw [ih]; simp

@[simp] theorem State.streamUnits_keptNv (s : State) (n : Nat) : (s.streamUnits n).keptNv = s.keptNv :=
  Eq.trans rfl (State.units_keptNv (n / 17) (n % 17) s [])

@[simp] theorem State.areaCommand_keptNv (s : State) (r : Option Result) (op : AreaOp) :
    (s.areaCommand r op).keptNv = s.keptNv := by
  unfold State.areaCommand; simp only; repeat' split
  all_goals exact Eq.trans rfl (State.closeWindow_keptNv s)

@[simp] theorem State.markFlush_keptNv (s : State) : s.markFlush.keptNv = s.keptNv := rfl

@[simp] theorem State.flushQueue_keptNv (s : State) : s.flushQueue.keptNv = s.keptNv := by
  have h : (s.closeWindow.result .done).keptNv = s.keptNv := by simp
  unfold State.flushQueue
  rw [State.runStore_keptNv, State.markFlush_keptNv, h]

@[simp] theorem State.answer_keptNv (s : State) (f : State → List Byte) : (s.answer f).keptNv = s.keptNv :=
  Eq.trans rfl (State.closeWindow_keptNv s)

end Sys2Proof.Machine
end

