-- ==== Sys2Proof/Laws/Nonvolatile.lean ====
section
/-! SUPPORT. The operations on the paged array, the configuration area and the OTP blocks: each keeps the canonical form
of all three memories, the command queue and the configuration. -/

namespace Sys2Proof.Machine

theorem Nonvolatile.wf_iff (nv : Nonvolatile) :
    nv.wf = true ↔ nv.array.wf = true ∧ nv.config.wf = true ∧ nv.otp.wf = true := by
  simp [Nonvolatile.wf, and_assoc]

/-- The canonical form of the memories and what is kept from start to start. -/
def State.sound (s t : State) : Prop := t.kept = s.kept ∧ (s.nv.wf = true → t.nv.wf = true)

theorem State.sound_refl (s : State) : s.sound s := ⟨rfl, id⟩

theorem State.sound_trans {s t u : State} (h : s.sound t) (k : t.sound u) : s.sound u :=
  ⟨k.1.trans h.1, fun w => k.2 (h.2 w)⟩

theorem sound_of_keptNv {s t : State} (h : t.keptNv = s.keptNv) : s.sound t := by
  have h2 : t.nv = s.nv := congrArg Prod.snd h
  exact ⟨congrArg Prod.fst h, fun w => h2 ▸ w⟩

theorem sound_of_still {s t : State} (h : t.still = s.still) : s.sound t := sound_of_keptNv (keptNv_of_still h)

/-- A change of the array that keeps its form is sound. -/
theorem sound_array (s : State) (m : Memory) (h : s.nv.array.wf = true → m.wf = true) :
    s.sound { s with nv := { s.nv with array := m } } := by
  refine ⟨rfl, fun w => ?_⟩
  rw [Nonvolatile.wf_iff] at w ⊢
  exact ⟨h w.1, w.2⟩

/-- A change of the configuration area and its torn bytes that keeps the area's form is sound. -/
theorem sound_config (s : State) (m : Memory) (r : List Nat) (h : s.nv.config.wf = true → m.wf = true) :
    s.sound { s with nv := { s.nv with config := m, tornImage := r } } := by
  refine ⟨rfl, fun w => ?_⟩
  rw [Nonvolatile.wf_iff] at w ⊢
  exact ⟨w.1, h w.2.1, w.2.2⟩

/-- A change of the OTP blocks and locks that keeps the blocks' form is sound. -/
theorem sound_otp (s : State) (m : Memory) (l : Vector Bool 16) (h : s.nv.otp.wf = true → m.wf = true) :
    s.sound { s with nv := { s.nv with otp := m, otpLocks := l } } := by
  refine ⟨rfl, fun w => ?_⟩
  rw [Nonvolatile.wf_iff] at w ⊢
  exact ⟨w.1, w.2.1, h w.2.2⟩

theorem tearProgram_sound (s : State) (op : ProgramOp) : s.sound (s.tearProgram op) :=
  State.sound_trans (sound_array s _ (Memory.wf_writeBytes _ _)) (sound_of_keptNv rfl)

theorem tearArea_sound (s : State) (op : AreaOp) : s.sound (s.tearArea op) := by
  cases op with
  | write o d => exact State.sound_trans (sound_config s _ _ (Memory.wf_program _ _)) (sound_of_keptNv rfl)
  | erase => exact State.sound_trans (sound_config s _ _ (Memory.wf_writeBytes _ _)) (sound_of_keptNv rfl)
  | otp b d l => exact State.sound_trans (sound_otp s _ _ (Memory.wf_program _ _)) (sound_of_keptNv rfl)
  | freeze => exact State.sound_trans (sound_otp s _ _ (Memory.wf_program _ _)) (sound_of_keptNv rfl)

theorem markTorn_sound (s : State) : s.sound s.markTorn := by
  unfold State.markTorn; split <;> exact ⟨rfl, fun w => w⟩

theorem areaDone_sound (s : State) (r : Result) : s.sound (s.areaDone r) :=
  sound_of_keptNv ((State.runStore_keptNv _).trans rfl)

theorem configWritten_sound (s : State) (o : Nat) (d : List Byte) : s.sound (s.configWritten o d) := by
  unfold State.configWritten
  exact State.sound_trans (sound_config s _ _ (Memory.wf_program _ _)) (areaDone_sound _ _)

theorem configErased_sound (s : State) : s.sound s.configErased :=
  State.sound_trans (sound_config s _ _ (Memory.wf_eraseBytes _ _)) (areaDone_sound _ _)

theorem otpProgrammed_sound (s : State) (b : Fin 16) (d : List Byte) (l : Bool) : s.sound (s.otpProgrammed b d l).1 :=
  sound_otp s _ _ (Memory.wf_program _ _)

theorem otpWritten_sound (s : State) (b : Fin 16) (d : List Byte) (l : Bool) : s.sound (s.otpWritten b d l) :=
  State.sound_trans (otpProgrammed_sound s b d l) (areaDone_sound _ _)

theorem freezeWritten_sound (s : State) (pass : Bool) : s.sound (s.freezeWritten pass) := by
  have h : s.sound (if pass then s.otpProgrammed 15 freezeMark true else (s.tearArea .freeze, false)).1 := by
    split
    · exact otpProgrammed_sound _ _ _ _
    · exact tearArea_sound _ _
  unfold State.freezeWritten
  simp only
  generalize (if pass = true then s.otpProgrammed 15 freezeMark true else (s.tearArea .freeze, false)) = r at h
  refine State.sound_trans h (State.sound_trans ?_ (areaDone_sound _ _))
  exact ⟨rfl, id⟩

theorem configCompletes_sound (s : State) (pass : Bool) : s.sound (s.configCompletes pass) := by
  unfold State.configCompletes; repeat' split
  · exact configWritten_sound _ _ _
  · exact State.sound_trans (tearArea_sound _ _) (areaDone_sound _ _)
  · exact configErased_sound _
  · exact State.sound_trans (tearArea_sound _ _) (areaDone_sound _ _)
  · exact State.sound_refl s

theorem otpCompletes_sound (s : State) (pass : Bool) : s.sound (s.otpCompletes pass) := by
  unfold State.otpCompletes; repeat' split
  · exact otpWritten_sound _ _ _ _
  · exact State.sound_trans (tearArea_sound _ _) (areaDone_sound _ _)
  · exact freezeWritten_sound _ _
  · exact State.sound_refl s

theorem programPasses_sound (s : State) (op : ProgramOp) : s.sound (s.programPasses op) :=
  State.sound_trans (sound_array s _ (Memory.wf_writeBytes (op.records.flatMap (QRecord.bytes (s.aux op.file).base)) op.address))
    (sound_of_still (by simp [State.programPasses]))

theorem programFails_sound (s : State) (op : ProgramOp) : s.sound (s.programFails op) := by
  refine State.sound_trans (tearProgram_sound s op) (sound_of_keptNv ?_)
  unfold State.programFails
  simp only
  rw [foldl_keptNv]
  · rfl
  · intro t r; exact keptNv_of_still (by simp)

theorem programEnds_sound (s : State) (pass : Bool) : s.sound (s.programEnds pass) := by
  unfold State.programEnds; split
  · exact State.sound_refl s
  · refine State.sound_trans (State.sound_trans (t := { s with store := { s.store with program := none } })
      (sound_of_keptNv rfl) ?_) (sound_of_keptNv (State.runStore_keptNv _))
    split
    · exact programPasses_sound _ _
    · exact programFails_sound _ _

theorem erasePasses_sound (s : State) (g : Fin 128) : s.sound (s.erasePasses g) := by
  refine State.sound_trans (sound_array s _ (Memory.wf_eraseBytes (g.val * Config.granuleBytes) Config.granuleBytes))
    (sound_of_keptNv ?_)
  unfold State.erasePasses
  simp only [State.clearStoreFull_keptNv, State.countStore_keptNv, State.writeGranule_keptNv]

theorem eraseFails_sound (s : State) (g : Fin 128) : s.sound (s.eraseFails g) := sound_of_keptNv rfl

theorem eraseEnds_sound (s : State) (pass : Bool) : s.sound (s.eraseEnds pass) := by
  unfold State.eraseEnds; repeat' split
  · exact State.sound_refl s
  · exact State.sound_refl s
  · refine State.sound_trans (State.sound_trans (t := { s with store := { s.store with erase := none } })
      (sound_of_keptNv rfl) (erasePasses_sound _ _)) (sound_of_keptNv (State.runStore_keptNv _))
  · refine State.sound_trans (State.sound_trans (t := { s with store := { s.store with erase := none } })
      (sound_of_keptNv rfl) (eraseFails_sound _ _)) (sound_of_keptNv (State.runStore_keptNv _))

theorem cutOps_sound (s : State) : s.sound s.cutOps := by
  unfold State.cutOps
  simp only
  cases hp : s.store.program <;> simp only <;> split
  · exact State.sound_refl s
  · exact tearArea_sound _ _
  · exact tearProgram_sound _ _
  · exact State.sound_trans (tearProgram_sound _ _) (tearArea_sound _ _)

/-- An event keeps the canonical form and the kept parts where its meaning does. -/
theorem takeEvent_sound (s : State) (f : State → State) (h : ∀ t : State, t.sound (f t)) : s.sound (s.takeEvent f) := by
  unfold State.takeEvent; split
  · refine State.sound_trans (State.sound_trans (t := { s with mapLog := [], programNew := false })
      (sound_of_keptNv rfl) (h _)) (sound_of_keptNv (State.settle_keptNv _))
  · exact State.sound_refl s

end Sys2Proof.Machine
end

