-- ==== Sys2Proof/Laws/Plant.lean ====
section
/-! SUPPORT. The link's transmit side, the report store, the postings and the alarm unit's records leave the channel units
and the output stage alone: only the reports of the trip cause reach them. -/

namespace Sys2Proof.Machine

/-- The channel units and the output stage. -/
def State.plant (s : State) : Channels × Output := (s.channels, s.output)

@[simp] theorem State.ask_plant (s : State) (r : AlarmRequest) : (s.ask r).plant = s.plant := rfl
@[simp] theorem State.useFree_plant (s : State) (n : Nat) : (s.useFree n).plant = s.plant := rfl
@[simp] theorem State.writeGranule_plant (s : State) (g : Fin 128) (v : Granule) : (s.writeGranule g v).plant = s.plant := rfl
@[simp] theorem State.writeDir_plant (s : State) (e : Fin 32) (v : DirEntry) : (s.writeDir e v).plant = s.plant := rfl
@[simp] theorem State.setAux_plant (s : State) (e : Fin 32) (x : FileAux) : (s.setAux e x).plant = s.plant := rfl
@[simp] theorem State.countStore_plant (s : State) (f : StoreCounters → StoreCounters) : (s.countStore f).plant = s.plant := rfl
@[simp] theorem State.setAcc_plant (s : State) (i : Fin 4) (a : SlotAcc) (b : Bool) : (s.setAcc i a b).plant = s.plant := rfl

@[simp] theorem State.agenda_plant (s : State) (a : List AlarmRequest) : ({ s with agenda := a } : State).plant = s.plant := rfl
@[simp] theorem State.alarms_plant (s : State) (a : Alarms) : ({ s with alarms := a } : State).plant = s.plant := rfl

/-! ## The transmit side of the link -/

@[simp] theorem State.handBack_plant (s : State) (n : Notice) : (s.handBack n).plant = s.plant := by
  unfold State.handBack; repeat' split
  all_goals simp [State.plant]

@[simp] theorem State.enterBackoff_plant (s : State) : s.enterBackoff.plant = s.plant := by
  unfold State.enterBackoff; repeat' split
  all_goals simp [State.plant]

@[simp] theorem State.kickAccess_plant (s : State) : s.kickAccess.plant = s.plant := by
  unfold State.kickAccess; repeat' split
  all_goals simp
  simp [State.plant]

@[simp] theorem State.offer_plant (s : State) (n : Notice) : (s.offer n).plant = s.plant := by
  unfold State.offer
  simp only
  repeat' split
  all_goals first
    | rfl
    | (simp only [State.handBack_plant, State.kickAccess_plant, State.enterBackoff_plant]; rfl)

@[simp] theorem State.reoffer_plant (s : State) (n : Notice) : (s.reoffer n).plant = s.plant := by
  simp [State.reoffer]

@[simp] theorem State.reofferAlarm_plant (s : State) (k : AlarmEntry) : (s.reofferAlarm k).plant = s.plant := by
  unfold State.reofferAlarm; repeat' split
  all_goals simp

@[simp] theorem State.reofferAck_plant (s : State) (k : AlarmEntry) : (s.reofferAck k).plant = s.plant := by
  unfold State.reofferAck; repeat' split
  all_goals simp

@[simp] theorem State.reofferRetry_plant (n : Nat) (s : State) : (s.reofferRetry n).plant = s.plant := by
  induction n generalizing s with
  | zero => rfl
  | succ n ih =>
    unfold State.reofferRetry
    split
    · rfl
    · simp [ih]

/-- Folding an operation that leaves the plant alone leaves it alone. -/
theorem foldl_plant {α : Type} (f : State → α → State) (h : ∀ s a, (f s a).plant = s.plant) (l : List α) (s : State) :
    (l.foldl f s).plant = s.plant := by
  induction l generalizing s with
  | nil => rfl
  | cons a l ih => rw [List.foldl_cons, ih, h]

@[simp] theorem State.room_plant (s : State) : s.room.plant = s.plant := by
  unfold State.room
  rw [State.reofferRetry_plant, foldl_plant]
  intro s a; simp

/-! ## The report store -/

@[simp] theorem State.takeOut_plant (s : State) (p : QRecord → Bool) : (s.takeOut p).plant = s.plant := rfl

@[simp] theorem State.dropRecord_plant (s : State) (r : QRecord) : (s.dropRecord r).plant = s.plant := by
  unfold State.dropRecord
  simp only [State.ask_plant, State.countStore_plant]
  repeat' split
  all_goals rfl

@[simp] theorem State.dequeue_plant (s : State) (p : QRecord → Bool) : (s.dequeue p).plant = s.plant := by
  unfold State.dequeue
  simp only [apply_ite State.plant, State.ask_plant, ite_self]
  rfl

@[simp] theorem State.clearStoreFull_plant (s : State) : s.clearStoreFull.plant = s.plant := by
  unfold State.clearStoreFull; split <;> simp

@[simp] theorem State.reclaimFile_plant (s : State) (e : Fin 32) : (s.reclaimFile e).plant = s.plant := by
  unfold State.reclaimFile
  simp only [State.clearStoreFull_plant]
  refine Eq.trans rfl (foldl_plant (fun t g => State.writeGranule t g .erasing) (fun _ _ => rfl)
    (s.map.chain (s.dir e)) (s.writeDir e {}))

theorem State.reclaim_plant {s t : State} (h : s.reclaim = some t) : t.plant = s.plant := by
  unfold State.reclaim at h
  obtain ⟨e, _, rfl⟩ := Option.map_eq_some_iff.1 h
  simp

@[simp] theorem State.linkGranule_plant (s : State) (e : Fin 32) (g : Fin 128) : (s.linkGranule e g).plant = s.plant := by
  unfold State.linkGranule; simp only; split <;> simp

@[simp] theorem State.widenLast_plant (s : State) (e : Fin 32) (p : Nat) : (s.widenLast e p).plant = s.plant := by
  unfold State.widenLast; repeat' split
  all_goals simp

@[simp] theorem State.startProgram_plant (s : State) (e : Fin 32) (p : Place) (rs : List QRecord) :
    (s.startProgram e p rs).plant = s.plant := by
  rw [← State.widenLast_plant s e p.page]; rfl

@[simp] theorem State.programFrom_plant (s : State) (e : Fin 32) (r : QRecord) (f : List QRecord) :
    (s.programFrom e r f).plant = s.plant := by
  unfold State.programFrom; simp only; rw [State.startProgram_plant]; repeat' split
  all_goals simp

@[simp] theorem State.startErase_plant (s : State) (g : Fin 128) : (s.startErase g).plant = s.plant := rfl

@[simp] theorem State.dropHead_plant (s : State) (r : QRecord) : (s.dropHead r).plant = s.plant := by
  unfold State.dropHead; simp only; split <;> simp

@[simp] theorem State.chooseIdle_plant (s : State) : s.chooseIdle.1.plant = s.plant := by
  unfold State.chooseIdle; repeat' split
  all_goals simp
  exact State.reclaim_plant ‹_›

@[simp] theorem State.serveSuspended_plant (s : State) : s.serveSuspended.plant = s.plant := by
  unfold State.serveSuspended; repeat' split
  all_goals simp

@[simp] theorem State.chooseErasing_plant (s : State) (x : EraseOp) : (s.chooseErasing x).plant = s.plant := by
  unfold State.chooseErasing; repeat' split
  all_goals simp
  all_goals rfl

@[simp] theorem State.engineStep_plant (s : State) : s.engineStep.1.plant = s.plant := by
  unfold State.engineStep; repeat' split
  all_goals simp

@[simp] theorem State.writeStep_plant (s : State) (e : Fin 32) (st : FileStep) : (s.writeStep e st).plant = s.plant := by
  unfold State.writeStep; split <;> simp

@[simp] theorem State.takeStep_plant (s : State) (e : Fin 32) (st : FileStep) : (s.takeStep e st).plant = s.plant := by
  unfold State.takeStep; simp

theorem State.stepOnce_plant {s t : State} (h : s.stepOnce = some t) : t.plant = s.plant := by
  unfold State.stepOnce at h
  split at h
  · cases h
  · cases h; simp

@[simp] theorem State.runSteps_plant (n : Nat) (s : State) : (s.runSteps n).plant = s.plant := by
  induction n generalizing s with
  | zero => rfl
  | succ n ih =>
    unfold State.runSteps
    split
    · rfl
    · rw [ih]; exact State.stepOnce_plant ‹_›

@[simp] theorem State.storeLoop_plant (n : Nat) (s : State) : (s.storeLoop n).plant = s.plant := by
  induction n generalizing s with
  | zero => rfl
  | succ n ih =>
    unfold State.storeLoop
    simp only
    split
    · rw [ih]; simp
    · simp

@[simp] theorem State.runStore_plant (s : State) : s.runStore.plant = s.plant := State.storeLoop_plant 64 s

@[simp] theorem State.enqueue_plant (s : State) (r : QRecord) : (s.enqueue r).plant = s.plant := rfl

@[simp] theorem State.takeRecord_plant (s : State) (r : QRecord) : (s.takeRecord r).plant = s.plant := by
  unfold State.takeRecord; repeat' split
  all_goals simp
  rfl

@[simp] theorem State.nextNumber_plant (s : State) : s.nextNumber.plant = s.plant := rfl

@[simp] theorem State.append_plant (s : State) (type : RecordType) (rest : List Byte) (b : Binding) (p q : Bool) :
    (s.append type rest b p q).plant = s.plant := by
  unfold State.append; split <;> simp

@[simp] theorem State.bindNext_plant (s : State) (e : Fin 32) : (s.bindNext e).plant = s.plant := rfl

@[simp] theorem State.reserve_plant (s : State) (e : Fin 32) (n : Serial) : (s.reserve e n).plant = s.plant := by
  simp [State.reserve]

@[simp] theorem State.openFails_plant (s : State) : s.openFails.plant = s.plant := by
  unfold State.openFails
  rw [foldl_plant]
  · rfl
  · intro s r; simp

@[simp] theorem State.openFile_plant (s : State) (n : Serial) : (s.openFile n).1.plant = s.plant := by
  unfold State.openFile
  split
  · simp
  · split
    · simp
    · rename_i h
      have := State.reclaim_plant h
      split <;> simp [this]

@[simp] theorem State.requestStep_plant (s : State) (f : Option (Fin 32)) (st : FileStep) :
    (s.requestStep f st).plant = s.plant := by
  unfold State.requestStep; repeat' split
  all_goals simp

@[simp] theorem State.resumeFile_plant (s : State) (e : Fin 32) (age : Nat) : (s.resumeFile e age).plant = s.plant := by
  unfold State.resumeFile; simp only; split <;> simp

@[simp] theorem State.lateSummary_plant (s : State) (f : Option (Fin 32)) : (s.lateSummary f).plant = s.plant := by
  unfold State.lateSummary; repeat' split
  all_goals simp

/-! ## Postings -/

@[simp] theorem State.postMass_plant (s : State) (i : Fin 4) (n : Nat) : (s.postMass i n).plant = s.plant := rfl
@[simp] theorem State.postHeat_plant (s : State) (i : Fin 4) (n : Nat) : (s.postHeat i n).plant = s.plant := rfl
@[simp] theorem State.postRunning_plant (s : State) (i : Fin 4) (n : Nat) : (s.postRunning i n).plant = s.plant := rfl
@[simp] theorem State.postTripped_plant (s : State) (i : Fin 4) (n : Nat) : (s.postTripped i n).plant = s.plant := rfl
@[simp] theorem State.postDeviation_plant (s : State) (i : Fin 4) : (s.postDeviation i).plant = s.plant := rfl
@[simp] theorem State.postDivertedWeight_plant (s : State) (i : Fin 4) : (s.postDivertedWeight i).plant = s.plant := rfl
@[simp] theorem State.postDivertedFull_plant (s : State) (i : Fin 4) : (s.postDivertedFull i).plant = s.plant := rfl
@[simp] theorem State.postLost_plant (s : State) (i : Fin 4) : (s.postLost i).plant = s.plant := rfl
@[simp] theorem State.postJam_plant (s : State) (i : Fin 4) : (s.postJam i).plant = s.plant := rfl
@[simp] theorem State.postAir_plant (s : State) (i : Fin 4) (n : Nat) : (s.postAir i n).plant = s.plant := rfl
@[simp] theorem State.postRecovered_plant (s : State) (i : Fin 4) (n : Nat) : (s.postRecovered i n).plant = s.plant := rfl
@[simp] theorem State.postForced_plant (s : State) (i : Fin 4) (n : Nat) : (s.postForced i n).plant = s.plant := rfl
@[simp] theorem State.postStrokes_plant (s : State) (i : Fin 4) (n : Nat) : (s.postStrokes i n).plant = s.plant := rfl
@[simp] theorem State.postFlush_plant (s : State) (i : Fin 4) : (s.postFlush i).plant = s.plant := rfl
@[simp] theorem State.postFlushSeconds_plant (s : State) (i : Fin 4) (n : Nat) : (s.postFlushSeconds i n).plant = s.plant := rfl
@[simp] theorem State.postRaise_plant (s : State) (c : Nat) : (s.postRaise c).plant = s.plant := rfl

/-! ## The alarm unit's records -/

@[simp] theorem State.journal_plant (s : State) (n : Nat) (e : AlarmEntry) (r a l : Nat) :
    (s.journal n e r a l).plant = s.plant := by simp [State.journal]

@[simp] theorem State.dropAlarm_plant (s : State) (e : AlarmEntry) : (s.dropAlarm e).plant = s.plant := by
  unfold State.dropAlarm; split <;> rfl

@[simp] theorem State.placeAlarm_plant (s : State) (e : AlarmEntry) : (s.placeAlarm e).plant = s.plant := by
  unfold State.placeAlarm; split <;> rfl

@[simp] theorem State.setAlarm_plant (s : State) (e : AlarmEntry) : (s.setAlarm e).plant = s.plant := rfl

@[simp] theorem State.countAlarm_plant (s : State) (f : AlarmCounters → AlarmCounters) : (s.countAlarm f).plant = s.plant := rfl

@[simp] theorem State.forgetRetry_plant (s : State) (e : AlarmEntry) : (s.forgetRetry e).plant = s.plant := rfl

@[simp] theorem State.enterNew_plant (s : State) (e : AlarmEntry) : (s.enterNew e).plant = s.plant := by
  unfold State.enterNew
  rw [State.journal_plant, ← State.placeAlarm_plant s e]; rfl

@[simp] theorem State.logRaise_plant (s : State) (c : AlarmCode) (ch : Nat) : (s.logRaise c ch).plant = s.plant := by
  unfold State.logRaise; simp only
  split
  · rfl
  · have h : ∀ (e : AlarmEntry) (o : Serial),
        (State.postRaise (State.journal { s with alarms := { s.alarms with occurrence := o } } 1 e 4 0 0) 4).plant = s.plant := by
      intro e o
      rw [State.postRaise_plant, State.journal_plant]; rfl
    split
    · exact Eq.trans rfl (h _ _)
    · exact h _ _

@[simp] theorem State.evictAlarm_plant (s : State) (e : AlarmEntry) : (s.evictAlarm e).plant = s.plant := by
  unfold State.evictAlarm; simp only
  rw [State.journal_plant]
  split
  · have h : ∀ t : State, ∀ n, ({ t with alarms := t.alarms.retryPush n } : State).plant = t.plant := by
      intro t n; simp [State.plant]
    rw [h]; simp
  · simp

@[simp] theorem State.logClear_plant (s : State) (c : AlarmCode) (ch : Nat) : (s.logClear c ch).plant = s.plant := by
  unfold State.logClear; split
  · rfl
  · simp only [State.journal_plant]; rfl

@[simp] theorem State.offerClear_plant (s : State) (e : AlarmEntry) : (s.offerClear e).plant = s.plant := by
  unfold State.offerClear; split <;> simp

@[simp] theorem State.acknowledgeEntry_plant (s : State) (e : AlarmEntry) (n : Nat) :
    (s.acknowledgeEntry e n).plant = s.plant := by
  unfold State.acknowledgeEntry; repeat' split
  all_goals simp

@[simp] theorem State.orphanEntry_plant (s : State) (e : AlarmEntry) : (s.orphanEntry e).plant = s.plant := by
  unfold State.orphanEntry; repeat' split
  all_goals simp

theorem State.makeRoom_plant {s t : State} (h : s.makeRoom = some t) : t.plant = s.plant := by
  unfold State.makeRoom at h
  split at h
  · cases h; rfl
  · obtain ⟨e, _, rfl⟩ := Option.map_eq_some_iff.1 h
    simp

@[simp] theorem State.clearEntry_plant (s : State) (e : AlarmEntry) : (s.clearEntry e).plant = s.plant := by
  unfold State.clearEntry; simp only; repeat' split
  all_goals simp

@[simp] theorem State.clearKey_plant (s : State) (c : AlarmCode) (ch : Nat) : (s.clearKey c ch).plant = s.plant := by
  unfold State.clearKey; repeat' split
  all_goals simp

@[simp] theorem State.floodCheck_plant (s : State) : s.floodCheck.plant = s.plant := by
  unfold State.floodCheck; split <;> simp

@[simp] theorem State.enterPeer_plant (s : State) (o : Nat) (c : AlarmCode) (ch cls : Nat) (occ : Serial) :
    (s.enterPeer o c ch cls occ).plant = s.plant := by simp [State.enterPeer]

@[simp] theorem State.staleNotice_plant (s : State) : s.staleNotice.plant = s.plant := rfl
@[simp] theorem State.ask_slot (s : State) (r : AlarmRequest) (j : Fin 4) : (s.ask r).slot j = s.slot j := rfl
@[simp] theorem State.postJam_slot (s : State) (i j : Fin 4) : (s.postJam i).slot j = s.slot j := rfl
@[simp] theorem State.postLost_slot (s : State) (i j : Fin 4) : (s.postLost i).slot j = s.slot j := rfl
@[simp] theorem State.postMass_slot (s : State) (i j : Fin 4) (n : Nat) : (s.postMass i n).slot j = s.slot j := rfl
@[simp] theorem State.postHeat_slot (s : State) (i j : Fin 4) (n : Nat) : (s.postHeat i n).slot j = s.slot j := rfl

end Sys2Proof.Machine
end

