-- ==== Sys2Proof/Laws/Trips.lean ====
section
/-! SUPPORT. What settling the alarm requests does to the slots: it reports the trip cause and nothing else, so that a slot
that neither runs nor stands TRIPPED is left as it is; and that with no request it does nothing at all. -/

namespace Sys2Proof.Machine

/-! ## No request -/

theorem State.settleSome_nil (n : Nat) {s : State} (h : s.agenda = []) : s.settleSome n = s := by
  cases n with
  | zero => rfl
  | succ n => unfold State.settleSome; rw [h]; rfl

/-- With no request there is nothing to settle. -/
theorem State.settle_nil {s : State} (h : s.agenda = []) : s.settle = s := by
  unfold State.settle
  rw [State.settleSome_nil _ h, ← h]

@[simp] theorem State.settle_agenda (s : State) : s.settle.agenda = [] := rfl

/-- An event whose meaning leaves no request is its meaning. -/
theorem State.takeEvent_quiet {s : State} (f : State → State) (hs : s.live = true)
    (h : (f { s with mapLog := [], programNew := false }).agenda = []) :
    s.takeEvent f = f { s with mapLog := [], programNew := false } := by
  have hs' : (s.supply && !s.resetHeld) = true := hs
  simp only [State.takeEvent, hs', if_true]
  exact State.settle_nil h

/-- An event of a live station is its meaning with its requests settled. -/
theorem State.takeEvent_live {s : State} (f : State → State) (hs : s.live = true) :
    s.takeEvent f = (f { s with mapLog := [], programNew := false }).settle := by
  have hs' : (s.supply && !s.resetHeld) = true := hs
  simp only [State.takeEvent, hs', if_true]

/-- An event of a station that has no supply or is held in RESET has no effect. -/
theorem State.takeEvent_dead {s : State} (f : State → State) (hs : s.live = false) : s.takeEvent f = s := by
  have hs' : (s.supply && !s.resetHeld) = false := hs
  simp [State.takeEvent, hs']

/-! ## One slot at a time -/

/-- All slots but one are left alone. -/
def State.onlySlot (i : Fin 4) (s t : State) : Prop := ∀ j, j ≠ i → t.slot j = s.slot j

theorem onlySlot_refl (i : Fin 4) (s : State) : s.onlySlot i s := fun _ _ => rfl

theorem onlySlot_trans {i : Fin 4} {s t u : State} (h : State.onlySlot i s t) (k : State.onlySlot i t u) :
    State.onlySlot i s u := fun j hj => (k j hj).trans (h j hj)

theorem onlySlot_of_plant {i : Fin 4} {s t : State} (h : t.plant = s.plant) : State.onlySlot i s t := by
  have hc : t.channels = s.channels := congrArg Prod.fst h
  intro j _
  simp [State.slot, hc]

theorem onlySlot_of_slots {i : Fin 4} {s t : State} (h : t.channels.slots = s.channels.slots) : State.onlySlot i s t := by
  intro j _
  simp [State.slot, h]

theorem setSlot_onlySlot (s : State) (i : Fin 4) (u : SlotUnit) : s.onlySlot i (s.setSlot i u) := fun j hj =>
  State.setSlot_slot_ne s i j u hj

@[simp] theorem State.kickStream_slots (s : State) : s.kickStream.channels = s.channels := by
  unfold State.kickStream; repeat' split
  all_goals rfl

@[simp] theorem State.writeLatch_slots (s : State) (o : Fin 8) (n : Nat) : (s.writeLatch o n).channels = s.channels := by
  unfold State.writeLatch; split <;> simp

@[simp] theorem State.uncarry_slots (s : State) (o : Fin 8) : (s.uncarry o).channels = s.channels := by
  unfold State.uncarry; split <;> simp

@[simp] theorem State.takeCount_slots (s : State) (o : Fin 8) (n : Nat) : (s.takeCount o n).channels = s.channels := by
  unfold State.takeCount; split <;> simp

@[simp] theorem State.handTarget_slots (s : State) (o : Fin 8) (x f : Nat) : (s.handTarget o x f).channels = s.channels := by
  simp [State.handTarget]

theorem noteChange_slots (s : State) (i : Fin 4) : (s.noteChange i).channels.slots = s.channels.slots := by
  have h : ∀ t : State, (t.publish i).plant = t.plant := by intro t; unfold State.publish; split <;> simp
  have k : (s.markNoticed i).channels.slots = s.channels.slots := by unfold State.markNoticed; split <;> rfl
  exact (congrArg (fun p => p.1.slots) (h (s.markNoticed i))).trans k

theorem noteChange_onlySlot (s : State) (i j : Fin 4) : State.onlySlot j s (s.noteChange i) :=
  onlySlot_of_slots (noteChange_slots s i)

theorem noteChange_slot (s : State) (i j : Fin 4) : (s.noteChange i).slot j = s.slot j := by
  simp [State.slot, noteChange_slots]

theorem cfStop_slot (s : State) (i : Fin 4) (c : CfSlot) (st : CfState) :
    (s.cfStop i c st).slot i = .cf (c.stopped st) := by
  unfold State.cfStop
  simp only
  rw [noteChange_slot]
  split <;> simp [State.slot]

theorem cfStop_onlySlot (s : State) (i : Fin 4) (c : CfSlot) (st : CfState) : State.onlySlot i s (s.cfStop i c st) := by
  unfold State.cfStop
  simp only
  refine onlySlot_trans ?_ (noteChange_onlySlot _ i i)
  split
  all_goals exact onlySlot_trans (setSlot_onlySlot s i (.cf (c.stopped st))) (onlySlot_of_slots (by simp))

theorem cfTrip_onlySlot (s : State) (i : Fin 4) (c : CfSlot) : State.onlySlot i s (s.cfTrip i c) := by
  unfold State.cfTrip; repeat' split
  all_goals first | exact onlySlot_refl _ _ | exact cfStop_onlySlot _ _ _ _

theorem clearStarved_slot (s : State) (i j : Fin 4) : (s.clearStarved i).slot j = s.slot j := by
  unfold State.clearStarved; split <;> rfl

theorem diStop_slot (s : State) (i : Fin 4) (d : DiSlot) (st : DiState) :
    (s.diStop i d st).slot i
      = .di { d with state := st, debt := 0, call := false, alloc := { d.alloc with share := 0, heat := 0 } } := by
  simp [State.diStop, noteChange_slot, clearStarved_slot]

theorem diStop_onlySlot (s : State) (i : Fin 4) (d : DiSlot) (st : DiState) : State.onlySlot i s (s.diStop i d st) := by
  intro j hj
  simp only [State.diStop, noteChange_slot, clearStarved_slot]
  exact setSlot_onlySlot s i _ j hj

theorem onDi_onlySlot {f : DiSlot → State} {s : State} {i : Fin 4} (h : ∀ d, State.onlySlot i s (f d)) :
    State.onlySlot i s (s.onDi i f) := by
  unfold State.onDi; split
  · exact h _
  · exact onlySlot_refl _ _

theorem gateJam_onlySlot (s : State) (i : Fin 4) (d : DiSlot) : State.onlySlot i s (s.gateJam i d) := by
  intro j hj
  unfold State.gateJam
  simp only
  repeat' split
  all_goals simp [diStop_onlySlot _ i _ _ j hj, State.setSlot_slot_ne _ i j _ hj]

theorem tryStart_onlySlot (s : State) (i : Fin 4) : State.onlySlot i s (s.tryStart i) := by
  unfold State.tryStart
  apply onDi_onlySlot; intro d
  repeat' split
  all_goals first | exact onlySlot_refl _ _ | exact setSlot_onlySlot _ _ _

theorem gateReady_onlySlot (s : State) (i : Fin 4) (d : DiSlot) : State.onlySlot i s (s.gateReady i d) := by
  have h : ∀ t : State, State.onlySlot i t (t.onDi i fun d' => t.diStop i d' .off) := fun t =>
    onDi_onlySlot fun d' => diStop_onlySlot _ _ _ _
  intro j hj
  unfold State.gateReady
  simp only
  repeat' split
  all_goals simp [h _ j hj, State.setSlot_slot_ne _ i j _ hj]

theorem countFed_onlySlot (s : State) (i : Fin 4) (d : DiSlot) : State.onlySlot i s (s.countFed i d) := by
  intro j hj
  unfold State.countFed; split
  · rfl
  · simp [State.setSlot_slot_ne _ i j _ hj]

theorem gateRun_onlySlot (n : Nat) (s : State) (i : Fin 4) : State.onlySlot i s (s.gateRun n i) := by
  induction n generalizing s with
  | zero => exact onlySlot_refl _ _
  | succ n ih =>
    have h : ∀ (t : State) (k : Nat),
        State.onlySlot i t (t.onDi i fun d1 => t.setSlot i (.di (d1.enterGate k .lowerClosing))) :=
      fun t k => onDi_onlySlot fun d1 => setSlot_onlySlot _ _ _
    unfold State.gateRun
    apply onDi_onlySlot
    intro d j hj
    repeat' split
    all_goals simp [ih _ j hj, gateJam_onlySlot _ i _ j hj, State.setSlot_slot_ne _ i j _ hj,
      tryStart_onlySlot _ i j hj, gateReady_onlySlot _ i _ j hj, h _ _ j hj, countFed_onlySlot _ i _ j hj]

theorem interrupt_onlySlot (s : State) (i : Fin 4) : State.onlySlot i s (s.interrupt i) := by
  unfold State.interrupt
  apply onDi_onlySlot; intro d
  split
  · exact onlySlot_trans (setSlot_onlySlot s i _) (gateRun_onlySlot _ _ _)
  · exact setSlot_onlySlot _ _ _
  · exact onlySlot_refl _ _

theorem diTrip_onlySlot (s : State) (i : Fin 4) (d : DiSlot) : State.onlySlot i s (s.diTrip i d) := by
  unfold State.diTrip; repeat' split
  all_goals first
    | exact onlySlot_refl _ _
    | exact onlySlot_trans (diStop_onlySlot _ _ _ _) (interrupt_onlySlot _ _)

/-! ## The trip cause and settling -/

/-- A slot that a report of the trip cause does not move: it neither runs nor stands TRIPPED. -/
def SlotUnit.stable : SlotUnit → Bool
  | .cf c => c.state == .off || c.state == .fault
  | .di d => d.state == .off || d.state == .fault
  | _ => true

/-- Every slot that neither runs nor stands TRIPPED is left as it is. -/
def State.tripsOnly (s t : State) : Prop := ∀ j, (s.slot j).stable = true → t.slot j = s.slot j

theorem tripsOnly_refl (s : State) : s.tripsOnly s := fun _ _ => rfl

theorem tripsOnly_trans {s t u : State} (h : s.tripsOnly t) (k : t.tripsOnly u) : s.tripsOnly u := fun j hj =>
  (k j ((h j hj).symm ▸ hj)).trans (h j hj)

theorem tripsOnly_of_plant {s t : State} (h : t.plant = s.plant) : s.tripsOnly t := by
  have hc : t.channels = s.channels := congrArg Prod.fst h
  intro j _
  simp [State.slot, hc]

theorem tripsOnly_slot {s t : State} {i : Fin 4} (h : State.onlySlot i s t)
    (k : (s.slot i).stable = true → t.slot i = s.slot i) : s.tripsOnly t := by
  intro j hj
  by_cases e : j = i
  · subst e; exact k hj
  · exact h j e

/-- R142: one slot's report. -/
theorem evalTrip_tripsOnly (s : State) (i : Fin 4) :
    s.tripsOnly (match s.slot i with
      | .cf c => s.cfTrip i c
      | .di d => s.diTrip i d
      | _ => s) := by
  cases hu : s.slot i with
  | cf c =>
    refine tripsOnly_slot (cfTrip_onlySlot s i c) fun hs => ?_
    rw [hu] at hs
    simp only [SlotUnit.stable, Bool.or_eq_true, beq_iff_eq] at hs
    rcases hs with hs | hs <;> simp [State.cfTrip, hs, CfState.runs, hu]
  | di d =>
    refine tripsOnly_slot (diTrip_onlySlot s i d) fun hs => ?_
    rw [hu] at hs
    simp only [SlotUnit.stable, Bool.or_eq_true, beq_iff_eq] at hs
    rcases hs with hs | hs <;> simp [State.diTrip, hs, DiSlot.runs, hu]
  | _ => exact tripsOnly_refl s

theorem eachSlot_tripsOnly {f : State → Fin 4 → State} (h : ∀ s i, State.tripsOnly s (f s i)) (s : State) :
    s.tripsOnly (s.eachSlot f) :=
  tripsOnly_trans (tripsOnly_trans (tripsOnly_trans (h _ _) (h _ _)) (h _ _)) (h _ _)

theorem evalTrips_tripsOnly (s : State) : s.tripsOnly s.evalTrips := eachSlot_tripsOnly evalTrip_tripsOnly s

theorem enterOwn_tripsOnly (s : State) (c : AlarmCode) (ch : Nat) : s.tripsOnly (s.enterOwn c ch) := by
  have h : ∀ (e : AlarmEntry) (o : Serial),
      (State.postRaise (State.enterNew { s with alarms := { s.alarms with occurrence := o } } e) e.cls).plant = s.plant := by
    intro e o
    rw [State.postRaise_plant, State.enterNew_plant, State.alarms_plant]
  unfold State.enterOwn
  simp only
  refine tripsOnly_trans (tripsOnly_of_plant ?_) (evalTrips_tripsOnly _)
  split
  · rw [State.offer_plant, h]
  · rw [h]

theorem raiseFlood_tripsOnly (s : State) : s.tripsOnly s.raiseFlood := by
  unfold State.raiseFlood
  refine tripsOnly_trans (tripsOnly_of_plant ?_) (enterOwn_tripsOnly _ _ _)
  split <;> rfl

theorem loseRaise_tripsOnly (s : State) : s.tripsOnly s.loseRaise := by
  unfold State.loseRaise
  simp only
  repeat' split
  · exact tripsOnly_of_plant (by simp)
  · exact tripsOnly_of_plant (by simp)
  · exact tripsOnly_trans (tripsOnly_of_plant (by simp)) (raiseFlood_tripsOnly _)

theorem takeRaise_tripsOnly (s : State) (c : AlarmCode) (ch : Nat) : s.tripsOnly (s.takeRaise c ch) := by
  unfold State.takeRaise; repeat' split
  · exact tripsOnly_of_plant (by simp)
  · exact tripsOnly_of_plant (by simp)
  · exact enterOwn_tripsOnly _ _ _
  · exact tripsOnly_refl s
  · exact loseRaise_tripsOnly s
  · rename_i h
    exact tripsOnly_trans (tripsOnly_of_plant (State.makeRoom_plant h))
      (tripsOnly_trans (tripsOnly_of_plant (State.forgetRetry_plant _ _)) (enterOwn_tripsOnly _ _ _))

theorem afterChange_tripsOnly (s : State) : s.tripsOnly s.afterChange :=
  tripsOnly_trans (tripsOnly_of_plant (by simp)) (evalTrips_tripsOnly s.floodCheck)

theorem takeClear_tripsOnly (s : State) (c : AlarmCode) (ch : Nat) : s.tripsOnly (s.takeClear c ch) := by
  unfold State.takeClear; split
  · exact tripsOnly_of_plant (by simp)
  · exact tripsOnly_trans (tripsOnly_of_plant (by simp)) (afterChange_tripsOnly _)

theorem takeRequest_tripsOnly (s : State) (r : AlarmRequest) : s.tripsOnly (s.takeRequest r) := by
  cases r
  · exact takeRaise_tripsOnly _ _ _
  · exact takeClear_tripsOnly _ _ _

theorem takeFirst_tripsOnly (s : State) : s.tripsOnly s.takeFirst := by
  unfold State.takeFirst; split
  · exact tripsOnly_refl s
  · exact tripsOnly_trans (takeRequest_tripsOnly _ _) (tripsOnly_of_plant (State.agenda_plant _ _))

theorem settleSome_tripsOnly (n : Nat) (s : State) : s.tripsOnly (s.settleSome n) := by
  induction n generalizing s with
  | zero => exact tripsOnly_refl s
  | succ n ih =>
    unfold State.settleSome
    split
    · exact tripsOnly_refl s
    · exact tripsOnly_trans (takeFirst_tripsOnly s) (ih _)

/-- Settling moves only slots that run or stand TRIPPED. -/
theorem settle_tripsOnly (s : State) : s.tripsOnly s.settle :=
  tripsOnly_trans (settleSome_tripsOnly Config.settleFuel s) (tripsOnly_of_plant (State.agenda_plant _ _))

end Sys2Proof.Machine
end

