-- ==== Sys2Proof/Laws/Offers.lean ====
section
/-! SUPPORT. What offering a notice does to the link, and which operations offer none: the report store leaves the link and
the alarm table alone. -/

namespace Sys2Proof.Machine

/-! ## One offer -/

theorem Link.tookOffer_entered (l : Link) (n : Notice) : l.tookOffer (l.enter n).1 n := ⟨rfl, .inl rfl⟩

theorem State.handBack_link (s : State) (n : Notice) : (s.handBack n).link = s.link := by
  unfold State.handBack; repeat' split
  all_goals rfl

theorem State.enterBackoff_tookOffer (s : State) (l : Link) (n : Notice) (h : s.link = (l.enter n).1) :
    l.tookOffer s.enterBackoff.link n := by
  unfold State.enterBackoff
  split
  · exact ⟨by rw [← h], .inl (by rw [← h])⟩
  · rename_i hq
    simp only
    split
    · exact ⟨by rw [← h]; rfl, .inr ⟨rfl, by rw [← h]; rfl⟩⟩
    · exact ⟨by rw [← h], .inl (by rw [← h])⟩

theorem State.kickAccess_tookOffer (s : State) (l : Link) (n : Notice) (h : s.link = (l.enter n).1) :
    l.tookOffer s.kickAccess.link n := by
  have same : l.tookOffer s.link n := h ▸ l.tookOffer_entered n
  unfold State.kickAccess
  repeat' split
  all_goals first
    | exact same
    | exact s.enterBackoff_tookOffer l n h
    | exact ⟨by rw [← h], .inl (by rw [← h])⟩

/-- What an offer does to the link, outside START HALT and COMMISSION. -/
theorem State.offer_tookOffer (s : State) (n : Notice) (h : s.station ≠ .startHalt) (k : s.station ≠ .commission) :
    s.link.tookOffer (s.offer n).link n := by
  unfold State.offer
  rw [if_neg (by simp [h, k])]
  simp only
  repeat' split
  · exact s.link.tookOffer_entered n
  · exact State.enterBackoff_tookOffer _ _ _ rfl
  · exact State.kickAccess_tookOffer _ _ _ rfl
  · rw [State.handBack_link]; exact s.link.tookOffer_entered n

theorem insertFrame_mem (f : QFrame) (q : List QFrame) : f ∈ insertFrame f q := by
  induction q with
  | nil => simp [insertFrame]
  | cons g q ih => unfold insertFrame; split <;> simp [ih]
theorem coalesceInto_mem (n : Notice) (q : List QFrame) (h : ∃ f ∈ q, n.coalescesWith f = true) :
    ∃ f ∈ coalesceInto n q, f.notice = n := by
  induction q with
  | nil => simp at h
  | cons g q ih =>
    unfold coalesceInto
    split
    · exact ⟨_, List.mem_cons_self, rfl⟩
    · rename_i hg
      obtain ⟨f, hf, k⟩ := h
      rcases List.mem_cons.1 hf with rfl | hf
      · exact absurd k hg
      · obtain ⟨f, hf, e⟩ := ih ⟨f, hf, k⟩
        exact ⟨f, List.mem_cons_of_mem _ hf, e⟩
/-- R9, R10: a notice that coalesces, or that finds room, enters the queue. -/
theorem Link.enter_mem (l : Link) (n : Notice) (h : l.queue.length < 12 ∨ ∃ f ∈ l.queue, n.coalescesWith f = true) :
   ∃ f ∈ (l.enter n).1.queue, f.notice = n := by
  unfold Link.enter
  split
  · rename_i hc; simp only
    apply coalesceInto_mem; simpa using hc
  · rename_i hc
    have : l.queue.length < Config.queueSize := by
      rcases h with h | ⟨f, hf, k⟩
      · exact h
      · exact absurd (List.any_eq_true.2 ⟨f, hf, k⟩) hc
    rw [if_pos this]
    exact ⟨_, insertFrame_mem _ _, rfl⟩
/-- A notice that coalesces, or that finds room, stands in the queue after its offer. -/
theorem Link.tookOffer_mem {l m : Link} {n : Notice} (h : l.tookOffer m n)
    (k : l.queue.length < 12 ∨ ∃ f ∈ l.queue, n.coalescesWith f = true) :
    ∃ f ∈ m.queue, f.notice = n := by
  obtain ⟨f, hf, e⟩ := Link.enter_mem l n k
  rcases h.2 with h | ⟨_, h⟩
  · exact ⟨f, h ▸ hf, e⟩
  · rw [h]
    cases hq : (l.enter n).1.queue with
    | nil => rw [hq] at hf; simp at hf
    | cons g q =>
      rw [hq] at hf
      unfold commitHead
      rcases List.mem_cons.1 hf with rfl | hf
      · exact ⟨_, List.mem_cons_self, e⟩
      · exact ⟨f, List.mem_cons_of_mem _ hf, e⟩

/-! ## What the report store leaves alone -/

/-- The link and the alarm table. -/
def State.wire (s : State) : Link × Alarms := (s.link, s.alarms)

theorem link_of_wire {s t : State} (h : t.wire = s.wire) : t.link = s.link := congrArg Prod.fst h

theorem alarms_of_wire {s t : State} (h : t.wire = s.wire) : t.alarms = s.alarms := congrArg Prod.snd h

theorem foldl_wire {α : Type} (f : State → α → State) (h : ∀ s a, (f s a).wire = s.wire) (l : List α) (s : State) :
    (l.foldl f s).wire = s.wire := by
  induction l generalizing s with
  | nil => rfl
  | cons a l ih => rw [List.foldl_cons, ih, h]

@[simp] theorem State.ask_wire (s : State) (r : AlarmRequest) : (s.ask r).wire = s.wire := rfl
@[simp] theorem State.setSlot_wire (s : State) (i : Fin 4) (u : SlotUnit) : (s.setSlot i u).wire = s.wire := rfl
@[simp] theorem State.setLatch_wire (s : State) (o : Fin 8) (l : Latch) : (s.setLatch o l).wire = s.wire := rfl
@[simp] theorem State.writeGranule_wire (s : State) (g : Fin 128) (v : Granule) : (s.writeGranule g v).wire = s.wire := rfl
@[simp] theorem State.writeDir_wire (s : State) (e : Fin 32) (v : DirEntry) : (s.writeDir e v).wire = s.wire := rfl
@[simp] theorem State.setAux_wire (s : State) (e : Fin 32) (x : FileAux) : (s.setAux e x).wire = s.wire := rfl
@[simp] theorem State.countStore_wire (s : State) (f : StoreCounters → StoreCounters) :
    (s.countStore f).wire = s.wire := rfl
@[simp] theorem State.takeOut_wire (s : State) (p : QRecord → Bool) : (s.takeOut p).wire = s.wire := rfl
@[simp] theorem State.enqueue_wire (s : State) (r : QRecord) : (s.enqueue r).wire = s.wire := rfl
@[simp] theorem State.startErase_wire (s : State) (g : Fin 128) : (s.startErase g).wire = s.wire := rfl
@[simp] theorem State.nextNumber_wire (s : State) : s.nextNumber.wire = s.wire := rfl
@[simp] theorem State.bindNext_wire (s : State) (e : Fin 32) : (s.bindNext e).wire = s.wire := rfl

@[simp] theorem State.dropRecord_wire (s : State) (r : QRecord) : (s.dropRecord r).wire = s.wire := by
  unfold State.dropRecord
  simp only [State.ask_wire, State.countStore_wire]
  repeat' split
  all_goals rfl

@[simp] theorem State.dequeue_wire (s : State) (p : QRecord → Bool) : (s.dequeue p).wire = s.wire := by
  unfold State.dequeue
  simp only [apply_ite State.wire, State.ask_wire, ite_self]
  rfl

@[simp] theorem State.clearStoreFull_wire (s : State) : s.clearStoreFull.wire = s.wire := by
  unfold State.clearStoreFull; split <;> simp

@[simp] theorem State.reclaimFile_wire (s : State) (e : Fin 32) : (s.reclaimFile e).wire = s.wire := by
  unfold State.reclaimFile
  simp only [State.clearStoreFull_wire]
  refine Eq.trans rfl (foldl_wire (fun t g => State.writeGranule t g .erasing) (fun _ _ => rfl)
    (s.map.chain (s.dir e)) (s.writeDir e {}))

theorem State.reclaim_wire {s t : State} (h : s.reclaim = some t) : t.wire = s.wire := by
  unfold State.reclaim at h
  obtain ⟨e, _, rfl⟩ := Option.map_eq_some_iff.1 h
  simp

@[simp] theorem State.linkGranule_wire (s : State) (e : Fin 32) (g : Fin 128) : (s.linkGranule e g).wire = s.wire := by
  unfold State.linkGranule; simp only; split <;> simp

@[simp] theorem State.widenLast_wire (s : State) (e : Fin 32) (p : Nat) : (s.widenLast e p).wire = s.wire := by
  unfold State.widenLast; repeat' split
  all_goals simp

@[simp] theorem State.startProgram_wire (s : State) (e : Fin 32) (p : Place) (rs : List QRecord) :
    (s.startProgram e p rs).wire = s.wire := by
  rw [← State.widenLast_wire s e p.page]; rfl

@[simp] theorem State.programFrom_wire (s : State) (e : Fin 32) (r : QRecord) (f : List QRecord) :
    (s.programFrom e r f).wire = s.wire := by
  unfold State.programFrom; simp only; rw [State.startProgram_wire]; repeat' split
  all_goals simp

@[simp] theorem State.dropHead_wire (s : State) (r : QRecord) : (s.dropHead r).wire = s.wire := by
  unfold State.dropHead; simp only; split <;> simp

@[simp] theorem State.chooseIdle_wire (s : State) : s.chooseIdle.1.wire = s.wire := by
  unfold State.chooseIdle; repeat' split
  all_goals simp
  exact State.reclaim_wire ‹_›

@[simp] theorem State.serveSuspended_wire (s : State) : s.serveSuspended.wire = s.wire := by
  unfold State.serveSuspended; repeat' split
  all_goals simp

@[simp] theorem State.chooseErasing_wire (s : State) (x : EraseOp) : (s.chooseErasing x).wire = s.wire := by
  unfold State.chooseErasing; simp only; repeat' split
  all_goals first
    | rfl
    | rw [State.serveSuspended_wire]
  rfl

@[simp] theorem State.engineStep_wire (s : State) : s.engineStep.1.wire = s.wire := by
  unfold State.engineStep; repeat' split
  all_goals simp

@[simp] theorem State.takeStep_wire (s : State) (e : Fin 32) (st : FileStep) : (s.takeStep e st).wire = s.wire := by
  unfold State.takeStep State.writeStep; split <;> simp

theorem State.stepOnce_wire {s t : State} (h : s.stepOnce = some t) : t.wire = s.wire := by
  unfold State.stepOnce at h
  split at h
  · cases h
  · cases h; simp

@[simp] theorem State.runSteps_wire (n : Nat) (s : State) : (s.runSteps n).wire = s.wire := by
  induction n generalizing s with
  | zero => rfl
  | succ n ih =>
    unfold State.runSteps; split
    · rfl
    · rw [ih, State.stepOnce_wire ‹_›]

@[simp] theorem State.runStore_wire (s : State) : s.runStore.wire = s.wire := by
  unfold State.runStore
  generalize 64 = n
  induction n generalizing s with
  | zero => rfl
  | succ n ih => unfold State.storeLoop; simp only; split <;> simp [ih]

@[simp] theorem State.takeRecord_wire (s : State) (r : QRecord) : (s.takeRecord r).wire = s.wire := by
  unfold State.takeRecord; repeat' split
  all_goals simp
  all_goals rfl

@[simp] theorem State.append_wire (s : State) (type : RecordType) (rest : List Byte) (b : Binding) (p q : Bool) :
    (s.append type rest b p q).wire = s.wire := by
  unfold State.append; split <;> simp

@[simp] theorem State.openFails_wire (s : State) : s.openFails.wire = s.wire := by
  unfold State.openFails
  simp only
  rw [foldl_wire _ (by intro t r; simp)]
  rfl

@[simp] theorem State.openFile_wire (s : State) (n : Serial) : (s.openFile n).1.wire = s.wire := by
  have h : ∀ (t : State) (e : Fin 32), (t.reserve e n).wire = t.wire := by intro t e; simp [State.reserve]
  unfold State.openFile; repeat' split
  all_goals simp [h]
  all_goals exact State.reclaim_wire ‹_›

@[simp] theorem State.requestStep_wire (s : State) (f : Option (Fin 32)) (st : FileStep) :
    (s.requestStep f st).wire = s.wire := by
  unfold State.requestStep; repeat' split
  all_goals simp

/-! ## The firing order -/

theorem State.restartRefresh_link (s : State) : s.restartRefresh.link = s.link := by
  unfold State.restartRefresh; repeat' split
  all_goals rfl
theorem State.adopt_link (s : State) (c : FiringOrder) (b : Bool) : (s.adopt c b).link = s.link := by
  unfold State.adopt
  simp only [State.restartRefresh_link]
  split
  · exact link_of_wire (by simp; rfl)
  · exact link_of_wire (by simp; rfl)
/-- R34: considering an order offers nothing. -/
theorem State.considerOrder_link (s : State) (c : FiringOrder) (b : Bool) : (s.considerOrder c b).link = s.link := by
  unfold State.considerOrder; split
  · exact State.adopt_link _ _ _
  · rfl
  · rfl

/-! ## The notice of a slot -/

/-- R87, R88: publishing a slot offers its notice. -/
theorem State.publish_eq (s : State) (i : Fin 4) :
    s.publish i = match s.slotNotice i with
      | none => s
      | some n => s.offer n := by
  unfold State.publish State.slotNotice
  cases s.slot i with
  | unused => rfl
  | cf c => simp [State.cfNotice, State.inputFresh]; cases (s.input c.par.input).freshness <;> rfl
  | di d => rfl
  | ca a =>
    have : min 65535 (s.caFlow a) = (if (s.input a.par.flowInput).freshness = .failed then 0
        else min 65535 (s.input a.par.flowInput).value.toNat) := by
      unfold State.caFlow State.inputFailed floorZero; by_cases h : (s.input a.par.flowInput).freshness = .failed <;> simp [h]
    simp [State.caNotice, this]
  | cg g => simp [State.cgNotice]; cases g.state <;> rfl

/-- An offered heat or air notice changes the link alone, and the free values drawn for it. -/
theorem State.offer_frame (s : State) (n : Notice) (h : n.kind = 1 ∨ n.kind = 2) :
    ∃ l f, s.offer n = { s with link := l, free := f } := by
  have k : ∀ t : State, t.handBack n = t := by
    intro t; cases n <;> simp_all [Notice.kind, State.handBack]
  unfold State.offer State.kickAccess State.enterBackoff; simp only [k]; repeat' split
  all_goals first | exact ⟨_, _, rfl⟩ 

theorem State.slotNotice_kind {s : State} {i : Fin 4} {n : Notice} (h : s.slotNotice i = some n) :
    n.kind = 1 ∨ n.kind = 2 := by
  unfold State.slotNotice at h; split at h <;> simp at h <;> subst h <;> simp [Notice.kind]

theorem State.publish_frame (s : State) (i : Fin 4) : ∃ l f, s.publish i = { s with link := l, free := f } := by
  rw [State.publish_eq]
  split
  · exact ⟨_, _, rfl⟩
  · exact State.offer_frame _ _ (State.slotNotice_kind ‹_›)

/-- R88: where the station sends, publishing a used slot offers its notice and nothing else. -/
theorem State.publish_announces (s : State) (i : Fin 4) (h : s.offers) (k : s.slot i ≠ .unused) :
    s.announces (s.publish i) i := by
  have : ∃ n, s.slotNotice i = some n := by
    unfold State.slotNotice; cases hs : s.slot i <;> simp_all
  obtain ⟨n, hn⟩ := this
  obtain ⟨l, f, e⟩ := State.publish_frame s i
  refine ⟨n, ?_, ?_⟩
  · rw [e]; exact hn
  · rw [State.publish_eq, hn]; exact s.offer_tookOffer n h.1 h.2

/-- R88: a change of state that has offered nothing yet offers the notice of its slot. -/
theorem State.noteChange_announces {s t : State} {i : Fin 4} (hl : t.link = s.link) (hst : t.station = s.station)
    (h : s.offers) (k : t.slot i ≠ .unused) :
    s.announces (t.noteChange i) i := by
  unfold State.noteChange
  have e : (t.markNoticed i).link = t.link := by unfold State.markNoticed; split <;> rfl
  have f : (t.markNoticed i).slot i = t.slot i := by unfold State.markNoticed; split <;> rfl
  have g : (t.markNoticed i).station = t.station := by unfold State.markNoticed; split <;> rfl
  have := State.publish_announces (t.markNoticed i) i (by unfold State.offers; rw [g, hst]; exact h) (by rw [f]; exact k)
  unfold State.announces at *
  rwa [e, hl] at this

end Sys2Proof.Machine
end

