-- ==== Sys2Proof/WellFormed.lean ====
section
/-! DEFINITION. Which commands can be sent at all: operands that the wire or the port can carry. The meanings are
total: an ill-formed command never stops the machine, and this check is for senders and statements. -/

namespace Sys2Proof

/-- R181, Formats: the command bytes that name a command. -/
def commandBytes : List Nat :=
  [0x01, 0x02, 0x10, 0x11, 0x12, 0x13, 0x20, 0x21, 0x30, 0x31, 0x32, 0x33, 0x34, 0x35]

/-- Whether a command's operands can occur. -/
def Instr.wellFormed : Instr → Bool
  | .frameReceived b => 7 ≤ b.length
  | .staleTimeExpiry st ch => 1 ≤ st && st ≤ 31 && ch ≤ 3
  | .lostTimeExpiry st ch => 1 ≤ st && st ≤ 31 && ch ≤ 3
  | .stationAbsent st => 1 ≤ st && st ≤ 31
  | .configWrite _ n d => d.length == n.toNat
  | .otpWrite _ _ d => d.length == 32
  | .unknownCommand b => !(commandBytes.contains b.toNat)
  | _ => true

end Sys2Proof
end

