-- ==== Sys2Proof/Tests/Slice0.lean ====
section
/-! SUPPORT. Tests: what `Instr.wellFormed` refuses, the worked cases of the manual, single commands on small states, and for
each statement with hypotheses a state and operands that meet them, at the ends of their ranges. -/

namespace Sys2Proof.Tests

-- One theorem at a time: each of these proofs asks the kernel, and many at once would hold a thread each.
set_option Elab.async false

open Sys2Proof Sys2Proof.Machine

/-! ## Small states -/

/-- The state after a command. -/
def after (c : Instr) (s : State) : State :=
  match exec c s with
  | .next t => t
  | _ => s

/-- The response table at its defaults (08, codes table). -/
def responses : Vector Response 21 :=
  #v[{ cls := 1, propagate := true }, { cls := 2 }, { cls := 2 }, { cls := 2, propagate := true }, { cls := 2 }, { cls := 3 },
     { cls := 3, propagate := true }, { cls := 2, propagate := true }, { cls := 2, propagate := true }, { cls := 3 },
     { cls := 3 }, { cls := 3, propagate := true }, { cls := 3, propagate := true }, { cls := 2 }, { cls := 3 },
     { cls := 1, floor := true }, { cls := 1 }, { cls := 3 }, { cls := 4 }, { cls := 3 }, { cls := 4 }]

/-- The inputs of the test station: mass of slot 0, item weight of slot 1, air flow of slot 2, bed pressure of slot 3,
ambient, firing. -/
def inputs : Vector InputCfg 16 :=
  (((((Vector.replicate 16 ({} : InputCfg)).set 0 { lo := 0, hi := 5000, role := .mass, consumer := 0 }).set 1
    { lo := 0, hi := 65535, role := .itemWeight, consumer := 1 }).set 2
    { lo := 0, hi := 8000, role := .airFlow, consumer := 2 }).set 3
    { lo := 0, hi := 10000, role := .bedPressure, consumer := 3 }).set 7
    { lo := 0, hi := 200000, role := .firing, consumer := 255 }

/-- Station 2, a desk, with the periods and limits of the worked cases. -/
def cfg : Cfg :=
  { station := 2, desk := true, period := 500, divisor := 2, staleTime := 1500, lostTime := 6000, lossHold := 30,
    targetSlew := 1000, firingRefresh := 5, capPct := 25, fireTol := 10, fireDevTime := 60, shiftLen := 8, collateS := 60,
    retain := 6, shc := 3200, decayPm := 120, crStart := 4000,
    fuel := #v[25000, 30000, 35000, 10000, 10000, 10000, 10000, 10000], inputs := inputs, responses := responses }

/-- Station 2 in RUN, with nothing running and the medium busy. -/
def run : State := { supply := true, station := .run, now := 101500, cfg := some cfg }

/-- The coal slot of the worked case (03). -/
def coalPar : CfParams :=
  { rank := 9, fuel := 0, minHeat := 15000, maxHeat := 110000, rampUp := 2000, rampDown := 5000, massScale := 4000, input := 0,
    output := 0, startTime := 60, devPct := 5, devAbs := 20, devTime := 20 }

/-- The coal slot in DOSING at 69,450 kW. -/
def coal : CfSlot := { par := coalPar, state := .dosing, alloc := { heat := 69450, share := 69450, mass := 2778 } }

/-- A tyre slot in DOSING. -/
def tyrePar : DiParams :=
  { rank := 1, fuel := 1, minHeat := 0, maxHeat := 18000, rampUp := 2000, rampDown := 5000, input := 1, minItem := 40,
    maxItem := 150, lowWater := 4, highWater := 12, windowS := 120, phaseTimeout := 3, divertMs := 500,
    maxItemEnergy := 525000 }

/-- A tyre of 9.0 kg. -/
def tyre : Item := { weight := 90, fuel := 1, energy := 270000, arrival := 0 }

/-- The tyre slot with its gate READY. -/
def tyres : DiSlot := { par := tyrePar, state := .dosing, queue := [tyre], gate := { state := .ready } }

/-- A fan slot. -/
def fan : CaSlot :=
  { par := { specAir := 450, airScale := 3000, minAir := 1200, maxAir := 2600, hotLimit := 250, boostStep := 5, boostMax := 30,
             airTol := 10, devTime := 30, recuperating := false, flowInput := 2, tempInput := none, outletInput := none,
             output := 1 }, state := .running }

/-- The grate slot. -/
def grate : CgSlot :=
  { par := { setpoint := 4500, band := 300, step := 2, speedScale := 200, minSpeed := 40, maxSpeed := 160, startSpeed := 40,
             pHigh := 9000, flushRise := 1500, flushWindow := 20, flushEnd := 60, input := 3, output := 2 }, state := .running,
    rate := 40 }

/-- A feed entry of a peer. -/
def feedEntry (station channel rank actual : Nat) : PeerEntry :=
  { station := station, channel := channel, state := 2, age := .fresh, last := 101000,
    body := .feed actual actual 1 rank false false }

/-- An air entry of a recuperating fan. -/
def airEntry (station channel recovered : Nat) : PeerEntry :=
  { station := station, channel := channel, state := 6, age := .fresh, last := 101000,
    body := .air 0 true recovered 0 0 false }

/-- The coal slot's latch. -/
def coalLatch : Latch := { count := 45428, kind := .feed, owner := some 0, gain := -185, offset := -43, feedMark := true }

/-- The worked case "The coal feeder" (03): the picture and the coal slot at the update at 101.5 s. -/
def coalCase : State :=
  { run with
    picture := { entries := [feedEntry 4 0 1 18000, feedEntry 5 1 2 31550, airEntry 11 0 21400, airEntry 11 1 8600],
                 order := some { epoch := 1, target := 150000, origin := 3 }, target := 150000 }
    heat := { updateDue := some 101500 }
    fields := { inputs := (Vector.replicate 16 ({} : Input)).set 0 { value := 2778 } }
    output := { latches := (Vector.replicate 8 ({} : Latch)).set 0 coalLatch }
    channels := { slots := #v[.cf coal, .unused, .unused, .unused] } }

/-- Station 2 with all four slots running. -/
def four : State := { run with channels := { slots := #v[.cf coal, .di tyres, .ca fan, .cg grate] } }

/-- An input in HELD. -/
def heldInput : Input := { freshness := .held, holdDue := some 101500 }

/-- A program of one CLOSE record. -/
def closeOp : ProgramOp :=
  { file := 0, records := [{ seq := 0, type := .close, rest := [1], offered := 0, bound := .file 0 }], page := 0, byte := 0,
    address := 4096 }

/-- A part in COMMISSION with the write-enable latch set. -/
def service : State :=
  { supply := true, station := .commission, strap := true, protection := .commission, port := { writeEnable := true } }

/-- An alarm entry. -/
def alarmOf (origin : Nat) (code : AlarmCode) (channel cls : Nat) (state : AlarmState) : AlarmEntry :=
  { origin := origin, code := code, channel := channel, cls := cls, occurrence := 17, state := state, raised := 1000 }

/-- A queued frame. -/
def queued (n : Notice) (entry attempts : Nat) : QFrame := { notice := n, entry := entry, attempts := attempts }

/-! ## Ill-formed commands (WellFormed) -/

theorem test_wellFormed_refuses_shortFrame : (Instr.frameReceived [0x7E, 0xC3, 1, 6, 2, 0]).wellFormed = false := by decide

theorem test_wellFormed_refuses_staleStation : (Instr.staleTimeExpiry 32 0).wellFormed = false := by decide

theorem test_wellFormed_refuses_staleChannel : (Instr.staleTimeExpiry 1 4).wellFormed = false := by decide

theorem test_wellFormed_refuses_lostStation : (Instr.lostTimeExpiry 0 0).wellFormed = false := by decide

theorem test_wellFormed_refuses_absentStation : (Instr.stationAbsent 0).wellFormed = false := by decide

theorem test_wellFormed_refuses_configCount : (Instr.configWrite 0 2 [0x55]).wellFormed = false := by decide

theorem test_wellFormed_refuses_otpData : (Instr.otpWrite 1 0 [0x55]).wellFormed = false := by decide

theorem test_wellFormed_refuses_knownByte : (Instr.unknownCommand 0x20).wellFormed = false := by decide

theorem test_wellFormed_takes_others :
    (Instr.controlUpdate).wellFormed = true ∧ (Instr.unknownCommand 0x99).wellFormed = true ∧
      (Instr.staleTimeExpiry 31 3).wellFormed = true ∧ (Instr.configWrite 0 1 [0x55]).wellFormed = true := by decide

/-! ## The manual's numbers -/

/-- 03, The coal feeder, Count: 46,083; its stale variant: 45,428. -/
theorem test_driveCount_coal : driveCount 2818 4000 (-185) (-43) = 46083 ∧ driveCount 2778 4000 (-185) (-43) = 45428 := by
  decide +kernel

/-- 03, R52: 46,082.5 becomes 46,083 and −0.5 becomes 0. -/
theorem test_roundRatio_halves : roundRatio 92165 2 = 46083 ∧ roundRatio (-1) 2 = 0 := by decide

/-- 04, R64: 32,768 on 0 to 5,000 g/s is 2,500; on −50 to 1,250 °C 0 is −50 and 65,535 is 1,250. -/
theorem test_scaled : scaled 0 5000 32768 = 2500 ∧ scaled (-50) 1250 0 = -50 ∧ scaled (-50) 1250 65535 = 1250 := by decide

/-- 07, R114: 1,969 cNm³/s without boost; 15 per cent at 287 °C gives 2,264. -/
theorem test_targetAir : targetAir 4375 450 0 1200 2600 = 1969 ∧ boostFor 287 250 5 30 = 15 ∧
    targetAir 4375 450 15 1200 2600 = 2264 := by decide +kernel

/-- 07, R115: 8,000 cNm³/s at 900 °C above ambient recover 93,600 kW. -/
theorem test_recoveredKw : recoveredKw 8000 900 = 93600 := by decide

/-- 07, R111: 140,000 kW at 3,200 kJ/kg are 4,375 ckg/s. -/
theorem test_rawRate : rawRate 140000 3200 = 4375 := by decide

/-- 03, R57: eight tyres of 270,000 kJ in 120 s are 18,000 kW. -/
theorem test_windowEnergy : windowEnergy 120000 120 (List.replicate 8 (1000, 270000)) / 120 = 18000 := by decide

/-- 05, R85: against 2,818 g/s a mass of 2,690 is in band and one of 2,650 is not. -/
theorem test_massOutOfBand : massOutOfBand 2690 2818 5 20 = false ∧ massOutOfBand 2650 2818 5 20 = true := by decide

/-- 02, Two desks take at once: station 3's order wins over station 9's, and a repeat of it from 9 is refused. -/
theorem test_compareOrder_desks :
    compareOrder (some { epoch := 42, target := 145000, origin := 9 }) { epoch := 42, target := 150000, origin := 3 } = .adopted ∧
    compareOrder (some { epoch := 42, target := 150000, origin := 3 }) { epoch := 42, target := 150000, origin := 9 } = .refused := by
  decide

/-- 00, Serial-number comparison: 0 is newer than 65,535; 32,768 away is older. -/
theorem test_newer_wraps : newer 0 65535 = true ∧ newer 32768 0 = false ∧ newer 32767 0 = true ∧ newer 5 5 = false := by decide

/-- 01, R2: a heat notice takes 17 bytes and the longest frame, here a four-slot summary, 70. -/
theorem test_frameBytes_length : (frameBytes 5 (.heat 1 2 1 2 31550 31550 false false)).length = 17 ∧
    (frameBytes 5 (.summary ([1, 2, 4] ++ List.replicate 60 0))).length = 70 := by decide +kernel

/-- 12: a JOURNAL record takes 18 bytes and a SUMMARY of four slots 71. -/
theorem test_record_sizes :
    (QRecord.bytes 0 { seq := 0, type := .journal, rest := journalRest 1 (alarmOf 2 .floorTrip 255 1 .new) 1 0 0, offered := 5,
                       bound := .next }).length = 18 ∧
    (QRecord.bytes 0 { seq := 0, type := .summary, rest := List.replicate 64 0, offered := 5, bound := .next }).length = 71 := by
  decide +kernel

/-! ## Commands, each on a small state -/

/-- 11, R177: a blank configuration area ends a start in START HALT. -/
theorem test_powerOnStart_blank : (after (.powerOnStart false) State.reset).station = .startHalt := by decide +kernel

/-- 04, R74: a line restart keeps the count of a latch without the feed mark. -/
theorem test_lineRestart_keepsCount :
    ((after (.lineRestart false) { run with resetHeld := true, output := { latches := Vector.replicate 8 { count := 47906 } } }).latch 1).count
      = 47906 := by decide +kernel

/-- 06, R110: RESET keeps the number of items a DI slot had in hand. -/
theorem test_resetAsserted_inHand : (after .resetAsserted four).channels.inHand[1] = some 1 := by decide +kernel

/-- 10, R163: a loss of supply after the first map write takes the second back. -/
theorem test_supplyFailure_undoes :
    (after (.supplyFailure (some 1)) { run with map := { alloc := (Vector.replicate 128 Granule.free).set 3 (.last 1) },
                                                mapLog := [.granule 3 .free, .granule 4 .bad] }).map.alloc[3] = .free := by
  decide +kernel

/-- 02, R37: without an adopted order the entry to RUN raises NO FIRING ORDER. -/
theorem test_listenTimerExpiry_noOrder :
    (after .listenTimerExpiry { run with station := .listen, picture := { listenDue := some 101500 } }).stands .noFiringOrder 255
      = true := by decide +kernel

/-- 01, R6: a frame of the station's own number raises DUPLICATE STATION. -/
theorem test_frameReceived_duplicate :
    (after (.frameReceived (frameBytes 2 (.mark 5))) run).stands .duplicateStation 255 = true := by decide +kernel

/-- 01, R3: a frame cut in its payload is one bad check. -/
theorem test_frameCutShort_badCheck :
    (after (.frameCutShort [0x7E, 0xC3, 5, 6, 2, 0]) run).link.counters = { badCheck := 1 } := by decide +kernel

/-- 01, R6: the duplicate timer's expiry clears DUPLICATE STATION: class 1 with the floor flag, it is latched. -/
theorem test_duplicateTimer_latches :
    ((after .duplicateTimerExpiry { run with
        link := { duplicateDue := some 101500 }
        alarms := { table := [alarmOf 2 .duplicateStation 255 1 .new] } }).alarms.table.map (·.latched)) = [true] := by decide +kernel

/-- 01, R18: the silence timer raises LINK FAULT. -/
theorem test_silenceTimer_fault :
    (after .silenceTimerExpiry { run with link := { silenceDue := some 101500 } }).stands .linkFault 255 = true := by decide +kernel

/-- 01, R14: a class D frame waits at least 6 slots. -/
theorem test_quietGap_enters :
    (after .quietGap { run with link := { queue := [queued (.summary []) 0 0] } }).link.access = .backoff := by rfl

/-- 01, R10, R11, worked sequence: a committed frame takes no offer, an uncommitted one does. -/
theorem test_offer_coalesces :
    ((run.offer (.mark 7)).offer (.mark 8)).link.queue.map (·.notice) = [.mark 8] := by rfl

/-- 01, R15: a collision widens the window from 16 to 32. -/
theorem test_collision_widens :
    (after .collision { run with link := { access := .sending, window := 16, queue := [queued (.mark 7) 0 3],
                                           sendingEntry := some 0 } }).link.window = 32 := by decide +kernel

/-- 01, R16: a frame sent cleanly returns the window to 4. -/
theorem test_sentCleanly_window :
    (after .sentCleanly { run with link := { access := .sending, window := 16, queue := [queued (.mark 7) 0 3],
                                             sendingEntry := some 0 } }).link.window = 4 := by decide +kernel

/-- 02, A feeder falls silent: at 101.5 s the entry is STALE and its heat is kept in the merit fill. -/
theorem test_staleTime_keepsHeat :
    (after (.staleTimeExpiry 5 1) { coalCase with now := 101000 }).meritFill { rank := 9, station := 2, channel := 0 } = 49550 := by
  decide +kernel

/-- 02, A feeder falls silent: the loss raises PEER LOST on channel 5 × 4 + 1 = 21 and runs the loss hold for 30 s. -/
theorem test_lostTime_peerLost :
    (after (.lostTimeExpiry 5 1) coalCase).stands .peerLost 21 = true ∧
      (after (.lostTimeExpiry 5 1) coalCase).picture.lossHoldDue = some 137000 := by decide +kernel

/-- 02, R31: a station that goes ABSENT takes its alarms to RETURNED. -/
theorem test_stationAbsent_orphans :
    ((after (.stationAbsent 5) { run with
        picture := { stations := [{ station := 5, last := 100, present := true }] }
        alarms := { table := [alarmOf 5 .gateJam 1 2 .new] } }).alarms.table.map (·.state)) = [.returned] := by decide +kernel

/-- 02, R34: a take makes the order of the next epoch. -/
theorem test_take_epoch :
    (after .take { coalCase with fields := { inputs := (Vector.replicate 16 ({} : Input)).set 7 { value := 150000 } } }).picture.order
      = some { epoch := 2, target := 150000, origin := 2 } := by decide +kernel

/-- 03, The coal feeder: the allocation record after the update. -/
theorem test_controlUpdate_coal :
    (match (after .controlUpdate coalCase).slot 0 with
      | .cf c => some c.alloc
      | _ => none) = some { credit := 30000, effective := 30000, required := 120000, fill := 49550, remainder := 70450,
                            share := 70450, heat := 70450, mass := 2818 } := by decide +kernel

/-- 03, The coal feeder: the count in the coal output's latch. -/
theorem test_controlUpdate_count : ((after .controlUpdate coalCase).latch 0).count = 46083 := by decide +kernel

/-- 05, R80: a start timer that expires raises FEED FAILED TO START. -/
theorem test_startTimer_fails :
    (after (.startTimerExpiry 0) { run with channels := { slots :=
        #v[.cf { coal with state := .starting, startDue := some 101500 }, .unused, .unused, .unused] } }).stands
      .feedFailedToStart 0 = true := by decide +kernel

/-- 04, R67, 06, R93: an item of 4.0 kg is in range and one of 3.9 kg is not. -/
theorem test_sampleWord_items :
    (match (after (.sampleWord 1 40 true) four).slot 1 with
      | .di d => d.queue.length
      | _ => 0) = 2 ∧
    (match (after (.sampleWord 1 39 true) four).slot 1 with
      | .di d => d.counters.divertedWeight
      | _ => 0) = 1 := by decide +kernel

/-- 04, R66: an input that fails raises INPUT STALE on its consumer's slot. -/
theorem test_holdTime_stale :
    (after (.holdTimeExpiry 0) { four with
        fields := { inputs := (Vector.replicate 16 ({} : Input)).set 0 heldInput } }).stands .inputStale 0 = true := by decide +kernel

/-- 05, R83: a permit that falls takes a CF slot to OFF. -/
theorem test_permitFalls_off :
    (match (after (.runPermitEdge 0 false) four).slot 0 with
      | .cf c => some c.state
      | _ => none) = some .off := by decide +kernel

/-- 06, R98: upper flap open ends UPPER_OPENING. -/
theorem test_gateConfirmation_upper :
    (match (after (.gateConfirmation 1 .upperOpen true) { four with channels := { slots :=
        #v[.unused, .di { tyres with gate := { state := .upperOpening, item := some tyre } }, .unused, .unused] } }).slot 1 with
      | .di d => some d.gate.state
      | _ => none) = some .upperClosing := by decide +kernel

/-- 06, R100: a late phase raises GATE JAM. -/
theorem test_phaseTimer_jams :
    (after (.phaseTimerExpiry 1) { four with channels := { slots :=
        #v[.unused, .di { tyres with gate := { state := .upperOpening, item := some tyre, phaseDue := some 101500 } }, .unused,
           .unused] } }).stands .gateJam 1 = true := by decide +kernel

/-- 08, R144: the trip line trips the feed slots and raises FLOOR TRIP; the fan and the grate run on. -/
theorem test_tripLine_trips :
    (match (after (.tripLineObserved true) four).slot 0 with
      | .cf c => some c.state
      | _ => none) = some .tripped ∧
    (after (.tripLineObserved true) four).stands .floorTrip 255 = true ∧
    (after (.tripLineObserved true) four).slot 2 = four.slot 2 := by decide +kernel

/-- 08, R135: an acknowledgement takes NEW to STANDING and RETURNED out of the table. -/
theorem test_acknowledge :
    ((after .acknowledge { run with alarms := { table := [alarmOf 9 .gateJam 1 2 .new, alarmOf 9 .flush 3 2 .returned] } }).alarms.table.map
      fun e => (e.code, e.state)) = [(.gateJam, .standing)] := by decide +kernel

/-- 09, R153: the shift timer closes shift 413 and takes 414. -/
theorem test_shiftTimer_number :
    (after .shiftTimerExpiry { run with accountant := { shift := some 413, shiftDue := some 101500 } }).accountant.shift = some 414 := by
  decide +kernel

/-- 10, R169: a program that passes writes its record at its place. -/
theorem test_programCompletion_writes :
    (after (.programCompletion true) { run with store := { program := some closeOp } }).nv.array.readBytes 4096 8
      = [6, 5, 0, 0, 0, 0, 1, 0xF4] := by decide +kernel

/-- 10, R171: an erase that fails leaves the granule BAD. -/
theorem test_eraseCompletion_bad :
    (after (.eraseCompletion false) { run with store := { erase := some { granule := 43 } } }).map.alloc[43] = .bad := by decide +kernel

/-- 11, R182: without a window STREAM answers END. -/
theorem test_stream_end : (after (.stream 18) run).port.response = 0xE0 :: List.replicate 16 0xFF ++ [0xE0] := by decide +kernel

/-- 11, R181: a program of the configuration area leaves programmed bytes as they are and fails its verify. -/
theorem test_configOperation_programmed :
    (after (.configOperationCompletion true) { service with
        nv := { config := [(5, 0x11)] }, store := { area := some (.write 5 [0x22, 0x33]) } }).nv.config = [(5, 0x11), (6, 0x33)] ∧
    (after (.configOperationCompletion true) { service with
        nv := { config := [(5, 0x11)] }, store := { area := some (.write 5 [0x22, 0x33]) }
        port := { service.port with lastResult := .inProgress } }).port.lastResult = .verifyFailed := by
  decide +kernel

/-- 10, R172: a FLUSH waits for the records that can be programmed as it comes, an erase in flight or not. -/
theorem test_flush_marks :
    (after .flush { run with
        map := { alloc := (Vector.replicate 128 Granule.free).set 0 (.last 1)
                 dir := (Vector.replicate 32 ({} : DirEntry)).set 0 { state := .opened, first := some 0, last := some 0 } }
        store := { program := some { file := 0, records := [], page := 0, byte := 0, address := 0 }
                   queue := [{ seq := 0, type := .close, rest := [], offered := 0, bound := .file 0 },
                             { seq := 1, type := .close, rest := [], offered := 0, bound := .next }] } }).store.queue.map (·.flushed)
      = [true, false] := by decide +kernel

/-- 10, R173: an entry that becomes EMPTY takes back a STORE FULL that is on its way. -/
theorem test_reclaim_clearsStoreFull :
    (({ run with agenda := [.raise .storeFull 255] } : State).reclaimFile 0).agenda =
      [.raise .storeFull 255, .clear .storeFull 255] := by decide +kernel

/-- 10, R168, R133: the record of a JOURNAL GAP that the full log set does not keep fails for the second time and is dropped:
JOURNAL GAP is raised and journalled again. -/
theorem test_secondFailure_raisesGap :
    let r : QRecord := { seq := 0, type := .journal, rest := [1, 2, 19, 255, 4, 0, 1, 4, 0, 0, 0], offered := 0
                         bound := .file 0, fails := 1 }
    ((after (.programCompletion false) { run with
        alarms := { logSet := List.replicate 16 (.flush, 3, 1) }
        map := { alloc := (Vector.replicate 128 Granule.free).set 0 (.last 1)
                 dir := (Vector.replicate 32 ({} : DirEntry)).set 0 { state := .opened, first := some 0, last := some 0 } }
        store := { seq := 1, queue := [r]
                   program := some { file := 0, records := [r], page := 0, byte := 0, address := 0 } } }).store.queue.map
      fun q => (q.seq, q.type)) = [(1, .journal)] := by decide +kernel

/-- 10, R173: a reclaim that the journal record of STORE FULL's own raise starts, before a class-4 STORE FULL stands, takes that
raise back. -/
theorem test_reclaim_inRaise :
    ({ run with
        cfg := some { cfg with retain := 0, responses := responses.set 17 { cls := 4 } }
        agenda := [.raise .storeFull 255]
        store := { current := some 0 }
        map := { alloc := ((Vector.replicate 128 Granule.bad).set 0 (.last 16)).set 1 (.last 1)
                 dir := ((Vector.replicate 32 ({} : DirEntry)).set 0
                   { state := .opened, first := some 0, last := some 0, page := 16 }).set 31
                   { state := .closed, first := some 1, last := some 1, closeSeq := 1 } } } : State).takeFirst.agenda =
      [.clear .storeFull 255] := by decide +kernel

/-- Two files are to be opened, the older in the higher entry. -/
def opening : State :=
  { run with store := { aux := ((Vector.replicate 32 ({} : FileAux)).set 2 { reserved := true, steps := [(.opened 8, 6)] }).set 7
                                 { reserved := true, steps := [(.opened 7, 5), (.closed false, 9)] } } }

/-- 10, R167: of two steps that can be written, the one requested first is written. -/
theorem test_nextStep_order : opening.nextStep entryList = some (7, .opened 7, 5) := by decide +kernel

/-- 09, R157: without a collation a late summary is counted on the OPEN file. -/
theorem test_lateSummary_openFile :
    ((({ run with map := { dir := (Vector.replicate 32 ({} : DirEntry)).set 31 { state := .opened } } } : State).summaryNotice 5
      (List.replicate 15 0)).dir 31).late = 1 := by decide +kernel

/-- 11, R181: a completion leaves the result of a later write command. -/
theorem test_configOperation_keepsLaterResult :
    (after (.configOperationCompletion true) { service with
        store := { area := some .erase }
        port := { service.port with lastResult := .busy } }).port.lastResult = .busy := by
  decide +kernel

/-- 03, R42: a grate entry adds nothing to the credit, whatever its recuperation flag. -/
theorem test_credit_grate :
    ({ station := 4, channel := 1, state := 6, age := .fresh, last := 0, body := .air 1 true 900 0 0 false } : PeerEntry).credit
      = 0 := by decide

/-- 04, R75: in RESET the lines of a DI slot are at rest. -/
theorem test_resetAsserted_lines : (after .resetAsserted four).lines 1 = Lines.rest := by decide +kernel

/-- 12, OTP blocks: the freeze mark's check byte. -/
theorem test_otpProgram_freeze :
    (after (.otpProgramCompletion true) { service with store := { area := some .freeze } }).protection = .frozen := by decide +kernel

/-! ## The statements' hypotheses are met

For each statement with hypotheses, a state and operands that meet them together; for each of its clauses, one at an end of
the clause's range. -/

/-- RUN with the listen period, and with it the loss hold, due at this millisecond. -/
def listening : State := { run with station := .listen, picture := { listenDue := some 101500 } }

def twoDue : State := { run with picture := { listenDue := some 101500, lossHoldDue := some 101500 } }

theorem witness_StepTakesFrontCommand : { run with pending := [.silence, .take] }.pending = .silence :: [.take] := rfl

theorem witness_EmptyQueueLetsTimePass :
    (run.pending = [] ∧ run.live = true ∧ run.dueNow = []) ∧
    (listening.pending = [] ∧ listening.live = true ∧ listening.dueNow = [.listenTimerExpiry]) ∧
    (twoDue.pending = [] ∧ twoDue.live = true ∧ twoDue.dueNow = .listenTimerExpiry :: .lossHoldExpiry :: []) ∧
    State.reset.live = false := by decide +kernel

theorem witness_CommandsLeaveTheQueue :
    exec .silence { run with pending := [.take] } = .next (after .silence { run with pending := [.take] }) := rfl

theorem witness_DeadPartTakesNothing : State.reset.live = false ∧ (∀ b, Instr.take ≠ .powerOnStart b) ∧
    (∀ b, Instr.take ≠ .lineRestart b) ∧ ∀ n, Instr.take ≠ .supplyFailure n := ⟨rfl, nofun, nofun, nofun⟩

theorem witness_ConfigurationStands : exec .silence run = .next (after .silence run) ∧ (∀ b, Instr.silence ≠ .powerOnStart b) ∧
    (∀ b, Instr.silence ≠ .lineRestart b) ∧ (∀ n, Instr.silence ≠ .supplyFailure n) ∧ Instr.silence ≠ .resetAsserted :=
  ⟨rfl, nofun, nofun, nofun, nofun⟩

theorem witness_OnlyTheEngineChangesMemory : exec .flush run = .next (after .flush run) ∧
    (∀ b, Instr.flush ≠ .programCompletion b) ∧ (∀ b, Instr.flush ≠ .eraseCompletion b) ∧
    (∀ b, Instr.flush ≠ .configOperationCompletion b) ∧ (∀ b, Instr.flush ≠ .otpProgramCompletion b) ∧
    Instr.flush ≠ .resetAsserted ∧ (∀ b, Instr.flush ≠ .lineRestart b) ∧ (∀ b, Instr.flush ≠ .powerOnStart b) ∧
    ∀ n, Instr.flush ≠ .supplyFailure n :=
  ⟨rfl, nofun, nofun, nofun, nofun, nofun, nofun, nofun, nofun⟩

/-- A program in flight, and a byte in each memory. -/
def programming : State :=
  { run with pending := [.programCompletion true], store := { program := some closeOp }
             nv := { array := [(0, 1), (4095, 2)], config := [(1023, 0)], otp := [(511, 0)] } }

theorem witness_MemoriesStayCanonical : programming.nv.wf = true ∧
    step programming = .next (after (.programCompletion true) { programming with pending := [] }) := ⟨by decide, rfl⟩

/-- A full transmit queue whose head is on the medium for the eighth time, with the window at its widest. -/
def crowded : State :=
  { run with
    pending := [.collision]
    link := { queue := queued (.mark 7) 0 7 :: (List.range 11).map fun k => queued (.summary []) (k + 1) 0, entryCount := 12,
              access := .sending, window := 64, sendingEntry := some 0 } }

theorem witness_LinkStaysLegal : crowded.link.legal = true ∧ crowded.link.ordered ∧
    step crowded = .next (after .collision { crowded with pending := [] }) :=
  ⟨by decide, by unfold Link.ordered QFrame.before; decide +kernel, rfl⟩

/-- A transmit queue of so many summaries. -/
def summaries (n : Nat) : Link := { queue := (List.range n).map fun k => queued (.summary []) k 0, entryCount := n }

theorem witness_LinkStaysLegal_offers :
    ((summaries 11).ordered ∧ (∀ f ∈ (summaries 11).queue, (Notice.mark 7).coalescesWith f = false) ∧
      (summaries 11).queue.length < 12) ∧
    ((summaries 12).ordered ∧ (∀ f ∈ (summaries 12).queue, (Notice.mark 7).coalescesWith f = false) ∧
      queued (.summary []) 11 0 ∈ (summaries 12).queue ∧ 12 ≤ (summaries 12).queue.length ∧
      (queued (.summary []) 11 0).committed = false ∧ (Notice.mark 7).cls < (queued (.summary []) 11 0).notice.cls ∧
      ∀ g ∈ (summaries 12).queue, g.committed = false → g = queued (.summary []) 11 0 ∨ g.before (queued (.summary []) 11 0)) ∧
    (∀ f ∈ (summaries 12).queue, (Notice.summary []).coalescesWith f = false) ∧
    (∀ f ∈ (summaries 12).queue, f.committed = true ∨ f.notice.cls ≤ (Notice.summary []).cls) ∧
    ([queued (.mark 7) 0 0, queued (.mark 9) 1 0] = [] ++ queued (.mark 7) 0 0 :: [queued (.mark 9) 1 0] ∧
      (Notice.mark 8).coalescesWith (queued (.mark 7) 0 0) = true) := by
  unfold Link.ordered QFrame.before; decide +kernel

/-- An own alarm of class 2 in NEW. -/
def jammed : State := { run with alarms := { table := [alarmOf 2 .gateJam 1 2 .new] } }

theorem witness_LinkStaysLegal_handedBack : jammed.station ≠ .startHalt ∧
    jammed.findAlarm jammed.ownNumber .gateJam 1 = some (alarmOf 2 .gateJam 1 2 .new) ∧
    (alarmOf 2 .gateJam 1 2 .new).currentNotice ≠ .alarm AlarmCode.gateJam.number 1 2 2 17 ∧
    (alarmOf 2 .gateJam 1 2 .new).occurrence = 17 := by decide +kernel

/-- A peer channel table of 48 entries. -/
def full : State :=
  { run with
    pending := [.lostTimeExpiry 12 3]
    picture := { entries := (List.range 48).map fun k => feedEntry (k / 4 + 1) (k % 4) 1 100 } }

theorem witness_PictureStaysLegal : full.picture.legal ∧
    step full = .next (after (.lostTimeExpiry 12 3) { full with pending := [] }) :=
  ⟨by unfold Picture.legal; decide +kernel, rfl⟩

/-- An alarm table of 48 entries, and the flood slot. -/
def flooded : State :=
  { run with
    pending := [.acknowledge]
    alarms := { table := (List.range 48).map fun k => alarmOf 9 .gateJam k 2 .new, flood := some (alarmOf 2 .alarmFlood 255 3 .new) } }

/-- The coal floor with a silent feeder, in order. -/
def ordered : State := { coalCase with pending := [.staleTimeExpiry 5 1] }

theorem witness_PictureStaysLegal_order : ordered.pictureSorted ∧
    step ordered = .next (after (.staleTimeExpiry 5 1) { ordered with pending := [] }) :=
  ⟨by unfold State.pictureSorted; decide +kernel, rfl⟩

theorem witness_AlarmTableStaysLegal : flooded.alarmsLegal ∧
    step flooded = .next (after .acknowledge { flooded with pending := [] }) :=
  ⟨by unfold State.alarmsLegal; decide +kernel, rfl⟩

/-- Station 2 with so many alarms of station 9 in a state, and one own alarm. -/
def alarmed (n : Nat) (st : AlarmState) (own : List AlarmEntry) : State :=
  { run with alarms := { table := own ++ (List.range n).map fun k => alarmOf 9 .gateJam k 2 st } }

theorem witness_AlarmTableStaysLegal_raises :
    ((alarmed 47 .new []).alarmsLegal ∧ (alarmed 47 .new []).cfg.isSome = true ∧ ((alarmed 47 .new []).response .gateJam).cls ≠ 4 ∧
      (alarmed 47 .new []).findAlarm 2 .gateJam 1 = none ∧ (alarmed 47 .new []).alarms.table.length < 48) ∧
    ((alarmed 0 .new [alarmOf 2 .gateJam 1 2 .returned]).alarmsLegal ∧
      (alarmed 0 .new [alarmOf 2 .gateJam 1 2 .returned]).findAlarm 2 .gateJam 1 = some (alarmOf 2 .gateJam 1 2 .returned)) ∧
    ((alarmed 0 .new [alarmOf 2 .gateJam 1 2 .standing]).alarmsLegal ∧
      (alarmed 0 .new [alarmOf 2 .gateJam 1 2 .standing]).findAlarm 2 .gateJam 1 = some (alarmOf 2 .gateJam 1 2 .standing)) ∧
    ((alarmed 0 .new [alarmOf 2 .duplicateStation 255 1 .new]).alarmsLegal ∧
      (alarmed 0 .new [alarmOf 2 .duplicateStation 255 1 .new]).findAlarm 2 .duplicateStation 255 =
        some (alarmOf 2 .duplicateStation 255 1 .new) ∧
      ((alarmed 0 .new [alarmOf 2 .duplicateStation 255 1 .new]).response .duplicateStation).floor = true ∧
      ((alarmed 0 .new [alarmOf 2 .duplicateStation 255 1 .new]).response .duplicateStation).cls ≠ 4) ∧
    ((alarmed 48 .new []).alarmsLegal ∧ (alarmed 48 .new []).findAlarm 2 .gateJam 1 = none ∧
      48 ≤ (alarmed 48 .new []).alarms.table.length ∧ (∀ e ∈ (alarmed 48 .new []).alarms.table, e.state ≠ .returned) ∧
      ((alarmed 48 .new []).response .alarmFlood).cls ≠ 4 ∧ AlarmCode.gateJam ≠ .alarmFlood) := by
  refine ⟨?_, ?_, ?_, ?_, ?_⟩ <;> (unfold State.alarmsLegal; decide +kernel)

/-- The log set holds so many keys. -/
def logged (n : Nat) : State :=
  { run with alarms := { logSet := (List.range n).map fun k => (.journalGap, 255 + k, 1) } }

theorem witness_AlarmTableStaysLegal_logSet : (run.response .journalGap).cls = 4 ∧ run.cfg.isSome = true ∧
    (∃ k ∈ (logged 16).alarms.logSet, k.1 = .journalGap ∧ k.2.1 = 255) ∧
    (∀ k ∈ (logged 15).alarms.logSet, k.1 = .journalGap → k.2.1 ≠ 15) ∧ (logged 15).alarms.logSet.length < 16 := by
  decide +kernel

theorem witness_AlarmTableStaysLegal_eviction :
    evictedAlarm [alarmOf 9 .gateJam 1 2 .returned, alarmOf 9 .gateJam 2 3 .new, alarmOf 9 .gateJam 3 3 .returned,
      alarmOf 9 .gateJam 4 3 .returned] = some (alarmOf 9 .gateJam 3 3 .returned) ∧
    (alarmed 48 .standing []).alarmsLegal ∧ 9 ≠ (alarmed 48 .standing []).ownNumber := by
  unfold State.alarmsLegal; decide +kernel

/-- The trip line is observed asserted, and the coal slot stands TRIPPED with its latch at 0. -/
def stopped : State :=
  { coalCase with
    pending := [.runPermitEdge 0 true]
    alarms := { observed := true }
    output := { latches := (Vector.replicate 8 ({} : Latch)).set 0 { coalLatch with count := 0 } }
    channels := { slots := #v[.cf { coal with state := .tripped }, .unused, .unused, .unused] } }

theorem witness_TripInterlockHolds : stopped.interlocked ∧ stopped.alarms.observed = true ∧
    step stopped = .next (after (.runPermitEdge 0 true) { stopped with pending := [] }) :=
  ⟨by unfold State.interlocked; decide +kernel, rfl, rfl⟩

/-- The one FEED latch of both states is the coal slot's. -/
theorem feedLatches_coal {s : State} (h : ∀ o : Fin 8, o ≠ 0 → (s.latch o).kind ≠ .feed)
    (h0 : (s.latch 0).carried = false ∧ (s.latch 0).owner = some 0) (c : CfSlot) (hc : s.slot 0 = .cf c) (ho : c.par.output = 0)
    (hz : c.state.runs = false → (s.latch 0).count = 0) : s.feedLatches := by
  intro _ o k
  by_cases e : o = 0
  · subst e
    refine ⟨h0.1, ?_, ?_⟩
    · rw [h0.2]; nofun
    · intro i hi
      rw [h0.2] at hi
      cases hi
      exact ⟨c, hc, ho, hz⟩
  · exact absurd k (h o e)

theorem witness_TripInterlockHolds_stopped : stopped.feedLatches ∧ coalCase.feedLatches ∧
    step stopped = .next (after (.runPermitEdge 0 true) { stopped with pending := [] }) ∧
    { four with alarms := { observed := true } }.slot 1 = .di tyres :=
  ⟨feedLatches_coal (by decide +kernel) (by decide +kernel) _ rfl rfl (fun _ => by decide +kernel),
    feedLatches_coal (by decide +kernel) (by decide +kernel) _ rfl rfl nofun, rfl, rfl⟩

theorem witness_StepsEndAtRest : stopped.rested = true ∧
    step stopped = .next (after (.runPermitEdge 0 true) { stopped with pending := [] }) := ⟨by decide, rfl⟩

theorem witness_FramesCarryNotices :
    ([.heat 255 15 15 255 16777215 16777215 true true, .air 255 3 true true 255 16777215 65535 65535, .order 65535 16777215,
      .alarm 255 255 255 255 65535, .ack 255 255 255 65535, .mark 65535, .summary ([1, 2, 4] ++ List.replicate 60 0),
      .summary ([1, 2, 0] ++ List.replicate 12 0)] : List Notice).all Notice.fits = true ∧ 1 ≤ 1 ∧ 31 ≤ 31 := by decide

/-- A file of two granules in entry 31, CLOSED and outside a fence of 0. -/
def archived : State :=
  { run with
    cfg := some { cfg with retain := 0 }
    map := { alloc := ((Vector.replicate 128 Granule.free).set 0 (.next 127)).set 127 (.last 1)
             dir := (Vector.replicate 32 ({} : DirEntry)).set 31
               { state := .closed, first := some 0, last := some 127, page := 16, byte := 9, closeSeq := 1 } } }

theorem witness_RecordsSumToZero : (archived.dir 31).last ≠ some 1 ∧ (archived.dir 31).last = some 127 ∧
    (archived.dir 0).last ≠ some 0 ∧ archived.reclaim = some (archived.reclaimFile 31) ∧ archived.reclaimable 31 = true ∧
    (127 : Fin 128) ∈ archived.map.chain (archived.dir 31) := by decide +kernel

theorem witness_RecordsSumToZero_steps : opening.stepOnce = some (opening.takeStep 7 (.opened 7)) ∧ run.stepOnce = none ∧
    archived.agenda = [] ∧ { archived with agenda := [.raise .storeFull 255] }.agenda.getLast? = some (.raise .storeFull 255) ∧
    (archived.dir 31).state ≠ .empty ∧ (archived.dir 0).state = .empty := by decide +kernel

theorem witness_RecordsSumToZero_fence : archived.cfg.isSome = true ∧ archived.reclaimable 31 = true :=
  ⟨by decide +kernel, by decide +kernel⟩

/-- In RESET, with the supply present. -/
def inReset : State := { run with resetHeld := true }

theorem witness_StartsRun : State.reset.supply = false ∧ inReset.supply = true ∧ inReset.resetHeld = true := by decide

/-- The scan of a start has found file 31 in a state, with nothing queued and one granule linked to it. -/
def scanned (station : StationState) (st : FileState) : State :=
  { run with
    station := station
    map := { alloc := (Vector.replicate 128 Granule.free).set 0 (.last 1)
             dir := (Vector.replicate 32 ({} : DirEntry)).set 31
               { state := st, shift := 65535, first := some 0, last := some 0, byte := 245, records := 3 } } }

theorem witness_StartsRun_reports : (∀ station st, (∀ f : Fin 32, ((scanned station st).aux f).steps = []) ∧
      (scanned station st).store.queue = [] ∧ (scanned station st).store.program = none ∧
      (scanned station st).store.erase = none ∧ (scanned station st).store.area = none ∧
      ((scanned station st).dir 31).state = st ∧ (scanned station st).cfg = some cfg) ∧
    FileState.collating ≠ .empty ∧ FileState.opened ≠ .empty ∧
    ((scanned .listen .opened).map.place ((scanned .listen .opened).dir 31) 11).needs = false ∧ (1 : Nat) ≠ 4 ∧ (5 : Nat) ≠ 6 := by
  refine ⟨fun station st => ⟨?_, rfl, rfl, rfl, rfl, rfl, rfl⟩, by decide +kernel⟩
  intro f; simp [scanned, run, State.aux]

theorem witness_ResetAndSupplyLoss : four.live = true ∧ four.supply = true ∧ four.store.program = none ∧ four.store.area = none :=
  by decide

/-- A frame is on the medium, after so many attempts. -/
def onMedium (attempts : Nat) : State :=
  { run with link := { queue := [queued (.mark 7) 0 attempts], entryCount := 1, access := .sending, sendingEntry := some 0 } }

/-- 01, R15: RESET during an attempt counts it as a collision; the eighth attempt gives the frame up (R17). -/
theorem test_resetAsserted_collision :
    (after .resetAsserted (onMedium 6)).link.counters.collisions = 1 ∧ (after .resetAsserted (onMedium 6)).link.access = .idle ∧
    (after .resetAsserted (onMedium 7)).link.queue = [] := by decide +kernel

theorem witness_ResetAndSupplyLoss_sending : four.link.access ≠ .sending ∧ ∀ n ∈ [6, 7], (onMedium n).live = true ∧
    (onMedium n).link.access = .sending ∧ (onMedium n).sendingFrame = some (queued (.mark 7) 0 n) ∧
    (queued (.mark 7) 0 n).entry < (onMedium n).link.entryCount :=
  ⟨by decide, fun _ _ => ⟨rfl, rfl, rfl, Nat.zero_lt_one⟩⟩

theorem witness_ListenPeriodEndsInRun : listening.calm ∧ listening.picture.listenDue = some 101500 := ⟨⟨rfl, rfl⟩, rfl⟩

/-- The medium carries the station's own echo. -/
def deaf : State := { run with link := { deaf := true } }

theorem witness_BadFramesAreCounted : run.calm ∧ run.link.deaf = false ∧ deaf.calm ∧ deaf.link.deaf = true ∧
    assemble [0x7E] = .ignored ∧ assemble [0x7E, 0xC3, 5, 6, 121] = .badLength ∧ assemble [0x7E, 0xC3, 5, 6] = .short ∧
    assemble [0x7E, 0xC3, 5, 6, 0, 0, 0] = .frame 5 6 [] false :=
  ⟨⟨rfl, rfl⟩, rfl, ⟨rfl, rfl⟩, rfl, by decide +kernel⟩

/-- A burst of any origin and kind whose check holds. -/
def burst (origin kind : Nat) (payload : List Byte) : List Byte :=
  let body := [byte origin, byte kind, byte payload.length] ++ payload
  [0x7E, 0xC3] ++ body ++ be2 (crc16 body).toNat

theorem witness_BadFramesAreCounted_origins : (List.replicate 120 (0 : Byte)).length ≤ 120 ∧ at1 [0, 0, 4] 2 = 4 ∧
    assemble (burst 0 6 [0, 7]) = .frame 0 6 [0, 7] true ∧ assemble (burst 32 6 [0, 7]) = .frame 32 6 [0, 7] true ∧
    assemble (burst 5 0 []) = .frame 5 0 [] true ∧ assemble (burst 5 8 []) = .frame 5 8 [] true ∧
    assemble (burst 5 6 [7]) = .frame 5 6 [7] true ∧ lengthFits 6 [7] = false := by decide +kernel

theorem witness_ValidFramesAreTaken : run.calm ∧ run.link.deaf = false ∧ run.cfg = some cfg ∧ run.ownNumber = 2 ∧
    assemble (burst 2 1 (List.replicate 10 0)) = .frame 2 1 (List.replicate 10 0) true ∧
    assemble (burst 1 6 [0, 7]) = .frame 1 6 [0, 7] true ∧
    assemble (burst 31 7 (List.replicate 15 0)) = .frame 31 7 (List.replicate 15 0) true ∧
    lengthFits 1 (List.replicate 10 0) = true ∧ lengthFits 6 [0, 7] = true ∧ lengthFits 7 (List.replicate 15 0) = true ∧
    1 ≠ cfg.station ∧ 31 ≠ cfg.station :=
  ⟨⟨rfl, rfl⟩, rfl, rfl, rfl, by decide +kernel⟩

/-- A frame of a station that carries a notice is read back as that notice. -/
def reads (origin : Nat) (n : Notice) : Bool :=
  decide (assemble (frameBytes origin n) = .frame origin n.kind n.payload true ∧ 1 ≤ origin ∧ origin ≤ 31 ∧ origin ≠ 2 ∧
    1 ≤ n.kind ∧ n.kind ≤ 7 ∧ lengthFits n.kind n.payload = true ∧ Notice.parse n.kind n.payload = some n)

theorem hears_of_reads {s : State} {origin : Nat} {n : Notice} (h : s.calm) (d : s.link.deaf = false) (c : s.cfg = some cfg)
    (r : reads origin n = true) : s.hears (frameBytes origin n) origin n := by
  obtain ⟨a, l, g, o, k, k', f, p⟩ := of_decide_eq_true r
  exact ⟨h, d, l, g, ⟨cfg, c, o⟩, n.kind, n.payload, a, k, k', f, p⟩

/-- The payload of a summary of shift 65,534 without slots. -/
def summaryOf : List Byte := [0xFF, 0xFE, 0] ++ List.replicate 12 0

/-- A shift runs, the one before it is collating, and station 9 has an alarm in a state. -/
def listeningTo (st : AlarmState) : State :=
  { run with
    accountant := { shift := some 65535, shiftDue := some 101500, collating := some 65534, collationDue := some 101500,
                    collated := [31] }
    alarms := { table := [alarmOf 9 .gateJam 1 2 st] } }

theorem witness_ValidFramesAreTaken_shifts : ∀ st,
    (listeningTo st).hears (frameBytes 31 (.mark 0)) 31 (.mark 0) ∧ (listeningTo st).hears (frameBytes 1 (.mark 65535)) 1 (.mark 65535) ∧
    newer 0 65535 = true ∧ newer 65535 65535 = false ∧ (listeningTo st).station = .run ∧
    (listeningTo st).accountant.shift = some 65535 ∧ (listeningTo st).accountant.collating = some 65534 ∧
    (listeningTo st).hears (frameBytes 31 (.summary summaryOf)) 31 (.summary summaryOf) ∧
    (listeningTo st).hears (frameBytes 1 (.summary summaryOf)) 1 (.summary summaryOf) ∧
    BitVec.ofNat 16 (at2 summaryOf 0) = (65534 : Serial) ∧ 31 ∈ (listeningTo st).accountant.collated ∧
    1 ∉ (listeningTo st).accountant.collated :=
  fun _ => ⟨hears_of_reads ⟨rfl, rfl⟩ rfl rfl (by decide +kernel), hears_of_reads ⟨rfl, rfl⟩ rfl rfl (by decide +kernel),
    by decide, by decide, rfl, rfl, rfl, hears_of_reads ⟨rfl, rfl⟩ rfl rfl (by decide +kernel),
    hears_of_reads ⟨rfl, rfl⟩ rfl rfl (by decide +kernel), by decide, .head _, fun h => absurd (List.mem_singleton.mp h) (by decide)⟩

theorem witness_ValidFramesAreTaken_alarms : ∀ st ∈ [AlarmState.new, .standing, .returned],
    (listeningTo st).alarmsLegal ∧ (listeningTo st).findAlarm 9 .gateJam 1 = some (alarmOf 9 .gateJam 1 2 st) ∧
    (listeningTo st).findAlarm 31 .gateJam 1 = none ∧ (alarmOf 9 .gateJam 1 2 st).orphaned = false ∧
    newer 18 (alarmOf 9 .gateJam 1 2 st).occurrence = true ∧ (alarmOf 9 .gateJam 1 2 st).occurrence = 17 ∧
    9 ≠ (listeningTo st).ownNumber := by
  unfold State.alarmsLegal; decide +kernel

theorem witness_ValidFramesAreTaken_notices : ∀ st,
    (listeningTo st).hears (frameBytes 31 (.alarm AlarmCode.gateJam.number 1 1 1 0)) 31 (.alarm AlarmCode.gateJam.number 1 1 1 0) ∧
    (listeningTo st).hears (frameBytes 9 (.alarm AlarmCode.gateJam.number 1 3 1 18)) 9 (.alarm AlarmCode.gateJam.number 1 3 1 18) ∧
    (listeningTo st).hears (frameBytes 9 (.alarm AlarmCode.gateJam.number 1 2 2 17)) 9 (.alarm AlarmCode.gateJam.number 1 2 2 17) ∧
    (listeningTo st).hears (frameBytes 9 (.alarm AlarmCode.gateJam.number 1 2 2 18)) 9 (.alarm AlarmCode.gateJam.number 1 2 2 18) ∧
    (listeningTo st).hears (frameBytes 3 (.ack 9 AlarmCode.gateJam.number 1 17)) 3 (.ack 9 AlarmCode.gateJam.number 1 17) ∧
    (listeningTo st).hears (frameBytes 3 (.ack 9 AlarmCode.gateJam.number 1 16)) 3 (.ack 9 AlarmCode.gateJam.number 1 16) :=
  fun _ => ⟨hears_of_reads ⟨rfl, rfl⟩ rfl rfl (by decide +kernel), hears_of_reads ⟨rfl, rfl⟩ rfl rfl (by decide +kernel),
    hears_of_reads ⟨rfl, rfl⟩ rfl rfl (by decide +kernel), hears_of_reads ⟨rfl, rfl⟩ rfl rfl (by decide +kernel),
    hears_of_reads ⟨rfl, rfl⟩ rfl rfl (by decide +kernel), hears_of_reads ⟨rfl, rfl⟩ rfl rfl (by decide +kernel)⟩

/-- The station's own alarm in a state. -/
def ownJam (st : AlarmState) : State := { run with alarms := { table := [alarmOf 2 .gateJam 1 2 st] } }

theorem witness_ValidFramesAreTaken_open :
    (∀ st, (ownJam st).hears (frameBytes 3 (.alarm AlarmCode.gateJam.number 1 4 1 17)) 3 (.alarm AlarmCode.gateJam.number 1 4 1 17) ∧
      (ownJam st).hears (frameBytes 3 (.alarm AlarmCode.gateJam.number 1 0 1 17)) 3 (.alarm AlarmCode.gateJam.number 1 0 1 17) ∧
      (ownJam st).hears (frameBytes 3 (.alarm AlarmCode.gateJam.number 1 1 3 17)) 3 (.alarm AlarmCode.gateJam.number 1 1 3 17) ∧
      (ownJam st).hears (frameBytes 3 (.alarm 0 1 1 1 17)) 3 (.alarm 0 1 1 1 17) ∧
      (ownJam st).hears (frameBytes 3 (.ack 2 AlarmCode.gateJam.number 1 17)) 3 (.ack 2 AlarmCode.gateJam.number 1 17)) ∧
    AlarmCode.ofNumber 0 = none ∧
    ∀ st ∈ [AlarmState.new, .returned], (ownJam st).alarmsLegal ∧
      (ownJam st).findAlarm 2 .gateJam 1 = some (alarmOf 2 .gateJam 1 2 st) ∧
      (ownJam st).isFloodKey (alarmOf 2 .gateJam 1 2 st) = false := by
  refine ⟨fun _ => ⟨hears_of_reads ⟨rfl, rfl⟩ rfl rfl (by decide +kernel), hears_of_reads ⟨rfl, rfl⟩ rfl rfl (by decide +kernel),
    hears_of_reads ⟨rfl, rfl⟩ rfl rfl (by decide +kernel), hears_of_reads ⟨rfl, rfl⟩ rfl rfl (by decide +kernel),
    hears_of_reads ⟨rfl, rfl⟩ rfl rfl (by decide +kernel)⟩, rfl, ?_⟩
  unfold State.alarmsLegal; decide +kernel

/-- The payload of a heat notice from channel, rank and fuel byte. -/
def heatPayload (channel rankFuel : Byte) : List Byte := [channel, rankFuel, 2, 6, 26, 128, 6, 26, 129, 3]

theorem witness_HeatNoticesFillThePicture :
    full.calm ∧ full.cfg = some cfg ∧ full.link.deaf = false ∧ (full.findPeer 12 3).isSome = true ∧
    full.picture.entries.length = 48 ∧ run.picture.entries.length < 48 ∧
    assemble (burst 12 1 (heatPayload 3 0xF7)) = .frame 12 1 (heatPayload 3 0xF7) true ∧
    Notice.parse 1 (heatPayload 3 0xF7) = some (.heat 3 15 7 2 400000 400001 true true) ∧
    Notice.parse 1 (heatPayload 0 0x10) = some (.heat 0 1 0 2 400000 400001 true true) :=
  ⟨⟨rfl, rfl⟩, rfl, rfl, by decide +kernel⟩

theorem witness_HeatNoticesFillThePicture_refused :
    [heatPayload 4 0x10, heatPayload 3 0x00, heatPayload 3 0x18].all (fun p =>
      decide (assemble (burst 31 1 p) = .frame 31 1 p true) && lengthFits 1 p) = true ∧
    Notice.parse 1 (heatPayload 4 0x10) = some (.heat 4 1 0 2 400000 400001 true true) ∧
    Notice.parse 1 (heatPayload 3 0x00) = some (.heat 3 0 0 2 400000 400001 true true) ∧
    Notice.parse 1 (heatPayload 3 0x18) = some (.heat 3 1 8 2 400000 400001 true true) := by decide +kernel

theorem witness_HeatNoticesFillThePicture_air :
    run.hears (frameBytes 31 (.air 3 1 true true 6 400001 65535 65535)) 31 (.air 3 1 true true 6 400001 65535 65535) ∧
    run.hears (frameBytes 31 (.air 4 0 true true 6 0 0 0)) 31 (.air 4 0 true true 6 0 0 0) ∧
    run.hears (frameBytes 31 (.air 3 2 true true 6 0 0 0)) 31 (.air 3 2 true true 6 0 0 0) ∧
    run.picture.entries.length < 48 ∧ (full.findPeer 12 3).isSome = true :=
  ⟨hears_of_reads ⟨rfl, rfl⟩ rfl rfl (by decide +kernel), hears_of_reads ⟨rfl, rfl⟩ rfl rfl (by decide +kernel),
    hears_of_reads ⟨rfl, rfl⟩ rfl rfl (by decide +kernel), by decide, by decide +kernel⟩

theorem witness_HeatNoticesFillThePicture_kinds :
    full.hears (frameBytes 13 (.heat 3 15 7 2 1 1 true true)) 13 (.heat 3 15 7 2 1 1 true true) ∧
    48 ≤ full.picture.entries.length ∧ full.findPeer 13 3 = none ∧
    coalCase.hears (frameBytes 11 (.heat 0 1 0 2 1 1 true true)) 11 (.heat 0 1 0 2 1 1 true true) ∧
    coalCase.findPeer 11 0 = some (airEntry 11 0 21400) ∧ (airEntry 11 0 21400).isFeed = false ∧
    coalCase.hears (frameBytes 5 (.air 1 1 true true 6 1 1 1)) 5 (.air 1 1 true true 6 1 1 1) ∧
    coalCase.findPeer 5 1 = some (feedEntry 5 1 2 31550) ∧ (feedEntry 5 1 2 31550).isFeed = true :=
  ⟨hears_of_reads ⟨rfl, rfl⟩ rfl rfl (by decide +kernel), by decide, by decide +kernel,
    hears_of_reads ⟨rfl, rfl⟩ rfl rfl (by decide +kernel), by decide +kernel, by decide,
    hears_of_reads ⟨rfl, rfl⟩ rfl rfl (by decide +kernel), by decide +kernel, by decide⟩

/-- The medium is idle and the station waits in backoff. -/
def waiting (n : Nat) : State :=
  { run with link := { queue := [queued (.mark 7) 0 0], entryCount := 1, access := .backoff, mediumIdle := true, backoff := n } }

theorem witness_BackoffCountsAndDefers : ∀ n ∈ [2, 1, 0], (waiting n).calm ∧ (waiting n).link.access = .backoff ∧
    (waiting n).link.mediumIdle = true ∧ (waiting n).link.backoff = n ∧ crowded.calm ∧ crowded.link.access = .sending ∧
    run.calm ∧ run.link.access = .idle :=
  fun _ _ => ⟨⟨rfl, rfl⟩, rfl, rfl, rfl, ⟨rfl, rfl⟩, rfl, ⟨rfl, rfl⟩, rfl⟩

/-- A frame waits for the quiet gap. -/
def gapDue (station : StationState) (access : Access) : State :=
  { run with station := station, link := { queue := [queued (.mark 7) 0 0], entryCount := 1, access := access } }

theorem witness_QuietGapStartsBackoff : ∀ access, (gapDue .run access).calm ∧ (gapDue .run access).station = .run ∧
    (gapDue .run access).link.access = access ∧ (gapDue .run access).link.queue = queued (.mark 7) 0 0 :: [] ∧
    (gapDue .listen access).calm ∧ (gapDue .listen access).station ≠ .run ∧ run.calm ∧ run.link.queue = [] :=
  fun _ => ⟨⟨rfl, rfl⟩, rfl, rfl, rfl, ⟨rfl, rfl⟩, nofun, ⟨rfl, rfl⟩, rfl⟩

theorem witness_CollisionsWidenTheWindow : ∀ n ∈ [6, 7], (onMedium n).calm ∧ (onMedium n).link.access = .sending ∧
    (onMedium n).sendingFrame = some (queued (.mark 7) 0 n) ∧ (queued (.mark 7) 0 n).entry < (onMedium n).link.entryCount ∧
    (queued (.mark 7) 0 n).notice.cls ≠ 0 ∧ (onMedium n).link.discardsInRow < 3 ∧ (onMedium n).alarms.retry = [] ∧
    ∀ e ∈ (onMedium n).alarms.all, e.unpublished = false ∧ e.ackUnpublished = false :=
  fun _ _ => ⟨⟨rfl, rfl⟩, rfl, rfl, Nat.zero_lt_one, (show (queued (.mark 7) 0 0).notice.cls ≠ 0 by decide),
    by show 0 < 3; decide, rfl, nofun⟩

/-- A frame is on the medium, and an alarm notice waits in the retry list. -/
def retrying : State :=
  { onMedium 0 with alarms := { retry := [.alarm 4 1 2 2 17] } }

theorem witness_LinkStaysLegal_room : retrying.calm ∧ retrying.link.legal = true ∧ retrying.link.ordered ∧
    retrying.link.access = .sending ∧ retrying.sendingFrame = some (queued (.mark 7) 0 0) ∧
    retrying.link.exhaustionCause = false ∧ retrying.station = .run ∧ retrying.alarms.retry = [.alarm 4 1 2 2 17] ∧
    (Notice.alarm 4 1 2 2 17).cls = 0 ∧ ∀ e ∈ retrying.alarms.all, e.unpublished = false ∧ e.ackUnpublished = false :=
  ⟨⟨rfl, rfl⟩, by decide, by unfold Link.ordered QFrame.before; decide +kernel, rfl, rfl, rfl, rfl, rfl, rfl, by decide⟩

theorem witness_CleanSendingEndsTheFrame : (onMedium 0).calm ∧ (onMedium 0).link.access = .sending ∧
    (onMedium 0).sendingFrame = some (queued (.mark 7) 0 0) ∧ (onMedium 0).link.exhaustionCause = false ∧
    (onMedium 0).alarms.retry = [] ∧
    ∀ e ∈ (onMedium 0).alarms.all, e.unpublished = false ∧ e.ackUnpublished = false :=
  ⟨⟨rfl, rfl⟩, rfl, rfl, rfl, rfl, by decide⟩

/-- Both timers of the link unit run. -/
def linkTimers : State := { run with link := { duplicateDue := some 101500, silenceDue := some 102000 } }

theorem witness_LinkTimersExpire : linkTimers.calm ∧ linkTimers.link.duplicateDue = some 101500 ∧
    linkTimers.link.silenceDue = some 102000 := ⟨⟨rfl, rfl⟩, rfl, rfl⟩

theorem witness_SilentEntriesGoStale : full.calm ∧ full.cfg = some cfg ∧
    full.findPeer 12 3 = some (feedEntry 12 3 1 100) ∧ (feedEntry 12 3 1 100).age = .fresh :=
  ⟨⟨rfl, rfl⟩, rfl, by decide +kernel, rfl⟩

/-- The loss hold runs. -/
def lossHeld : State := { run with picture := { lossHoldDue := some 101500 } }

theorem witness_SilentEntriesAreLost : coalCase.calm ∧ coalCase.cfg = some cfg ∧
    coalCase.findPeer 5 1 = some (feedEntry 5 1 2 31550) ∧ coalCase.findPeer 11 1 = some (airEntry 11 1 8600) ∧
    lossHeld.calm ∧ lossHeld.picture.lossHoldDue = some 101500 :=
  ⟨⟨rfl, rfl⟩, rfl, by decide +kernel, by decide +kernel, ⟨rfl, rfl⟩, rfl⟩

/-- A station that is PRESENT. -/
def peer : PeerStation := { station := 31, last := 95500, present := true }

theorem witness_SilentStationsGoAbsent : { run with picture := { stations := [peer] } }.calm ∧
    { run with picture := { stations := [peer] } }.findStation 31 = some peer ∧ peer.present = true ∧
    { run with picture := { stations := [peer] } }.cfg = some cfg :=
  ⟨⟨rfl, rfl⟩, by decide +kernel, rfl, rfl⟩

/-- The firing input stands HELD. -/
def firingHeld : State :=
  { run with fields := { inputs := (Vector.replicate 16 ({} : Input)).set 7 heldInput } }

theorem witness_TakesAndRefreshes : run.calm ∧ run.cfg = some cfg ∧ cfg.desk = true ∧ run.station = .run ∧
    run.stationInput .firing = some 7 ∧ run.inputFresh 7 = true ∧ firingHeld.stationInput .firing = some 7 ∧
    firingHeld.inputFresh 7 = false ∧ ({ cfg with desk := false } : Cfg).desk = false :=
  ⟨⟨rfl, rfl⟩, by decide +kernel⟩

/-- A desk's refresh timer runs. -/
def refreshing : State :=
  { run with picture := { refreshDue := some 101500, order := some { epoch := 65535, target := 400000, origin := 3 } } }

theorem witness_TakesAndRefreshes_refresh : refreshing.calm ∧ refreshing.cfg = some cfg ∧ refreshing.station = .run ∧
    refreshing.picture.refreshDue = some 101500 ∧
    refreshing.picture.order = some { epoch := 65535, target := 400000, origin := 3 } := ⟨⟨rfl, rfl⟩, rfl, rfl, rfl, rfl⟩

theorem witness_TakesAndRefreshes_offers : run.link.queue.length < 12 ∧ refreshing.link.queue.length < 12 ∧
    ∃ f ∈ List.replicate 12 (queued (.order 1 5) 0 0), f.committed = false ∧ f.notice.kind = 3 := by decide +kernel

theorem witness_OrdersAreComparedByEpoch_heard : run.calm ∧ run.link.deaf = false ∧ run.cfg = some cfg ∧
    assemble (burst 31 3 [0, 1, 255, 255, 255]) = .frame 31 3 [0, 1, 255, 255, 255] true ∧
    lengthFits 3 [0, 1, 255, 255, 255] = true ∧ 31 ≠ cfg.station ∧
    Notice.parse 3 [0, 1, 255, 255, 255] = some (.order 1 16777215) ∧ compareOrder run.picture.order ⟨1, 400000, 31⟩ = .adopted ∧
    compareOrder (some ⟨1, 400000, 31⟩) ⟨1, 400000, 31⟩ = .confirmed ∧
    compareOrder (some ⟨1, 400000, 30⟩) ⟨1, 400000, 31⟩ = .refused :=
  ⟨⟨rfl, rfl⟩, rfl, rfl, by decide +kernel⟩

theorem witness_OrdersAreComparedByEpoch : newer 32767 0 = true ∧ newer 0 32767 = false ∧
    ({ epoch := 5, target := 0, origin := 1 } : FiringOrder) ≠ { epoch := 5, target := 0, origin := 2 } ∧
    (32767 : Serial) = 65535 + 32768 := by decide

theorem witness_ControlUpdatesMoveTargetAndEstimate : coalCase.calm ∧ coalCase.cfg = some cfg ∧
    coalCase.heat.updateDue = some 101500 := ⟨⟨rfl, rfl⟩, rfl, rfl⟩

/-- A unit in slot 0 during an update, with an order adopted, every permit asserted and the medium busy. -/
def updated (u : SlotUnit) : State :=
  { coalCase with
    fields := { coalCase.fields with permits := Vector.replicate 4 true }
    channels := { slots := #v[u, .unused, .unused, .unused], updating := true } }

theorem witness_ControlUpdatesMoveTargetAndEstimate_notices :
    (∀ u, (updated u).slot 0 = u ∧ (updated u).cfg = some cfg ∧ (updated u).offers ∧ (updated u).station = .run ∧
      (updated u).permit 0 = true ∧ (updated u).channels.updating = true ∧ (updated u).channels.noticed[(0 : Fin 4)] = false ∧
      (updated u).channels.leftOff[(0 : Fin 4)] = false) ∧
    cfg.divisor ≤ SlotUnit.publishCount (.cf { coal with publish := 1 }) + 1 ∧
    ¬cfg.divisor ≤ SlotUnit.publishCount (.cf coal) + 1 ∧
    (updated (.cf coal)).slotNotice 0 = some (.heat 0 9 0 2 69450 69450 false false) ∧
    (updated (.cf { coal with state := .off })).cfMayStart 0 { coal with state := .off } = true ∧
    0 < coal.alloc.mass ∧ coal.alloc.mass ≤ 2 * (updated (.cf coal)).cfMeasured coal ∧
    (updated (.di { tyres with state := .off })).diMayStart 0 { tyres with state := .off } = true ∧
    { (updated (.di tyres)).channels with leftOff := Vector.replicate 4 true }.leftOff[(0 : Fin 4)] = true ∧
    (updated (.ca { fan with state := .forced })).caForced { fan with state := .forced } = false := by
  constructor
  · intro u; simp [updated, coalCase, run, State.slot, State.offers, State.permit]
  · decide +kernel

/-- A station with a grate alone has no fan to force or release. -/
theorem witness_ControlUpdatesMoveTargetAndEstimate_grate (g : CgSlot) (j : Fin 4) (a : CaSlot) :
    (updated (.cg g)).slot j ≠ .ca a := by
  revert j; rw [Fin.forall_fin_succ]; simp [updated, State.slot, Fin.forall_fin_succ]

theorem witness_TargetAndEstimateMoveByTheirSteps :
    slewTarget 1000 1250 250 = 1250 ∧ slewTarget 1000 1251 250 = 1250 ∧ slewTarget 1000 750 250 = 750 ∧
    slewTarget 1000 749 250 = 750 ∧ moveEstimate 4000 4000 4 = 4000 ∧ moveEstimate 4000 3999 4 = 3999 ∧
    moveEstimate 4000 0 4 = 3996 := by decide

/-- The fan slot in a state, its response run since a time, at a flow and with its permit asserted. -/
def fanned (st : CaState) (since : Option Nat) (flow : Int) (age : Freshness) : State :=
  { run with
    fields := { inputs := (Vector.replicate 16 ({} : Input)).set 2 { value := flow, freshness := age }
                permits := Vector.replicate 4 true }
    channels := { slots := #v[.unused, .unused, .ca { fan with state := st, target := 2000, responseRun := since }, .unused] } }

theorem witness_TargetAndEstimateMoveByTheirSteps_fan :
    (∀ st since flow age, (fanned st since flow age).slot 2 = .ca { fan with state := st, target := 2000, responseRun := since } ∧
      (fanned st since flow age).station = .run ∧ (fanned st since flow age).permit 2 = true) ∧
    run.station = .run ∧ run.permit 2 = false ∧
    (fanned .running (some 71500) 399 .fresh).inputFresh 2 = true ∧
    (fanned .running (some 71500) 399 .fresh).caFlow { fan with state := .running } * 100 < 20 * 2000 ∧
    20 * 2000 ≤ (fanned .running (some 71500) 400 .fresh).caFlow { fan with state := .running } * 100 ∧
    (fanned .forced (some 71501) 0 .held).inputFresh 2 = false ∧ 0 < fan.par.devTime ∧
    71500 + fan.par.devTime * 1000 ≤ run.now ∧ run.now < 71501 + fan.par.devTime * 1000 ∧ fan.par.minAir ≤ fan.par.maxAir ∧
    targetAir 4375 450 0 1200 2600 = 1969 ∧ 1200 < 1969 ∧ 1969 < 2600 ∧ (259 : Int) < 250 + 10 ∧
    (250 : Int) + 10 * 1 ≤ 260 ∧ (269 : Int) < 250 + 10 * (1 + 1) := by
  refine ⟨fun _ _ _ _ => ⟨rfl, rfl, rfl⟩, ?_⟩; decide +kernel

/-- 07, R115: 8,000 cNm³/s of air at 900 degrees above ambient recover 93,600 kW. -/
theorem witness_TargetAndEstimateMoveByTheirSteps_recovered :
    let hot : CaSlot := { fan with par := { fan.par with tempInput := some 4 } }
    let s : State := { run with fields := { inputs :=
      ((Vector.replicate 16 ({} : Input)).set 2 { value := 8000 }).set 4 { value := 920 } } }
    hot.par.tempInput = some 4 ∧ (s.input hot.par.flowInput).freshness ≠ .failed ∧ (s.input 4).freshness ≠ .failed ∧
    s.stationInput .ambient = none ∧ s.recoveredHeat hot = 93600 ∧ fan.par.tempInput = none := by decide +kernel

/-- The grate slot in a state at a pressure, its calm run since a time, its pressure 20 s ago 7,000 Pa, and a fan. -/
def grated (st : CgState) (pressure : Int) (since : Option Nat) (other : CaState) : State :=
  { run with
    fields := { inputs := (Vector.replicate 16 ({} : Input)).set 3 { value := pressure } }
    channels := { slots := #v[.unused, .unused, .ca { fan with state := other },
      .cg { grate with state := st, rising := [(81500, 7000)], calmRun := since }] } }

theorem witness_TargetAndEstimateMoveByTheirSteps_grate :
    (∀ st p since other, (grated st p since other).slot 3 =
        .cg { grate with state := st, rising := [(81500, 7000)], calmRun := since } ∧
      (grated st p since other).slot 2 = .ca { fan with state := other } ∧
      (grated st p since other).inputFailed 3 = false ∧ (grated st p since other).inputFailed 2 = false) ∧
    risingWithin 101500 grate.par.flushWindow [(81500, 7000)] = [(81500, 7000)] ∧
    (8499 : Int) - 7000 < grate.par.flushRise ∧ (grate.par.flushRise : Int) ≤ 8500 - 7000 ∧
    (4799 : Int) < grate.par.setpoint + grate.par.band ∧ (grate.par.setpoint + grate.par.band : Int) ≤ 4800 ∧
    41500 + grate.par.flushEnd * 1000 ≤ 101500 ∧ 101500 < 41501 + grate.par.flushEnd * 1000 ∧
    ∀ k, k ≠ 3 → ((grated .flush 0 (some 41500) .forced).slot k).inFlush = false := by
  refine ⟨fun st p since other => ⟨rfl, rfl, rfl, rfl⟩, ?_⟩; decide +kernel

theorem witness_CreditIsCapped : 60 < at1 (List.replicate 21 61) 20 ∧ run.capPct ≤ 60 ∧ run.picture.target = 0 ∧
    { run with cfg := none }.capPct = 0 := by decide +kernel

theorem witness_RemainderIsSigned : four.slot 0 = .cf coal ∧ four.slot 1 = .di tyres := ⟨rfl, rfl⟩

/-- The coal case at a target of 400,000 kW: its station supervises, its UNDERFIRE run since a time. -/
def underfired (since : Nat) : State :=
  { coalCase with
    heat := { supervising := true, underRun := some since }, picture := { coalCase.picture with target := 400000 } }

theorem witness_RemainderIsSigned_supervision : (underfired 41500).cfg = some cfg ∧ (underfired 41500).supervises = true ∧
    (underfired 41500).stands .underfire 255 = false ∧ (underfired 41500).alarms.observed = false ∧
    (underfired 41500).totalHeat * 100 < (underfired 41500).required * (100 - cfg.fireTol) ∧
    41500 + cfg.fireDevTime * 1000 ≤ (underfired 41500).now ∧ (underfired 41501).now < 41501 + cfg.fireDevTime * 1000 ∧
    run.supervises = false ∧ ({ run with heat := { supervising := true } } : State).supervises = false ∧
    0 < coalCase.ncv coalPar.fuel ∧ 3999 < coalPar.massScale := by decide +kernel

theorem witness_SharesAndRampsAreBounded :
    shareOf 0 15000 110000 = 0 ∧ shareOf 1 15000 110000 = 15000 ∧ shareOf 14999 15000 110000 = 15000 ∧
    shareOf 15000 15000 110000 = 15000 ∧ shareOf 110001 15000 110000 = 110000 ∧
    rampHeat 100 1100 1000 2500 false = 1100 ∧ rampHeat 100 1101 1000 2500 false = 1100 ∧
    rampHeat 3000 500 1000 2500 true = 500 ∧ rampHeat 3000 499 1000 2500 true = 500 := by decide

/-- The coal slot in OFF with its start condition met. -/
def startable : State :=
  { coalCase with fields := { coalCase.fields with permits := Vector.replicate 4 true } }

theorem witness_SharesAndRampsAreBounded_slot :
    startable.cfMayStart 0 { coal with state := .off } = true ∧ coalCase.cfMayStart 0 coal = false ∧
    coalCase.cfMeasured coal = 2778 ∧ 5556 ≤ 2 * coalCase.cfMeasured coal ∧ 2 * coalCase.cfMeasured coal < 5557 ∧
    massOutOfBand (coalCase.cfMeasured coal) 2778 5 20 = false ∧ massOutOfBand (coalCase.cfMeasured coal) 2640 5 20 = true ∧
    0 < coalPar.devTime ∧ 81500 + coalPar.devTime * 1000 ≤ coalCase.now := by decide +kernel

/-- A COOLER latch carried through a line restart. -/
def carriedLatch : Latch := { count := 47906, kind := .cooler, owner := some 2, carried := true }

theorem witness_DriveCountsStayInRange : driveCount 1 1 0 0 = 65535 ∧ 1 ≤ 1 ∧ driveCount 0 1 (-300) 1000 = 0 ∧
    ({ run with station := .listen, output := { latches := Vector.replicate 8 carriedLatch } }.latch 7).carried = true ∧
    StationState.listen ≠ .run ∧ (coalCase.latch 0).carried = false ∧ coalCase.latchHeldAtZero 0 = false ∧
    stopped.latchHeldAtZero 0 = true ∧ State.reset.nv.usable (calBlock 7) = false := by decide +kernel

/-- 03, The coal feeder: the exact value of 2,818 g/s of 4,000 lies within half a count of 46,083; 1 g/s with the least offset
lies below 0. -/
theorem witness_DriveCountsStayInRange_exact : (0 < 2818 ∧ 2818 ≤ 4000) ∧
    (2 * 46083 - 1) * (4000 * 131072) ≤ 2 * 2818 * 65535 * (131072 + (-185)) + (-43 : Int) * (4000 * 131072) ∧
    2 * 2818 * 65535 * (131072 + (-185)) + (-43 : Int) * (4000 * 131072) < (2 * 46083 + 1) * (4000 * 131072) ∧
    2 * 1 * 65535 * (131072 + 0) + (-2048 : Int) * (4000 * 131072) < 4000 * 131072 := by decide

/-- The coal slot in STARTING at the end of its start timer. -/
def startingCoal : CfSlot := { coal with state := .starting, startDue := some 101500 }

theorem witness_FailedStartsFault :
    { run with channels := { slots := #v[.cf startingCoal, .unused, .unused, .unused] } }.calm ∧
    { run with channels := { slots := #v[.cf startingCoal, .unused, .unused, .unused] } }.slot 0 = .cf startingCoal ∧
    startingCoal.startDue = some 101500 ∧ startingCoal.state = .starting ∧
    ({ run with channels := { slots := #v[.cf startingCoal, .unused, .unused, .unused] } }.latch 0).carried = false ∧
    (SlotUnit.di { tyres with state := .fault }).feedRuns = false := ⟨⟨rfl, rfl⟩, rfl, rfl, rfl, rfl, rfl⟩

theorem witness_ScalingIsExact : run.calm ∧ (run.inputCfg 0).role.timed = true ∧ scaled 0 1 32767 = 0 ∧ scaled 0 1 32768 = 1 :=
  ⟨⟨rfl, rfl⟩, by decide +kernel⟩

theorem witness_SamplesAreTaken : run.calm ∧ (run.inputCfg 15).role = .unmapped ∧ (run.inputCfg 0).role.timed = true ∧
    (run.inputCfg 7).role.timed = true := ⟨⟨rfl, rfl⟩, by decide +kernel⟩

/-- Input 15 is FRESH, and input 0 HELD. -/
def sampled : State :=
  { run with fields := { inputs := ((Vector.replicate 16 ({} : Input)).set 0 heldInput).set 15 { freshDue := some 101500 } } }

theorem witness_SilentInputsAreHeldAndFail : sampled.calm ∧ (sampled.input 15).freshDue = some 101500 ∧
    (sampled.input 0).holdDue = some 101500 := ⟨⟨rfl, rfl⟩, by decide +kernel⟩

/-- All four slots in use, an input in a freshness state with its hold timer due, and slot 2 with two inputs, its outlet's in
another state. -/
def losing (k : Fin 16) (x : Input) (outlet : Freshness) : State :=
  { four with
    cfg := some { cfg with inputs := inputs.set 5 { role := .clinkerOutlet, consumer := 2 } }
    fields := { inputs := ((Vector.replicate 16 ({} : Input)).set 5 { freshness := outlet }).set k x } }

theorem witness_SilentInputsAreHeldAndFail_lost : (∀ k, (losing k heldInput .fresh).calm) ∧
    (losing 0 heldInput .fresh).offers ∧ (losing 0 heldInput .fresh).station = .run ∧
    (∀ k, ((losing k heldInput .fresh).input k).holdDue = some 101500) ∧
    (∀ j, ((losing 2 heldInput .fresh).input j).freshness ≠ .failed) ∧
    ((losing 2 heldInput .failed).inputCfg 5).role.timed = true ∧ ((losing 2 heldInput .failed).inputCfg 5).consumer = 2 ∧
    ((losing 2 heldInput .failed).input 5).freshness = .failed ∧ ((losing 2 heldInput .failed).inputCfg 2).consumer = 2 ∧
    [0, 1, 2, 3, 7].map (fun k => ((losing k heldInput .fresh).inputCfg k).slot) = [some 0, some 1, some 2, some 3, none] ∧
    (losing 0 heldInput .fresh).slot 0 = .cf coal ∧ coal.par.input = 0 ∧ coal.state ≠ .fault ∧
    (losing 1 heldInput .fresh).slot 1 = .di tyres ∧
    (losing 2 heldInput .fresh).slot 2 = .ca fan ∧ fan.par.flowInput = 2 ∧ fan.state = .running ∧
    (losing 3 heldInput .fresh).slot 3 = .cg grate ∧ grate.par.input = 3 ∧ grate.state = .running :=
  ⟨fun _ => ⟨rfl, rfl⟩, ⟨nofun, nofun⟩, rfl, by decide +kernel⟩

/-- The units that a FAILED input has stopped, the outlet's input in some state and the permits asserted or not. -/
def returning (k : Fin 16) (outlet : Freshness) (permit : Bool) (grateIn : CgState) : State :=
  { losing k { freshness := .failed } outlet with
    fields := { (losing k { freshness := .failed } outlet).fields with permits := Vector.replicate 4 permit }
    channels := { slots := #v[.cf { coal with state := .fault }, .di tyres, .ca { fan with state := .forced },
      .cg { grate with state := grateIn }] } }

theorem witness_SilentInputsAreHeldAndFail_back :
    (∀ k o p g, (returning k o p g).calm ∧ (returning k o p g).offers ∧ (returning k o p g).permit 0 = p ∧
      (returning k o p g).slot 0 = .cf { coal with state := .fault } ∧
      (returning k o p g).slot 2 = .ca { fan with state := .forced } ∧
      (returning k o p g).slot 3 = .cg { grate with state := g }) ∧
    (∀ k, ((returning k .fresh true .fault).input k).freshness = .failed) ∧
    [0, 2, 3].map (fun k => ((returning k .fresh true .fault).inputCfg k).role.timed) = [true, true, true] ∧
    [0, 2, 3].map (fun k => ((returning k .fresh true .fault).inputCfg k).slot) = [some 0, some 2, some 3] ∧
    (∀ j, j ≠ 2 → ((returning 2 .fresh true .fault).input j).freshness ≠ .failed) ∧
    ((returning 2 .failed true .fault).inputCfg 5).role.timed = true ∧
    ((returning 2 .failed true .fault).inputCfg 5).consumer = ((returning 2 .failed true .fault).inputCfg 2).consumer ∧
    ((returning 2 .failed true .fault).input 5).freshness = .failed ∧ (returning 2 .fresh true .fault).localFlush = false := by
  constructor
  · intro k o p g; simp [returning, losing, four, run, State.calm, State.live, State.slot, State.offers, State.permit]
  · decide +kernel

/-- No flush runs where the grate stands in FAULT. -/
theorem witness_SilentInputsAreHeldAndFail_noFlush (j : Fin 4) (g : CgSlot)
    (h : (returning 2 .fresh true .fault).slot j = .cg g) : g.state ≠ .flush := by
  have quiet : ∀ i, ((returning 2 .fresh true .fault).slot i).inFlush = false := by decide +kernel
  simpa [h, SlotUnit.inFlush] using quiet j

/-- The tyre slot with so many items queued. -/
def queueing (n : Nat) : State :=
  { four with channels := { slots := #v[.unused, .di { tyres with queue := List.replicate n tyre }, .unused, .unused] } }

theorem witness_WeighedItemsAreQueuedOrDiverted : (∀ n, (queueing n).calm ∧
      (queueing n).slot 1 = .di { tyres with queue := List.replicate n tyre } ∧ (queueing n).stands .feedStarved 1 = false ∧
      (queueing n).inputCfg 1 = four.inputCfg 1) ∧
    (four.inputCfg 1).role = .itemWeight ∧ (four.inputCfg 1).slot = some 1 ∧
    [39, 40, 150, 151].map (fun raw => (scaled (four.inputCfg 1).lo (four.inputCfg 1).hi raw).toNat) = [39, 40, 150, 151] ∧
    (List.replicate 1 tyre).length ≠ 16 ∧ List.replicate 1 tyre ≠ [] ∧ (List.replicate 15 tyre).length ≠ 16 ∧
    List.replicate 15 tyre ≠ [] ∧ (List.replicate 16 tyre).length = 16 :=
  ⟨fun _ => ⟨⟨rfl, rfl⟩, rfl, rfl, rfl⟩, by decide +kernel⟩

/-- The tyre slot with its gate READY, at a debt, with a chamber item or none, and with the head item or none. -/
def indebted (debt : Nat) (item : Option Item) (queue : List Item) : State :=
  { run with channels := { slots :=
      #v[.unused, .di { tyres with debt := debt, queue := queue, gate := { state := .ready, item := item } }, .unused, .unused] } }

theorem witness_WeighedItemsAreQueuedOrDiverted_debt :
    (∀ debt item queue, (indebted debt item queue).slot 1 =
      .di { tyres with debt := debt, queue := queue, gate := { state := .ready, item := item } }) ∧
    tyres.runs = true ∧ (indebted 270000 none [tyre]).alarms.observed = false ∧ tyre.energy ≤ 270000 ∧ 269999 < tyre.energy ∧
    (indebted 1050000 none []).stands .feedStarved 1 = false ∧ 2 * tyrePar.maxItemEnergy ≤ 1050000 + 1 * 500 / 1000 ∧
    debtAfter 1049999 2000 500 1050000 = 1050000 ∧ debtAfter 1049999 1 500 1050000 = 1049999 ∧
    startable.diMayStart 1 { tyres with state := .off } = true ∧ coalCase.diMayStart 1 tyres = false := by
  refine ⟨fun _ _ _ => rfl, ?_⟩; decide +kernel

/-- FEED STARVED stands, the queue is empty, and the READY gate holds a chamber item or none. -/
def starved (debt : Nat) (item : Option Item) : State :=
  { indebted debt item [] with alarms := { table := [alarmOf 2 .feedStarved 1 2 .new] } }

theorem witness_WeighedItemsAreQueuedOrDiverted_empty :
    (∀ debt item, (starved debt item).calm ∧ (starved debt item).inputCfg 1 = four.inputCfg 1 ∧ (starved debt item).slot 1 =
        .di { tyres with debt := debt, queue := [], gate := { state := .ready, item := item } } ∧
      ({ state := .ready, item := item } : Gate).rests ∧ (starved debt item).alarms.observed = false) ∧
    (starved 269999 none).stands .feedStarved 1 = true ∧ 90 * cfg.fuel[1] / 10 = 270000 ∧ tyre.energy ≤ 270000 :=
  ⟨fun _ _ => ⟨⟨rfl, rfl⟩, rfl, rfl, ⟨rfl, .inl rfl⟩, rfl⟩, by decide +kernel⟩

theorem witness_PermitsAndInitialLevelsAreTaken : four.calm ∧ four.cfg.isSome = true ∧ four.slot 0 = .cf coal ∧
    coal.state.runs = true ∧ four.slot 1 = .di tyres ∧ tyres.gate.conflict = false ∧ tyres.runs = true ∧
    four.slot 2 = .ca fan ∧ four.slot 3 = .cg grate := ⟨⟨rfl, rfl⟩, rfl, rfl, rfl, rfl, rfl, rfl, rfl, rfl⟩

/-- The drive stream runs, with output 7 pending or with none. -/
def streaming (pending : Bool) : State :=
  { run with output := { latches := (Vector.replicate 8 ({} : Latch)).set 7 { count := 65535, pending := pending }
                         streaming := true, word := some (0, 0), refreshDue := some 101500 } }

theorem witness_DriveWordsFollowTheLatches : (∀ b, (streaming b).calm) ∧ (∀ b, (streaming b).output.streaming = true) ∧
    (streaming false).lowestPending = none ∧ (streaming true).lowestPending = some 7 ∧
    ∀ b, (streaming b).output.refreshDue = some 101500 :=
  ⟨fun _ => ⟨rfl, rfl⟩, fun _ => rfl, by decide +kernel, by decide +kernel, fun _ => rfl⟩

/-- The tyre slot with a gate. -/
def gated (g : Gate) : State :=
  { four with channels := { slots := #v[.unused, .di { tyres with gate := g }, .unused, .unused] } }

/-- A gate in a waiting state with a tyre in it. -/
def cycling (state : GateState) : Gate := { state := state, item := some tyre, phaseDue := some 101500 }

theorem witness_GateCyclesAdvance : (∀ g, (gated g).calm) ∧ (∀ g, (gated g).slot 1 = .di { tyres with gate := g }) ∧
    (∀ st sw level, ((cycling st).withSwitch sw level).conflict = false) ∧
    (∀ st, ((cycling st).withSwitch .upperOpen true).upperOpen = true) ∧
    (∀ st, ((cycling st).withSwitch .upperClosed true).upperClosed = true ∧ (cycling st).interrupted = false ∧
      ((cycling st).withSwitch .upperClosed true).lowerOpen = false) ∧
    (∀ st, ((cycling st).withSwitch .lowerOpen true).lowerOpen = true ∧
      ((cycling st).withSwitch .lowerOpen true).item = some tyre) :=
  ⟨fun _ => ⟨rfl, rfl⟩, fun _ => rfl, fun st sw level => by cases sw <;> cases level <;> rfl, fun _ => rfl,
    fun _ => ⟨rfl, rfl, rfl⟩, fun _ => ⟨rfl, rfl⟩⟩

/-- The tyre slot in a state with its gate about to become READY: LOWER CLOSING, or an interrupted UPPER CLOSING with its
item. -/
def readying (st : DiState) (item : Option Item) (debt : Nat) (queue : List Item) : State :=
  { four with channels := { slots := #v[.unused, .di { tyres with
      state := st, debt := debt, queue := queue
      gate := { state := if item.isNone then .lowerClosing else .upperClosing, interrupted := item.isSome, item := item
                lowerClosed := true } }, .unused, .unused] } }

/-- Its gate as the upper flap is confirmed closed. -/
def closedGate (item : Option Item) : Gate :=
  { state := if item.isNone then .lowerClosing else .upperClosing, interrupted := item.isSome, item := item
    lowerClosed := true, upperClosed := true }

theorem witness_GateCyclesAdvance_ready :
    (∀ st item debt queue, (readying st item debt queue).calm ∧ (readying st item debt queue).slot 1 = .di { tyres with
        state := st, debt := debt, queue := queue
        gate := { state := if item.isNone then .lowerClosing else .upperClosing, interrupted := item.isSome, item := item
                  lowerClosed := true } } ∧ (closedGate item).conflict = false ∧ (closedGate item).lowerOpen = false ∧
      (closedGate item).upperClosed = true ∧ (readying st item debt queue).alarms.observed = false) ∧
    (closedGate none).state = .lowerClosing ∧ (closedGate none).lowerClosed = true ∧ (closedGate none).item = none ∧
    (closedGate (some tyre)).state = .upperClosing ∧ (closedGate (some tyre)).interrupted = true ∧
    (closedGate (some tyre)).item = some tyre ∧ ({ tyres with state := .fault } : DiSlot).runs = false ∧ tyres.runs = true ∧
    (readying .dosing none 270000 [tyre]).stands .gateJam 1 = false ∧ tyre.energy ≤ 270000 ∧ 269999 < tyre.energy := by
  refine ⟨fun st item debt queue => ⟨⟨rfl, rfl⟩, rfl, by cases item <;> rfl, rfl, rfl, rfl⟩, ?_⟩; decide +kernel

theorem witness_LatePhasesJamTheGate : (gated (cycling .upperOpening)).calm ∧
    (gated (cycling .upperOpening)).slot 1 = .di { tyres with gate := cycling .upperOpening } ∧
    (cycling .upperOpening).phaseDue = some 101500 ∧ (gated (cycling .upperOpening)).station = .run :=
  ⟨⟨rfl, rfl⟩, rfl, rfl, rfl⟩

theorem witness_LatePhasesJamTheGate_conflict : (∀ g, (gated g).calm ∧ (gated g).slot 1 = .di { tyres with gate := g } ∧
      (gated g).station = .run) ∧
    ({ cycling .upperOpening with upperClosed := true }.withSwitch .upperOpen true).conflict = true ∧
    ({ state := .ready, item := some tyre, lowerClosed := true : Gate }.withSwitch .lowerOpen true).conflict = true ∧
    ({ cycling .upperOpening with upperClosed := true }.withSwitch .upperOpen true).state ≠ .jammed :=
  ⟨fun _ => ⟨⟨rfl, rfl⟩, rfl, rfl⟩, rfl, rfl, nofun⟩

/-- The tyre slot with its divert pulse running. -/
def diverting : State :=
  { four with channels := { slots := #v[.unused, .di { tyres with divertDue := some 101500 }, .unused, .unused] } }

theorem witness_JamClearAndDivertTimers : (gated { state := .jammed, upperClosed := true }).calm ∧
    ({ state := .jammed, upperClosed := true } : Gate).conflict = false ∧ four.calm ∧ tyres.gate.state ≠ .jammed ∧
    diverting.calm ∧ diverting.slot 1 = .di { tyres with divertDue := some 101500 } :=
  ⟨⟨rfl, rfl⟩, rfl, ⟨rfl, rfl⟩, nofun, ⟨rfl, rfl⟩, rfl⟩

/-- The tyre slot in FAULT with its gate JAMMED, the upper flap closed, and the lower one closed or showing both levels. -/
def jamClosed (bothLevels : Bool) : State :=
  { four with channels := { slots := #v[.unused, .di { tyres with state := .fault, gate :=
      { state := .jammed, upperClosed := true, lowerClosed := true, lowerOpen := bothLevels } }, .unused, .unused] } }

theorem witness_JamClearAndDivertTimers_closed : ∀ b, (jamClosed b).calm ∧ (jamClosed b).slot 1 = .di { tyres with
      state := .fault, gate := { state := .jammed, upperClosed := true, lowerClosed := true, lowerOpen := b } } ∧
    ({ state := .jammed, upperClosed := true, lowerClosed := true, lowerOpen := b } : Gate).conflict = b ∧
    ({ tyres with state := .fault } : DiSlot).runs = false ∧ (jamClosed b).station = .run :=
  fun b => ⟨⟨rfl, rfl⟩, rfl, by cases b <;> rfl, rfl, rfl⟩

/-- The trip line is observed asserted, the coal and the tyre slot stand TRIPPED, and a class-1 alarm of slot 0 stands or has
returned. -/
def tripped (st : AlarmState) : State :=
  { run with
    alarms := { observed := true, table := [alarmOf 2 .feedFailedToStart 0 1 st] }
    channels := { slots := #v[.cf { coal with state := .tripped }, .di { tyres with state := .tripped }, .unused, .unused] } }

theorem witness_TripLineIsObserved_release : (∀ st, (tripped st).calm ∧ (tripped st).alarms.observed ≠ false ∧
      (tripped st).slot 0 = .cf { coal with state := .tripped } ∧ (tripped st).slot 1 = .di { tyres with state := .tripped } ∧
      (tripped st).cfg.isSome = true) ∧
    (tripped .returned).classTrip 0 = false ∧ (tripped .returned).classTrip 1 = false ∧ (tripped .new).classTrip 0 = true ∧
    tyres.gate.conflict = false ∧
    (∀ g, (gated g).calm ∧ (gated g).alarms.observed ≠ true ∧ (gated g).slot 1 = .di { tyres with gate := g }) ∧
    (∀ st b, ({ cycling st with upperClosed := b } : Gate).conflict = false) :=
  ⟨fun _ => ⟨⟨rfl, rfl⟩, nofun, rfl, rfl, rfl⟩, by decide +kernel, by decide +kernel, by decide +kernel, rfl,
    fun _ => ⟨⟨rfl, rfl⟩, nofun, rfl⟩, fun _ b => by cases b <;> rfl⟩

/-- The trip line stands asserted, FLOOR TRIP is the station's one entry and both feed slots are TRIPPED. -/
def floorTripped : State := { tripped .new with alarms := { observed := true, table := [alarmOf 2 .floorTrip 255 1 .new] } }

theorem witness_TripLineIsObserved_floorTrip : floorTripped.calm ∧ floorTripped.alarms.observed = true ∧
    floorTripped.cfg.isSome = true ∧ floorTripped.alarmsLegal ∧ floorTripped.interlocked ∧
    (floorTripped.response .floorTrip).cls ≠ 4 ∧ (floorTripped.response .floorTrip).floor = false ∧
    floorTripped.findAlarm floorTripped.ownNumber .floorTrip 255 = some (alarmOf 2 .floorTrip 255 1 .new) ∧
    (alarmOf 2 .floorTrip 255 1 .new).cls = 1 ∧ (alarmOf 2 .floorTrip 255 1 .new).state ≠ .returned ∧
    (alarmOf 2 .floorTrip 255 1 .new).latched = false ∧
    (∀ f ∈ floorTripped.alarms.all, f = alarmOf 2 .floorTrip 255 1 .new) ∧
    floorTripped.slot 0 = .cf { coal with state := .tripped } ∧ floorTripped.slot 1 = .di { tyres with state := .tripped } :=
  ⟨⟨rfl, rfl⟩, rfl, rfl, by unfold State.alarmsLegal; decide +kernel, fun _ => by decide +kernel, by decide +kernel⟩

theorem witness_TripLineIsObserved : four.calm ∧ four.alarms.observed = false ∧ stopped.calm ∧ stopped.alarms.observed = true :=
  ⟨⟨rfl, rfl⟩, rfl, ⟨rfl, rfl⟩, rfl⟩

theorem witness_PanelLinesAct : flooded.calm ∧ flooded.cfg.isSome = true ∧ flooded.alarmsLegal ∧
    { run with cfg := none }.calm ∧ { run with cfg := none }.cfg = none ∧
    alarmOf 9 .gateJam 47 2 .new ∈ flooded.alarms.table ∧ alarmOf 2 .alarmFlood 255 3 .new ∈ flooded.alarms.flood ∧
    9 ≠ flooded.ownNumber :=
  ⟨⟨rfl, rfl⟩, rfl, by unfold State.alarmsLegal; decide +kernel, ⟨rfl, rfl⟩, rfl, by decide +kernel, by decide +kernel,
    by decide +kernel⟩

/-- 40 entries that stand, and the flood slot's in NEW. -/
def floodStands : State :=
  { run with alarms := { table := (alarmed 40 .standing []).alarms.table, flood := some (alarmOf 2 .alarmFlood 255 3 .new) } }

theorem witness_PanelLinesAct_room : 40 ≤ floodStands.begun.panelAckAll.alarms.table.length ∧
    alarmOf 9 .gateJam 39 2 .standing ∈ floodStands.alarms.table ∧
    alarmOf 2 .alarmFlood 255 3 .new ∈ floodStands.alarms.flood := by decide +kernel

theorem witness_PanelLinesAct_lamps : { run with station := .startHalt }.live = true ∧ flooded.station ≠ .startHalt ∧
    flooded.lamp 2 = .flashing ∧ floodStands.lamp 3 = .flashing ∧ run.lamp 1 = .dark ∧ flooded.horn = true ∧
    { run with alarms := { table := [alarmOf 9 .gateJam 1 2 .standing] } }.lamp 2 = .steady := by decide +kernel

/-- A shift runs, and the one before it is collating. -/
def collating : State :=
  { run with accountant := { shift := some 65535, shiftDue := some 101500, collating := some 65534, collationDue := some 101500 } }

theorem witness_ShiftTimersCloseAndCollate : collating.calm ∧ collating.cfg = some cfg ∧
    collating.accountant.shiftDue = some 101500 ∧ collating.accountant.shift = some (65535 : Serial) ∧
    collating.accountant.collationDue = some 101500 := ⟨⟨rfl, rfl⟩, rfl, rfl, rfl, rfl⟩

theorem witness_ShiftTimersCloseAndCollate_offers : collating.offers := ⟨nofun, nofun⟩

theorem witness_ProgramsWriteTheirRecords : programming.calm ∧ programming.nv.array.wf = true ∧
    programming.store.program = some closeOp ∧
    [6, 5, 0, 0, 0, 0, 1, 0xF4] = closeOp.records.flatMap (QRecord.bytes (programming.store.aux[closeOp.file]).base) :=
  ⟨⟨rfl, rfl⟩, by decide, rfl, by decide +kernel⟩

/-- The erase of the last granule, suspended or not. -/
def erasing (suspended : Bool) : State :=
  { run with nv := programming.nv, store := { erase := some { granule := 127, suspended := suspended } } }

theorem witness_ErasesClearOneGranule : ∀ b, (erasing b).calm ∧ (erasing b).nv.array.wf = true ∧
    (erasing b).store.erase = some { granule := 127, suspended := b } := fun _ => ⟨⟨rfl, rfl⟩, rfl, rfl⟩

theorem witness_SnapshotsChangeNothing : full.calm ∧ full.port.window = none ∧ 32 ≤ (32 : Byte).toNat ∧
    full.picture.entries.length ≤ (48 : Byte).toNat ∧ flooded.calm ∧ flooded.alarms.all.length ≤ (49 : Byte).toNat ∧
    4 ≤ (4 : Byte).toNat := ⟨⟨rfl, rfl⟩, rfl, by decide, by decide, ⟨rfl, rfl⟩, by decide, by decide⟩

/-- A file of 17 bytes in entry 31, open in the window in FIXED at an offset, with a buffer. -/
def reading (offset : Nat) (buffer : List Byte) : State :=
  { run with
    map := { dir := (Vector.replicate 32 ({} : DirEntry)).set 31 { state := .closed, first := some 0, last := some 0, byte := 17 } }
    port := { window := some { entry := 31, fixed := true, offset := offset }, buffer := buffer, reading := true } }

theorem witness_WindowsOpenAndFill : (reading 16 []).calm ∧ (reading 16 []).port.window = some ⟨31, true, 16, false⟩ ∧
    (reading 16 []).port.reading = true ∧ (reading 16 []).arrayReadable = true ∧ (erasing false).arrayReadable = false ∧
    (31 : Byte).toNat < 32 ∧ (1 : Byte).toNat ≤ 1 ∧ 32 ≤ (32 : Byte).toNat ∧ 1 < (2 : Byte).toNat :=
  ⟨⟨rfl, rfl⟩, rfl, rfl, rfl, rfl, by decide, by decide, by decide, by decide⟩

theorem witness_StreamsAnswerInUnits : run.calm ∧ run.port.window = none ∧ (reading 16 [7]).calm ∧
    (reading 16 [7]).port.window = some ⟨31, true, 16, false⟩ ∧ 16 < (reading 16 [7]).windowLength ⟨31, true, 16, false⟩ ∧
    (reading 16 [7]).unitReady ⟨31, true, 16, false⟩ = true :=
  ⟨⟨rfl, rfl⟩, rfl, ⟨rfl, rfl⟩, rfl, by decide +kernel, by decide +kernel⟩

theorem witness_StreamsAnswerInUnits_ends :
    (∀ offset buffer, (reading offset buffer).calm ∧
      (reading offset buffer).port.window = some ⟨31, true, offset, false⟩) ∧
    (reading 17 []).windowLength ⟨31, true, 17, false⟩ = 17 ∧ (reading 0 []).unitReady ⟨31, true, 0, false⟩ = false ∧
    (reading 16 []).unitReady ⟨31, true, 16, false⟩ = false ∧ 16 < (reading 16 []).windowLength ⟨31, true, 16, false⟩ :=
  ⟨fun _ _ => ⟨⟨rfl, rfl⟩, rfl⟩, by decide +kernel⟩

/-- The configuration area with the bytes 397, 0 and 2 at its head, and erased but for the check at its end: an image of
397 bytes of station 2. -/
def stored : Memory := [(0, 1), (1, 0x8D), (2, 2), (395, 0x9D), (396, 0xB6)]

/-- 49 erased bytes. -/
def ones : List Byte := List.replicate 49 0xFF

/-- The check of that image, in eight parts. -/
theorem crc_image : crc16 (be2 397 ++ [2] ++ List.replicate 392 0xFF) = 40374#16 := by
  have parts : be2 397 ++ [2] ++ List.replicate 392 0xFF = (be2 397 ++ [2] ++ List.replicate 49 0xFF) ++ ones ++ ones ++ ones ++ ones ++ ones ++ ones ++ ones := by
    decide +kernel
  have h : (be2 397 ++ [2] ++ List.replicate 49 0xFF).foldl crcByte 0xFFFF#16 = 25344#16 := by decide +kernel
  have h1 : ones.foldl crcByte 25344#16 = 38043#16 := by decide +kernel
  have h2 : ones.foldl crcByte 38043#16 = 41870#16 := by decide +kernel
  have h3 : ones.foldl crcByte 41870#16 = 13940#16 := by decide +kernel
  have h4 : ones.foldl crcByte 13940#16 = 29527#16 := by decide +kernel
  have h5 : ones.foldl crcByte 29527#16 = 10194#16 := by decide +kernel
  have h6 : ones.foldl crcByte 10194#16 = 13842#16 := by decide +kernel
  have h7 : ones.foldl crcByte 13842#16 = 40374#16 := by decide +kernel
  rw [crc16, parts]
  simp only [List.foldl_append, h, h1, h2, h3, h4, h5, h6, h7]

/-- R177: the image passes its checks. -/
theorem image_accepted : ({ config := stored } : Nonvolatile).image.isNone = false := by
  have h : stored.readBytes 0 397 = be2 397 ++ [2] ++ List.replicate 392 0xFF ++ [0x9D, 0xB6] := by decide +kernel
  have l : imageLength stored = 397 := by decide +kernel
  have t : (be2 397 ++ [2] ++ List.replicate 392 0xFF ++ [0x9D, 0xB6]).take (397 - 2) = be2 397 ++ [2] ++ List.replicate 392 0xFF := by
    decide +kernel
  have c : 397 ≤ 397 ∧ 397 ≤ Config.configBytes ∧ tornWithin 397 [] = false ∧
      (crc16 ((be2 397 ++ [2] ++ List.replicate 392 0xFF ++ [0x9D, 0xB6]).take (397 - 2))).toNat =
        at2 (be2 397 ++ [2] ++ List.replicate 392 0xFF ++ [0x9D, 0xB6]) (397 - 2) ∧
      1 ≤ at1 (be2 397 ++ [2] ++ List.replicate 392 0xFF ++ [0x9D, 0xB6]) 2 ∧
      at1 (be2 397 ++ [2] ++ List.replicate 392 0xFF ++ [0x9D, 0xB6]) 2 ≤ 31 := by
    rw [t, crc_image]; decide +kernel
  simp only [Nonvolatile.image, l, h]
  rw [if_pos c]; rfl

/-- A part in COMMISSION with the write-enable latch set and an acceptable image, block 14 locked. -/
def withImage : State :=
  { service with nv := { config := stored, otpLocks := (Vector.replicate 16 false).set 14 true } }

theorem witness_WriteCommandsAreTestedInOrder_freeze : withImage.calm ∧ withImage.nv.image.isNone = false ∧
    withImage.protection = .commission ∧ withImage.port.writeEnable = true ∧ withImage.engineBusy = false :=
  ⟨⟨rfl, rfl⟩, image_accepted, rfl, rfl, rfl⟩

theorem witness_WriteCommandsAreTestedInOrder : service.calm ∧ service.port.window = none ∧ service.protection = .commission ∧
    service.port.writeEnable = true ∧ service.engineBusy = false ∧ run.calm ∧ run.protection ≠ .commission ∧
    ({ service with store := { area := some .erase } } : State).engineBusy = true ∧
    service.nv.image.isNone = true ∧ withImage.nv.otpLocks[Fin.ofNat 16 (14 : Byte).toNat] = true ∧ withImage.nv.otpLocks[Fin.ofNat 16 (13 : Byte).toNat] = false ∧
    14 < (15 : Byte).toNat ∧ 64 < (65 : Byte).toNat ∧ 1024 < (961 : BitVec 16).toNat + (64 : Byte).toNat ∧
    ¬1024 < (960 : BitVec 16).toNat + (64 : Byte).toNat :=
  ⟨⟨rfl, rfl⟩, rfl, rfl, rfl, rfl, ⟨rfl, rfl⟩, nofun, rfl, by decide +kernel⟩

/-- The engine at an operation on the configuration area or the OTP blocks. -/
def engine (op : AreaOp) : State := { service with store := { area := some op } }

theorem witness_WriteCommandsAreTestedInOrder_window :
    ({ service with port := { service.port with window := some ⟨31, true, 16, false⟩ } } : State).calm ∧
    ({ service with port := { service.port with window := some ⟨31, true, 16, false⟩ } } : State).port.window.isSome = true :=
  ⟨⟨rfl, rfl⟩, rfl⟩

theorem witness_ConfigOperationsComplete : ∀ op, (engine op).calm ∧ (engine op).nv.config.wf = true ∧
    (engine op).store.area = some op := fun _ => ⟨⟨rfl, rfl⟩, rfl, rfl⟩

theorem witness_OtpProgramsComplete : ∀ op, (engine op).calm ∧ (engine op).nv.otp.wf = true ∧
    (engine op).store.area = some op ∧ ∀ n, n < 32 → (engine op).nv.otp.read (480 + n) = 0xFF :=
  fun _ => ⟨⟨rfl, rfl⟩, rfl, rfl, fun _ _ => rfl⟩

/-- 12, Formats: the freeze mark. Block 15 takes it where it is erased, and not where a byte of it is programmed. -/
theorem witness_OtpProgramsComplete_freeze :
    let mark : List Byte := 0x01 :: (List.replicate 30 0xFF ++ [0x1D])
    Memory.readBytes (Memory.program [] 480 mark) 480 32 = mark ∧
    Memory.readBytes (Memory.program [(481, 0x00)] 480 mark) 480 32 ≠ mark ∧ Memory.wf [(481, 0x00)] = true := by decide +kernel

theorem witness_FlushAndBadCommands : run.calm := ⟨rfl, rfl⟩

end Sys2Proof.Tests
end

section
/-! PROOFS. Events of the link: backoff slots and the medium turning busy (R14). -/

namespace Sys2Proof.Machine

/-! ## Events -/

/-- An event of a calm station whose meaning leaves no request is its meaning. -/
theorem State.takeEvent_calm {s : State} (f : State → State) (h : s.calm) (k : (f s.begun).agenda = []) :
    s.takeEvent f = f s.begun := State.takeEvent_quiet f h.1 k

/-- R14: a backoff slot with the medium idle. -/
theorem State.countSlot_counts {s : State} {n : Nat} (ha : s.link.access = .backoff) (hm : s.link.mediumIdle = true)
    (hn : s.link.backoff = n + 2) : s.countSlot = { s with link := { s.link with backoff := n + 1 } } := by
  simp [State.countSlot, ha, hm, hn]

theorem State.countSlot_sends {s : State} (ha : s.link.access = .backoff) (hm : s.link.mediumIdle = true)
    (hn : s.link.backoff ≤ 1) : s.countSlot = { s with link := s.link.send } := by
  simp [State.countSlot, ha, hm, hn]

theorem State.countSlot_idle {s : State} (h : s.link.access ≠ .backoff ∨ s.link.mediumIdle = false) : s.countSlot = s := by
  rcases h with h | h <;> simp [State.countSlot, h]

theorem State.mediumBusy_backoff {s : State} (h : s.link.access = .backoff) :
    s.mediumBusy = { s with link := { s.link with mediumIdle := false, access := .awaitGap, backoff := 0 } } := by
  simp [State.mediumBusy, h]

theorem State.mediumBusy_sending {s : State} (h : s.link.access = .sending) : s.mediumBusy = s := by
  simp [State.mediumBusy, h]

theorem State.mediumBusy_waiting {s : State} (h : s.link.access = .idle ∨ s.link.access = .awaitGap) :
    s.mediumBusy = { s with link := { s.link with mediumIdle := false } } := by
  rcases h with h | h <;> simp [State.mediumBusy, h]

theorem exec_backoffSlot {s : State} (h : s.calm) : exec .backoffSlot s = .next s.begun.countSlot := by
  have k : s.begun.countSlot.agenda = [] := by
    unfold State.countSlot; repeat' split
    all_goals exact h.2
  exact congrArg _ (s.takeEvent_calm _ h k)

theorem exec_defer {s : State} (h : s.calm) : exec .defer s = .next s.begun.mediumBusy := by
  have k : s.begun.mediumBusy.agenda = [] := by
    unfold State.mediumBusy; repeat' split
    all_goals exact h.2
  exact congrArg _ (s.takeEvent_calm _ h k)

/-- Settles O23: one case of `countSlot` or `mediumBusy` for each clause. -/
theorem backoffCountsAndDefers : Obligations.BackoffCountsAndDefers := by
  refine ⟨fun s h => ⟨fun n ha hm hn => ?_, fun ha hm hn => ?_, fun hi => ?_⟩,
    fun s h => ⟨fun ha => ?_, fun ha => ?_, fun ha => ?_⟩⟩
  · rw [exec_backoffSlot h, s.begun.countSlot_counts ha hm hn]; rfl
  · rw [exec_backoffSlot h, s.begun.countSlot_sends ha hm hn]; rfl
  · rw [exec_backoffSlot h, s.begun.countSlot_idle hi]
  · rw [exec_defer h, s.begun.mediumBusy_backoff ha]; rfl
  · rw [exec_defer h, s.begun.mediumBusy_sending ha]
  · rw [exec_defer h, s.begun.mediumBusy_waiting ha]; rfl

end Sys2Proof.Machine
end

section
/-! PROOFS. Events of the link: the quiet gap (R14) and the two timers (R6, R18). -/

namespace Sys2Proof.Machine

/-- R14: what a backoff begun on a link does to it: the head of its queue waits for its class delay and a draw. -/
def Link.backedOff (l : Link) (head : QFrame) (draw : Nat) : Link :=
  if draw + 2 * head.notice.cls = 0 then l.send
  else { l with access := .backoff, backoff := draw + 2 * head.notice.cls }

theorem State.enterBackoff_cons {s : State} {head : QFrame} {rest : List QFrame} (h : s.link.queue = head :: rest) :
    s.enterBackoff = { s with free := s.free + 1
                              link := s.link.backedOff head (Config.backoffDraw s.free % s.link.window) } := by
  unfold State.enterBackoff Link.backedOff
  simp only [h, classDelay]
  cases hd : Config.backoffDraw s.free % s.link.window + 2 * head.notice.cls <;> simp [State.useFree]

theorem State.mediumQuiet_sending {s : State} (h : s.link.access = .sending) : s.mediumQuiet = s := by
  simp [State.mediumQuiet, h]

theorem State.mediumQuiet_kicks {s : State} (h : s.link.access ≠ .sending) :
    s.mediumQuiet = State.kickAccess { s with link := { s.link with mediumIdle := true, deaf := false } } := by
  simp [State.mediumQuiet, h]

theorem State.kickAccess_enters {s : State} {head : QFrame} {rest : List QFrame} (hr : s.station = .run)
    (ha : s.link.access = .idle ∨ s.link.access = .awaitGap) (hq : s.link.queue = head :: rest)
    (hm : s.link.mediumIdle = true) : s.kickAccess = s.enterBackoff := by
  rcases ha with ha | ha <;> simp [State.kickAccess, hr, ha, hq, hm]

theorem State.kickAccess_empty {s : State} (ha : s.link.access = .idle) (hq : s.link.queue = []) : s.kickAccess = s := by
  simp [State.kickAccess, ha, hq]

theorem State.kickAccess_notRun {s : State} (h : s.station ≠ .run) : s.kickAccess = s := by simp [State.kickAccess, h]

theorem State.kickAccess_busy {s : State} (h : s.link.access = .backoff ∨ s.link.access = .sending) : s.kickAccess = s := by
  rcases h with h | h <;> simp [State.kickAccess, h]

@[simp] theorem State.enterBackoff_agenda (s : State) : s.enterBackoff.agenda = s.agenda := by
  unfold State.enterBackoff; repeat' split
  all_goals rfl

@[simp] theorem State.kickAccess_agenda (s : State) : s.kickAccess.agenda = s.agenda := by
  unfold State.kickAccess; repeat' split
  all_goals simp

@[simp] theorem State.mediumQuiet_agenda (s : State) : s.mediumQuiet.agenda = s.agenda := by
  unfold State.mediumQuiet; split
  · rfl
  · exact State.kickAccess_agenda _

theorem exec_quietGap {s : State} (h : s.calm) : exec .quietGap s = .next s.begun.mediumQuiet :=
  congrArg _ (s.takeEvent_calm _ h (s.begun.mediumQuiet_agenda.trans h.2))

/-- R1, R14: the state as the quiet gap finds the medium idle. -/
def State.quieted (s : State) : State := { s with link := { s.link with mediumIdle := true, deaf := false } }

theorem exec_quietGap_kicks {s : State} (h : s.calm) (ha : s.link.access ≠ .sending) :
    exec .quietGap s = .next s.begun.quieted.kickAccess := by
  rw [exec_quietGap h, State.mediumQuiet_kicks (s := s.begun) ha]; rfl

/-- Settles O24: outside SENDING the quiet gap kicks the access of the link with the medium idle. -/
theorem quietGapStartsBackoff : Obligations.QuietGapStartsBackoff := by
  intro s h
  refine ⟨fun head rest hr ha hq => ⟨_, rfl, fun hw => Nat.mod_lt _ hw, ?_⟩, fun ha hq => ?_, fun hr ha => ?_, fun ha => ?_,
    fun ha => ?_⟩
  · have hs : s.link.access ≠ .sending := by rcases ha with ha | ha <;> simp [ha]
    rw [exec_quietGap_kicks h hs, State.kickAccess_enters (s := s.begun.quieted) hr ha hq rfl,
      State.enterBackoff_cons (s := s.begun.quieted) hq]
    rfl
  · rw [exec_quietGap_kicks h (by simp [ha]), State.kickAccess_empty (s := s.begun.quieted) ha hq]; rfl
  · rw [exec_quietGap_kicks h ha, State.kickAccess_notRun (s := s.begun.quieted) hr]; rfl
  · rw [exec_quietGap_kicks h (by simp [ha]), State.kickAccess_busy (s := s.begun.quieted) (.inl ha)]; rfl
  · rw [exec_quietGap h, State.mediumQuiet_sending (s := s.begun) ha]

/-! ## Timers -/

/-- R18: with the silence cause set, what else changes is the alarm unit's requests. -/
theorem State.setSilence_frame (s : State) :
    ∃ a, s.setSilence = { s with link := { s.link with silenceCause := true }, agenda := a } := by
  have same (h : s.link.silenceCause = true) : s.link = { s.link with silenceCause := true } := by
    conv_lhs => rw [show s.link = { s.link with silenceCause := s.link.silenceCause } from rfl, h]
  unfold State.setSilence
  split
  · rename_i h; exact ⟨s.agenda, by rw [← same h]⟩
  · simp only; split
    · exact ⟨s.agenda, rfl⟩
    · exact ⟨_, rfl⟩

theorem exec_duplicateTimerExpiry {s : State} {due : Nat} (h : s.calm) (hd : s.link.duplicateDue = some due) :
    exec .duplicateTimerExpiry s = .next (State.settle (State.ask
      { s.begun.reach due with link := { s.link with duplicateDue := none } } (.clear .duplicateStation 255))) := by
  simp only [exec, execDuplicateTimerExpiry, State.takeEvent_live _ h.1, hd]
  rfl

theorem exec_silenceTimerExpiry {s : State} {due : Nat} (h : s.calm) (hd : s.link.silenceDue = some due) :
    exec .silenceTimerExpiry s = .next (State.settle (State.setSilence
      { s.begun.reach due with link := { s.link with silenceDue := none } })) := by
  simp only [exec, execSilenceTimerExpiry, State.takeEvent_live _ h.1, hd]
  rfl

/-- Settles O27: what an expiry does to the parts in question is not touched by the requests settled after it. -/
theorem linkTimersExpire : Obligations.LinkTimersExpire := by
  intro s due h
  refine ⟨fun hd => ⟨_, exec_duplicateTimerExpiry h hd, ?_⟩, fun hd => ⟨_, exec_silenceTimerExpiry h hd, ?_⟩⟩
  · have still := State.settle_still (State.ask
      { s.begun.reach due with link := { s.link with duplicateDue := none } } (.clear .duplicateStation 255))
    exact ⟨congrArg Still.duplicateDue still, congrArg Still.now still, congrArg Still.silenceDue still,
      congrArg Still.picture still, congrArg Still.fields still, congrArg Still.nv still⟩
  · obtain ⟨a, ha⟩ := State.setSilence_frame { s.begun.reach due with link := { s.link with silenceDue := none } }
    have still := State.settle_still (State.setSilence
      { s.begun.reach due with link := { s.link with silenceDue := none } })
    rw [ha] at still ⊢
    exact ⟨congrArg Still.silenceDue still, congrArg Still.silenceCause still, congrArg Still.now still,
      congrArg Still.duplicateDue still, congrArg Still.picture still, congrArg Still.fields still, congrArg Still.nv still⟩

end Sys2Proof.Machine
end

section
/-! PROOFS. Frames and bursts: what a built frame reads as, and what a burst that carries no valid frame does (R1 to R5). -/

namespace Sys2Proof.Machine

/-! ## Fields -/

@[simp] theorem toNat_byte (n : Nat) : (byte n).toNat = n % 256 := by simp [byte]

@[simp] theorem at1_zero (b : Byte) (l : List Byte) : at1 (b :: l) 0 = b.toNat := rfl
@[simp] theorem at1_succ (b : Byte) (l : List Byte) (i : Nat) : at1 (b :: l) (i + 1) = at1 l i := rfl

/-- The bytes after a front are read at its length. -/
theorem at1_append (p l : List Byte) (i : Nat) : at1 (p ++ l) (p.length + i) = at1 l i := by
  simp [at1, List.getD_eq_getElem?_getD, List.getElem?_append_right]

theorem at2_append_pair (p l : List Byte) (a b : Byte) :
    at2 (p ++ a :: b :: l) p.length = a.toNat * 256 + b.toNat := by
  have h0 : at1 (p ++ a :: b :: l) p.length = a.toNat := at1_append p _ 0
  have h1 : at1 (p ++ a :: b :: l) (p.length + 1) = b.toNat := at1_append p _ 1
  rw [at2, h0, h1]

theorem be2_value {n : Nat} (h : n < 65536) : n / 256 % 256 * 256 + n % 256 = n := by omega

/-! ## Assembly (R3) -/

/-- R3: a burst that holds the sync pair, a header and as many bytes as its length byte asks for is a frame. -/
theorem assemble_frame (o k c0 c1 : Byte) (payload extra : List Byte) (h : payload.length ≤ 120) :
    assemble (0x7E :: 0xC3 :: o :: k :: byte payload.length :: (payload ++ c0 :: c1 :: extra)) =
      .frame o.toNat k.toNat payload
        (decide ((crc16 (o :: k :: byte payload.length :: payload)).toNat = c0.toNat * 256 + c1.toNat)) := by
  have hn : (byte payload.length).toNat = payload.length := by rw [toNat_byte]; omega
  simp only [assemble, hn, at2_append_pair, List.take_left]
  rw [if_pos (by decide), if_neg (by omega), if_neg (by simp)]

/-! ## Notices (R4, Formats) -/

theorem Notice.kind_bounds (n : Notice) : 1 ≤ n.kind ∧ n.kind ≤ 7 := by
  cases n <;> simp [Notice.kind]

/-- R4: the length rule of each kind. -/
theorem lengthFits_iff (kind : Nat) (p : List Byte) : lengthFits kind p = true ↔
    ((kind = 1 ∨ kind = 2) ∧ p.length = 10) ∨ (kind = 3 ∧ p.length = 5) ∨ (kind = 4 ∧ p.length = 6) ∨
      (kind = 5 ∧ p.length = 5) ∨ (kind = 6 ∧ p.length = 2) ∨
      (kind = 7 ∧ ∃ n ≤ 4, at1 p 2 = n ∧ p.length = 15 + 12 * n) := by
  unfold lengthFits
  split
  case h_8 => simp; grind
  all_goals simp

/-- Formats: a notice whose fields fit has a payload of its kind's length. -/
theorem Notice.lengthFits_payload {n : Notice} (h : n.fits = true) : lengthFits n.kind n.payload = true := by
  cases n with
  | summary p =>
    rw [Notice.fits, decide_eq_true_eq] at h
    simp [lengthFits, Notice.kind, Notice.payload, h.1, h.2]
  | _ => rfl

theorem Notice.payload_length {n : Notice} (h : n.fits = true) : n.payload.length ≤ 120 := by
  have k := (lengthFits_iff _ _).1 (Notice.lengthFits_payload h)
  omega

@[simp] theorem bit_mod_two (b : Bool) : (bit b % 2 == 1) = b := by cases b <;> decide

/-- Formats: the second of two flags that share a byte. -/
theorem second_flag (a b : Bool) : ((bit a + 2 * bit b) % 256 / 2 % 2 == 1) = b := by cases a <;> cases b <;> decide

/-- Formats: the role and the two flags that an air notice packs in one byte. -/
theorem air_flags {r : Nat} (h : r < 4) (a b : Bool) :
    (r + 4 * bit a + 8 * bit b) % 256 % 4 = r ∧ ((r + 4 * bit a + 8 * bit b) % 256 / 4 % 2 == 1) = a ∧
      ((r + 4 * bit a + 8 * bit b) % 256 / 8 % 2 == 1) = b := by
  cases a <;> cases b <;> simp [bit] <;> omega

theorem serial_value (n : Serial) : BitVec.ofNat 16 (n.toNat / 256 % 256 * 256 + n.toNat % 256) = n := by
  rw [be2_value n.isLt]; simp

/-- Formats: the payload of a notice whose fields fit reads as the notice. -/
theorem Notice.parse_payload {n : Notice} (h : n.fits = true) : Notice.parse n.kind n.payload = some n := by
  cases n with
  | heat ch rank fuel st act cmd held starved =>
    simp only [Notice.fits, decide_eq_true_eq] at h
    obtain ⟨hch, hr, hf, hst, ha, hc⟩ := h
    simp [Notice.parse, Notice.kind, Notice.payload, at3, at2, be3, second_flag]
    omega
  | air ch role recup flush st q flow cr =>
    simp only [Notice.fits, decide_eq_true_eq] at h
    obtain ⟨hch, hr, hst, hq, hfl, hcr⟩ := h
    obtain ⟨h1, h2, h3⟩ := air_flags hr recup flush
    simp [Notice.parse, Notice.kind, Notice.payload, at3, at2, be3, be2, h1, h2, h3]
    omega
  | order e t =>
    simp only [Notice.fits, decide_eq_true_eq] at h
    simp [Notice.parse, Notice.kind, Notice.payload, at3, at2, be3, be2, serial_value]
    omega
  | alarm code ch cls ev occ =>
    simp only [Notice.fits, decide_eq_true_eq] at h
    simp [Notice.parse, Notice.kind, Notice.payload, at2, be2, serial_value]
    omega
  | ack o code ch occ =>
    simp only [Notice.fits, decide_eq_true_eq] at h
    simp [Notice.parse, Notice.kind, Notice.payload, at2, be2, serial_value]
    omega
  | mark m => simp [Notice.parse, Notice.kind, Notice.payload, at2, be2, serial_value]
  | summary p => rfl

/-- R2, R3: a built frame assembles with its check holding. -/
theorem assemble_frameBytes {origin : Nat} {n : Notice} (ho : origin ≤ 31) (h : n.fits = true) :
    assemble (frameBytes origin n) = .frame origin n.kind n.payload true := by
  have hk : (byte n.kind).toNat = n.kind := by have := n.kind_bounds; rw [toNat_byte]; omega
  have ho' : (byte origin).toNat = origin := by rw [toNat_byte]; omega
  have hc := be2_value (crc16 (frameBody origin n)).isLt
  have key := assemble_frame (byte origin) (byte n.kind) (byte ((crc16 (frameBody origin n)).toNat / 256))
    (byte (crc16 (frameBody origin n)).toNat) n.payload [] (Notice.payload_length h)
  rw [ho', hk, toNat_byte, toNat_byte, hc] at key
  simpa [frameBytes, frameBody, be2] using key

/-- Settles O15. -/
theorem framesCarryNotices : Obligations.FramesCarryNotices := fun _ _ h _ ho =>
  ⟨assemble_frameBytes ho h, Notice.lengthFits_payload h, Notice.parse_payload h⟩

/-! ## Bursts that carry no valid frame (R1, R3 to R5) -/

@[simp] theorem State.mediumBusy_agenda (s : State) : s.mediumBusy.agenda = s.agenda := by
  unfold State.mediumBusy; split <;> rfl

@[simp] theorem State.mediumBusy_deaf (s : State) : s.mediumBusy.link.deaf = s.link.deaf := by
  unfold State.mediumBusy; split <;> rfl

@[simp] theorem State.countLink_agenda (s : State) (f : LinkCounters → LinkCounters) :
    (s.countLink f).agenda = s.agenda := rfl

theorem State.hearBurst_deaf {s : State} (h : s.link.deaf = true) (burst : List Byte) : s.hearBurst burst = s := by
  simp [State.hearBurst, h]

section
variable {s : State} {burst : List Byte} (h : s.link.deaf = false)
include h

theorem State.hearBurst_ignored (ha : assemble burst = .ignored) : s.hearBurst burst = s.mediumBusy := by
  simp [State.hearBurst, h, ha]

theorem State.hearBurst_badLength (ha : assemble burst = .badLength) :
    s.hearBurst burst = s.mediumBusy.countLink fun c => { c with badLength := up16 c.badLength } := by
  simp [State.hearBurst, h, ha]

theorem State.hearBurst_short (ha : assemble burst = .short) :
    s.hearBurst burst = s.mediumBusy.countLink fun c => { c with badCheck := up16 c.badCheck } := by
  simp [State.hearBurst, h, ha]

theorem State.hearBurst_frame {origin kind : Nat} {payload : List Byte} {ok : Bool}
    (ha : assemble burst = .frame origin kind payload ok) :
    s.hearBurst burst = s.mediumBusy.checkFrame origin kind payload ok := by
  simp [State.hearBurst, h, ha]

end

/-- R4: the counter of the first check that a frame fails. -/
def LinkCounters.fail (origin kind : Nat) (ok : Bool) (c : LinkCounters) : LinkCounters :=
  if ok = false then { c with badCheck := up16 c.badCheck }
  else if origin = 0 ∨ 31 < origin then { c with badOrigin := up16 c.badOrigin }
  else if kind = 0 ∨ 7 < kind then { c with unknownKind := up16 c.unknownKind }
  else { c with lengthMismatch := up16 c.lengthMismatch }

theorem State.checkFrame_fails {s : State} {origin kind : Nat} {payload : List Byte} {ok : Bool}
    (h : ok = false ∨ origin = 0 ∨ 31 < origin ∨ kind = 0 ∨ 7 < kind ∨ lengthFits kind payload = false) :
    s.checkFrame origin kind payload ok = s.countLink (LinkCounters.fail origin kind ok) := by
  have hf : LinkCounters.fail origin kind ok = fun c => LinkCounters.fail origin kind ok c := rfl
  unfold State.checkFrame
  rw [hf]
  unfold LinkCounters.fail
  by_cases h1 : ok = false
  · simp [h1]
  by_cases h2 : origin = 0 ∨ 31 < origin
  · simp [h1, h2]
  by_cases h3 : kind = 0 ∨ 7 < kind
  · simp [h1, h2, h3]
  have h4 : lengthFits kind payload = false := by tauto
  simp [h1, h2, h3, h4]

/-- A burst whose meaning leaves no request is its meaning. -/
theorem exec_frameReceived_calm {s : State} {burst : List Byte} (h : s.calm) (k : (s.begun.hearBurst burst).agenda = []) :
    exec (.frameReceived burst) s = .next (s.begun.hearBurst burst) := congrArg _ (s.takeEvent_calm _ h k)

/-- Settles O20: a burst without a valid frame asks nothing of the alarm unit, so it is what `hearBurst` says of it. -/
theorem badFramesAreCounted : Obligations.BadFramesAreCounted := by
  refine ⟨fun s burst h hd => ?_, fun s burst h hd => ?_, fun o k c0 c1 payload extra hp => ?_, lengthFits_iff⟩
  · have hd' : s.begun.link.deaf = false := hd
    have received {t : State} (hear : s.begun.hearBurst burst = t) (k : t.agenda = s.agenda) :
        exec (.frameReceived burst) s = .next t := by
      rw [exec_frameReceived_calm h (by rw [hear, k]; exact h.2), hear]
    refine ⟨rfl, fun ha => ?_, fun ha => ?_, fun ha => ?_, fun origin kind payload ok ha hbad => ?_⟩
    · exact received (State.hearBurst_ignored hd' ha) (by simp [State.begun])
    · exact received (State.hearBurst_badLength hd' ha) (by simp [State.begun])
    · exact received (State.hearBurst_short hd' ha) (by simp [State.begun])
    · exact received ((State.hearBurst_frame hd' ha).trans (State.checkFrame_fails hbad)) (by simp [State.begun])
  · have hear := s.begun.hearBurst_deaf hd burst
    have received := exec_frameReceived_calm h (by rw [hear]; exact h.2)
    rw [hear] at received
    exact ⟨received, received⟩
  · exact assemble_frame o k c0 c1 payload extra hp

end Sys2Proof.Machine
end

section
/-! PROOFS. The transmit queue: what offers and commitments do to it (R9 to R11, R15). -/

namespace Sys2Proof.Machine

/-! ## The order of the queue (R9) -/

/-- R9: what a frame's place in the transmit queue depends on. -/
def QFrame.key (f : QFrame) : Nat × Nat := (f.notice.cls, f.entry)

/-- R9: the order of the places. -/
def keyBefore (a b : Nat × Nat) : Prop := a.1 < b.1 ∨ (a.1 = b.1 ∧ a.2 < b.2)

/-- R9: the order of the queue is one of its frames' classes and entry numbers alone. -/
theorem Link.ordered_iff_keys (l : Link) : l.ordered ↔
    (l.queue.map QFrame.key).Pairwise keyBefore ∧ ((l.queue.map QFrame.key).map Prod.snd).Nodup ∧
      ∀ k ∈ l.queue.map QFrame.key, k.2 < l.entryCount := by
  simp only [Link.ordered, List.pairwise_map, List.map_map, List.mem_map, forall_exists_index, and_imp,
    forall_apply_eq_imp_iff₂]
  rfl

theorem Link.legal_iff (l : Link) :
    l.legal = true ↔ l.queue.length ≤ 12 ∧ l.window ∈ [4, 8, 16, 32, 64] := by
  rw [Link.legal, Bool.and_eq_true, decide_eq_true_eq, List.contains_iff_mem]
  rfl

/-- Between two states of the link the transmit queue stays legal and in order, entry numbers are given out in their order, and
no frame has come back: a frame in the later queue stood in the earlier one under its number or has a number given out since. -/
structure Link.Carries (l m : Link) : Prop where
  legal : l.legal = true → m.legal = true
  ordered : l.ordered → m.ordered
  count : l.entryCount ≤ m.entryCount
  entries : ∀ q ∈ m.queue, (∃ g ∈ l.queue, g.entry = q.entry) ∨ l.entryCount ≤ q.entry

namespace Link.Carries

theorem refl (l : Link) : l.Carries l := ⟨id, id, le_refl _, fun q hq => .inl ⟨q, hq, rfl⟩⟩

theorem trans {l m n : Link} (h : l.Carries m) (k : m.Carries n) : l.Carries n where
  legal hl := k.legal (h.legal hl)
  ordered hl := k.ordered (h.ordered hl)
  count := le_trans h.count k.count
  entries q hq := by
    rcases k.entries q hq with ⟨g, hg, e⟩ | hq
    · exact e ▸ h.entries g hg
    · exact .inr (le_trans h.count hq)

/-- A queue whose frames keep their classes and entry numbers is carried on. -/
theorem of_keys {l m : Link} (hq : m.queue.map QFrame.key = l.queue.map QFrame.key) (hw : m.window = l.window)
    (hc : m.entryCount = l.entryCount) : l.Carries m where
  legal h := by
    have hlen : m.queue.length = l.queue.length := by simpa using congrArg List.length hq
    rw [Link.legal_iff] at h ⊢
    rwa [hlen, hw]
  ordered h := by
    rw [Link.ordered_iff_keys] at h ⊢
    rwa [hq, hc]
  count := hc.ge
  entries q hm := by
    have : q.key ∈ l.queue.map QFrame.key := hq ▸ List.mem_map_of_mem hm
    obtain ⟨g, hg, e⟩ := List.mem_map.1 this
    exact .inl ⟨g, hg, congrArg Prod.snd e⟩

/-- Frames that leave the queue leave the rest in order; the window may be another legal one. -/
theorem of_sublist {l m : Link} (hq : m.queue.Sublist l.queue)
    (hw : l.window ∈ [4, 8, 16, 32, 64] → m.window ∈ [4, 8, 16, 32, 64]) (hc : m.entryCount = l.entryCount) :
    l.Carries m where
  legal h := by
    rw [Link.legal_iff] at h ⊢
    exact ⟨hq.length_le.trans h.1, hw h.2⟩
  ordered h := ⟨h.1.sublist hq, h.2.1.sublist (hq.map _), fun f hf => hc ▸ h.2.2 f (hq.subset hf)⟩
  count := hc.ge
  entries q hm := .inl ⟨q, hq.subset hm, rfl⟩

end Link.Carries

/-! ## Offers (R9 to R11) -/

theorem coalesceInto_keys (n : Notice) (q : List QFrame) : (coalesceInto n q).map QFrame.key = q.map QFrame.key := by
  induction q with
  | nil => rfl
  | cons f q ih =>
    unfold coalesceInto
    split
    · rename_i h
      have : n.cls = f.notice.cls := by
        unfold Notice.coalescesWith at h
        cases n <;> cases hf : f.notice <;> simp [hf, Notice.cls] at h ⊢
      simp [QFrame.key, this]
    · simp [ih]

theorem coalesceInto_append {n : Notice} {front back : List QFrame} {f : QFrame}
    (hfront : ∀ g ∈ front, n.coalescesWith g = false) (hf : n.coalescesWith f = true) :
    coalesceInto n (front ++ f :: back) = front ++ { f with notice := n } :: back := by
  induction front with
  | nil => simp [coalesceInto, hf]
  | cons g front ih =>
    have hg := hfront g (by simp)
    simp [coalesceInto, hg, ih fun x hx => hfront x (by simp [hx])]

theorem commitHead_keys (q : List QFrame) : (commitHead q).map QFrame.key = q.map QFrame.key := by
  cases q <;> rfl

theorem insertFrame_perm (f : QFrame) (q : List QFrame) : (insertFrame f q).Perm (f :: q) := by
  induction q with
  | nil => rfl
  | cons g q ih =>
    unfold insertFrame
    split
    · exact (ih.cons g).trans (List.Perm.swap f g q)
    · rfl

theorem mem_insertFrame {f g : QFrame} {q : List QFrame} : g ∈ insertFrame f q ↔ g = f ∨ g ∈ q :=
  (insertFrame_perm f q).mem_iff.trans List.mem_cons

/-- R9: a frame whose number is the greatest takes its place behind those of its class. -/
theorem insertFrame_pairwise {f : QFrame} {q : List QFrame} (h : q.Pairwise QFrame.before)
    (hf : ∀ g ∈ q, g.entry < f.entry) : (insertFrame f q).Pairwise QFrame.before := by
  induction q with
  | nil => simp [insertFrame]
  | cons g q ih =>
    obtain ⟨hg, hq⟩ := List.pairwise_cons.1 h
    have hgf := hf g (by simp)
    unfold insertFrame
    split
    · rename_i hc
      refine List.pairwise_cons.2 ⟨fun x hx => ?_, ih hq fun x hx => hf x (by simp [hx])⟩
      rcases mem_insertFrame.1 hx with rfl | hx
      · exact (Nat.lt_or_eq_of_le hc).imp id fun e => ⟨e, hgf⟩
      · exact hg x hx
    · rename_i hc
      refine List.pairwise_cons.2 ⟨fun x hx => .inl ?_, h⟩
      rcases List.mem_cons.1 hx with rfl | hx
      · omega
      · rcases hg x hx with h | ⟨h, _⟩ <;> omega

theorem Link.insert_queue (l : Link) (n : Notice) :
    (l.insert n).queue = insertFrame { notice := n, entry := l.entryCount } l.queue := rfl

/-- R9: a new frame keeps the order. -/
theorem Link.insert_ordered {l : Link} (n : Notice) (h : l.ordered) : (l.insert n).ordered := by
  obtain ⟨hp, hd, hc⟩ := h
  refine ⟨insertFrame_pairwise hp hc, ?_, fun f hf => ?_⟩
  · have : ((l.insert n).queue.map (·.entry)).Perm (l.entryCount :: l.queue.map (·.entry)) :=
      (insertFrame_perm _ _).map _
    refine this.nodup_iff.2 (List.nodup_cons.2 ⟨fun hm => ?_, hd⟩)
    obtain ⟨f, hf, e⟩ := List.mem_map.1 hm
    exact absurd (hc f hf) (by omega)
  · rw [Link.insert_queue, mem_insertFrame] at hf
    show f.entry < l.entryCount + 1
    rcases hf with rfl | hf
    · exact Nat.lt_succ_self _
    · exact Nat.lt_succ_of_lt (hc f hf)

theorem Link.mem_insert {l : Link} {n : Notice} {g : QFrame} :
    g ∈ (l.insert n).queue ↔ g ∈ l.queue ∨ g = { notice := n, entry := l.entryCount } := by
  rw [Link.insert_queue, mem_insertFrame, or_comm]

/-- R9: a new frame in a queue with room is carried on. -/
theorem Link.Carries.insert {l m : Link} (c : l.Carries m) (n : Notice) (h : l.legal = true → m.queue.length < 12) :
    l.Carries (m.insert n) where
  legal hl := by
    have hr := h hl
    have hm := c.legal hl
    rw [Link.legal_iff] at hm ⊢
    have : (m.insert n).queue.length = m.queue.length + 1 := (insertFrame_perm _ _).length_eq
    exact ⟨by omega, hm.2⟩
  ordered hl := Link.insert_ordered n (c.ordered hl)
  count := le_trans c.count (Nat.le_succ _)
  entries q hq := by
    rcases Link.mem_insert.1 hq with hq | rfl
    · exact c.entries q hq
    · exact .inr c.count

/-- R11: the evicted frame stands in the queue, is uncommitted and of a lower class. -/
theorem evictee_spec {cls : Nat} {q : List QFrame} {f : QFrame} (h : evictee cls q = some f) :
    f ∈ q ∧ f.committed = false ∧ cls < f.notice.cls := by
  unfold evictee at h
  split at h
  · cases h
  · rename_i g hg
    split at h
    · cases h
      rename_i hc
      exact ⟨by simpa using List.mem_of_find?_eq_some hg, by simpa using List.find?_some hg, hc⟩
    · cases h

/-- R11: no frame is evicted where each is committed or of no lower class. -/
theorem evictee_none {cls : Nat} {q : List QFrame} (h : ∀ f ∈ q, f.committed = true ∨ f.notice.cls ≤ cls) :
    evictee cls q = none := by
  cases he : evictee cls q with
  | none => rfl
  | some f =>
    obtain ⟨hm, hu, hc⟩ := evictee_spec he
    rcases h f hm with hf | hf
    · rw [hu] at hf; cases hf
    · omega

theorem QFrame.before_asymm {f g : QFrame} (h : f.before g) (k : g.before f) : False := by
  unfold QFrame.before at h k
  omega

/-- R11: in a queue in order the last uncommitted frame is the one that all others stand before. -/
theorem evictee_last {cls : Nat} {q : List QFrame} {f : QFrame} (hq : q.Pairwise QFrame.before) (hf : f ∈ q)
    (hu : f.committed = false) (hc : cls < f.notice.cls) (hl : ∀ g ∈ q, g.committed = false → g = f ∨ g.before f) :
    evictee cls q = some f := by
  have hfind : q.reverse.find? (fun g => !g.committed) = some f := by
    cases hg : q.reverse.find? (fun g => !g.committed) with
    | none =>
      have := List.find?_eq_none.1 hg f (by simpa using hf)
      simp [hu] at this
    | some g =>
      obtain ⟨hgu, front, back, hsplit, hfirst⟩ := List.find?_eq_some_iff_append.1 hg
      have hrev : q = back.reverse ++ g :: front.reverse := by
        have := congrArg List.reverse hsplit
        simpa using this
      have hgq : g ∈ q := by rw [hrev]; simp
      rcases hl g hgq (by simpa using hgu) with rfl | hb
      · rfl
      · exfalso
        rw [hrev] at hf hq
        rw [List.pairwise_append] at hq
        simp only [List.mem_append, List.mem_reverse, List.mem_cons] at hf
        rcases hf with hf | rfl | hf
        · exact QFrame.before_asymm hb (hq.2.2 f (by simpa using hf) g (by simp))
        · exact QFrame.before_asymm hb hb
        · have := hfirst f hf
          simp [hu] at this
  simp [evictee, hfind, hc]

/-- R10: an offer that coalesces. -/
theorem Link.enter_coalesces {l : Link} {n : Notice} {f : QFrame} (hf : f ∈ l.queue) (h : n.coalescesWith f = true) :
    l.enter n = ({ l with queue := coalesceInto n l.queue,
                          counters := { l.counters with coalesced := up16 l.counters.coalesced } }, true) := by
  have : l.queue.any n.coalescesWith = true := List.any_eq_true.2 ⟨f, hf, h⟩
  simp [Link.enter, this]

section
variable {l : Link} {n : Notice} (hn : ∀ f ∈ l.queue, n.coalescesWith f = false)
include hn

theorem Link.any_coalesces_eq_false : l.queue.any n.coalescesWith = false :=
  List.any_eq_false.2 fun f hf => by simp [hn f hf]

/-- R10: an offer that finds room. -/
theorem Link.enter_room (h : l.queue.length < 12) : l.enter n = (l.insert n, true) := by
  simp [Link.enter, Link.any_coalesces_eq_false hn, Config.queueSize, h]

/-- R11: an offer that evicts. -/
theorem Link.enter_evicts {f : QFrame} (h : 12 ≤ l.queue.length) (he : evictee n.cls l.queue = some f) :
    l.enter n = (Link.insert { l with queue := l.queue.filter (·.entry != f.entry),
                                      counters := { l.counters with evicted := up16 l.counters.evicted } } n, true) := by
  simp [Link.enter, Link.any_coalesces_eq_false hn, Config.queueSize, Nat.not_lt.2 h, he]

/-- R11: an offer that is dropped. -/
theorem Link.enter_drops (h : 12 ≤ l.queue.length) (he : evictee n.cls l.queue = none) :
    l.enter n = ({ l with counters := l.counters.drop n }, false) := by
  simp [Link.enter, Link.any_coalesces_eq_false hn, Config.queueSize, Nat.not_lt.2 h, he]

end

/-- R9: in a queue whose entry numbers are distinct a frame leaves alone. -/
theorem mem_unqueued {q : List QFrame} {f g : QFrame} (hd : (q.map (·.entry)).Nodup) (hf : f ∈ q) :
    g ∈ q.filter (·.entry != f.entry) ↔ g ∈ q ∧ g ≠ f := by
  simp only [List.mem_filter, bne_iff_ne, ne_eq, and_congr_right_iff, not_iff_not]
  exact fun hg => ⟨fun e => List.inj_on_of_nodup_map hd hg hf e, fun e => e ▸ rfl⟩

theorem length_unqueued {q : List QFrame} {f : QFrame} (hf : f ∈ q) :
    (q.filter (·.entry != f.entry)).length < q.length := by
  refine List.length_filter_lt_length_iff_exists.2 ⟨f, hf, ?_⟩
  simp

/-- R9 to R11: an offer carries the queue on. -/
theorem Link.enter_carries (l : Link) (n : Notice) : l.Carries (l.enter n).1 := by
  by_cases hc : ∃ f ∈ l.queue, n.coalescesWith f = true
  · obtain ⟨f, hf, h⟩ := hc
    rw [Link.enter_coalesces hf h]
    exact .of_keys (coalesceInto_keys n _) rfl rfl
  have hn : ∀ f ∈ l.queue, n.coalescesWith f = false := by simpa using hc
  rcases Nat.lt_or_ge l.queue.length 12 with hr | hr
  · rw [Link.enter_room hn hr]
    exact (Link.Carries.refl l).insert n fun _ => hr
  cases he : evictee n.cls l.queue with
  | none =>
    rw [Link.enter_drops hn hr he]
    exact .of_keys rfl rfl rfl
  | some f =>
    rw [Link.enter_evicts hn hr he]
    have hlen := length_unqueued (evictee_spec he).1
    have left : l.Carries { l with queue := l.queue.filter (·.entry != f.entry),
                                   counters := { l.counters with evicted := up16 l.counters.evicted } } :=
      .of_sublist List.filter_sublist id rfl
    refine left.insert n fun hl => ?_
    exact lt_of_lt_of_le hlen ((Link.legal_iff l).1 hl).1

/-! ## Medium access (R14, R15) -/

theorem Link.send_carries (l : Link) : l.Carries l.send := .of_keys (commitHead_keys _) rfl rfl

end Sys2Proof.Machine
end

section
/-! PROOFS. The slots offer heat and air notices alone: what their operations do to the link and the alarm table. -/

namespace Sys2Proof.Machine

/-! ## Offers on the state -/

theorem State.enterBackoff_carries (s : State) : s.link.Carries s.enterBackoff.link := by
  unfold State.enterBackoff; repeat' split
  · exact .of_keys rfl rfl rfl
  · exact s.link.send_carries
  · exact .of_keys rfl rfl rfl

theorem State.kickAccess_carries (s : State) : s.link.Carries s.kickAccess.link := by
  unfold State.kickAccess; repeat' split
  · exact .refl _
  · exact s.enterBackoff_carries
  · exact .of_keys rfl rfl rfl
  · exact s.enterBackoff_carries
  · exact .refl _
  · exact .refl _
  · exact .refl _

/-- R8: an offer carries the queue on. -/
theorem State.offer_carries (s : State) (n : Notice) : s.link.Carries (s.offer n).link := by
  unfold State.offer
  simp only
  split
  · rw [State.handBack_link]; exact .of_keys rfl rfl rfl
  · have entered := s.link.enter_carries n
    repeat' split
    · exact entered
    · exact entered.trans (State.enterBackoff_carries { s with link := (s.link.enter n).1 })
    · exact entered.trans (State.kickAccess_carries { s with link := (s.link.enter n).1 })
    · rw [State.handBack_link]; exact entered

/-- Between two states the transmit queue is carried on and the alarm unit stands as it is: what a slot's work does, whose
offers are heat and air notices. -/
structure Voiced (s t : State) : Prop where
  carries : s.link.Carries t.link
  alarms : t.alarms = s.alarms

theorem Voiced.refl (s : State) : Voiced s s := ⟨.refl _, rfl⟩

theorem Voiced.trans {s t u : State} (h : Voiced s t) (k : Voiced t u) : Voiced s u :=
  ⟨h.carries.trans k.carries, k.alarms.trans h.alarms⟩

/-- Work that leaves the link and the alarm unit alone. -/
theorem voiced_congr {r s t : State} (h : t.wire = s.wire) : Voiced r t ↔ Voiced r s := by
  have hl := link_of_wire h
  have ha := alarms_of_wire h
  exact ⟨fun k => ⟨hl ▸ k.carries, ha ▸ k.alarms⟩, fun k => ⟨hl ▸ k.carries, ha ▸ k.alarms⟩⟩

/-! ## What offers nothing -/

theorem State.kickStream_wire (s : State) : s.kickStream.wire = s.wire := by
  unfold State.kickStream; repeat' split
  all_goals rfl

theorem State.writeLatch_wire (s : State) (o : Fin 8) (n : Nat) : (s.writeLatch o n).wire = s.wire := by
  unfold State.writeLatch; split
  · rfl
  · exact State.kickStream_wire _

theorem State.takeCount_wire (s : State) (o : Fin 8) (n : Nat) : (s.takeCount o n).wire = s.wire := by
  have uncarry : (s.uncarry o).wire = s.wire := by unfold State.uncarry; split <;> rfl
  unfold State.takeCount; split
  · rfl
  · exact (State.writeLatch_wire _ _ _).trans uncarry

section
variable {r s : State}

@[simp] theorem voiced_setSlot (i : Fin 4) (u : SlotUnit) : Voiced r (s.setSlot i u) ↔ Voiced r s := voiced_congr rfl
@[simp] theorem voiced_ask (q : AlarmRequest) : Voiced r (s.ask q) ↔ Voiced r s := voiced_congr rfl
@[simp] theorem voiced_reach (n : Nat) : Voiced r (s.reach n) ↔ Voiced r s := voiced_congr rfl
@[simp] theorem voiced_markLeft (i : Fin 4) : Voiced r (s.markLeft i) ↔ Voiced r s := voiced_congr rfl
@[simp] theorem voiced_postMass (i : Fin 4) (n : Nat) : Voiced r (s.postMass i n) ↔ Voiced r s := voiced_congr rfl
@[simp] theorem voiced_postHeat (i : Fin 4) (n : Nat) : Voiced r (s.postHeat i n) ↔ Voiced r s := voiced_congr rfl
@[simp] theorem voiced_postDeviation (i : Fin 4) : Voiced r (s.postDeviation i) ↔ Voiced r s := voiced_congr rfl
@[simp] theorem voiced_postLost (i : Fin 4) : Voiced r (s.postLost i) ↔ Voiced r s := voiced_congr rfl
@[simp] theorem voiced_postJam (i : Fin 4) : Voiced r (s.postJam i) ↔ Voiced r s := voiced_congr rfl
@[simp] theorem voiced_postFlush (i : Fin 4) : Voiced r (s.postFlush i) ↔ Voiced r s := voiced_congr rfl
@[simp] theorem voiced_postDivertedFull (i : Fin 4) : Voiced r (s.postDivertedFull i) ↔ Voiced r s := voiced_congr rfl
@[simp] theorem voiced_postDivertedWeight (i : Fin 4) : Voiced r (s.postDivertedWeight i) ↔ Voiced r s := voiced_congr rfl

@[simp] theorem voiced_markNoticed (i : Fin 4) : Voiced r (s.markNoticed i) ↔ Voiced r s :=
  voiced_congr (by unfold State.markNoticed; split <;> rfl)

@[simp] theorem voiced_handTarget (o : Fin 8) (x f : Nat) : Voiced r (s.handTarget o x f) ↔ Voiced r s :=
  voiced_congr (State.takeCount_wire _ _ _)

@[simp] theorem voiced_handFallback (o : Fin 8) : Voiced r (s.handFallback o) ↔ Voiced r s :=
  voiced_congr (State.takeCount_wire _ _ _)

@[simp] theorem voiced_clearStarved (i : Fin 4) : Voiced r (s.clearStarved i) ↔ Voiced r s :=
  voiced_congr (by unfold State.clearStarved; split <;> rfl)

/-! ## The continuous fuel slot -/

/-- R87: a slot's notice, offered. -/
@[simp] theorem State.publish_voiced (h : Voiced r s) (i : Fin 4) : Voiced r (s.publish i) := by
  refine h.trans ⟨?_, ?_⟩
  · rw [State.publish_eq]
    split
    · exact .refl _
    · exact s.offer_carries _
  · obtain ⟨l, f, e⟩ := s.publish_frame i
    rw [e]

@[simp] theorem State.noteChange_voiced (h : Voiced r s) (i : Fin 4) : Voiced r (s.noteChange i) := by
  simp [State.noteChange, h]

theorem State.onCf_voiced {i : Fin 4} {f : CfSlot → State} (h : Voiced r s) (hf : ∀ c, Voiced r (f c)) :
    Voiced r (s.onCf i f) := by
  unfold State.onCf; split <;> simp [h, hf]

theorem State.onDi_voiced {i : Fin 4} {f : DiSlot → State} (h : Voiced r s) (hf : ∀ d, Voiced r (f d)) :
    Voiced r (s.onDi i f) := by
  unfold State.onDi; split <;> simp [h, hf]

theorem State.onCa_voiced {i : Fin 4} {f : CaSlot → State} (h : Voiced r s) (hf : ∀ a, Voiced r (f a)) :
    Voiced r (s.onCa i f) := by
  unfold State.onCa; split <;> simp [h, hf]

theorem State.onCg_voiced {i : Fin 4} {f : CgSlot → State} (h : Voiced r s) (hf : ∀ g, Voiced r (f g)) :
    Voiced r (s.onCg i f) := by
  unfold State.onCg; split <;> simp [h, hf]

/-- Work that each slot takes its turn at. -/
theorem eachSlot_voiced {f : State → Fin 4 → State} (hf : ∀ s i, Voiced r s → Voiced r (f s i)) (h : Voiced r s) :
    Voiced r (s.eachSlot f) := hf _ _ (hf _ _ (hf _ _ (hf _ _ h)))

@[simp] theorem State.cfStop_voiced (h : Voiced r s) (i : Fin 4) (c : CfSlot) (st : CfState) : Voiced r (s.cfStop i c st) := by
  unfold State.cfStop; simp only; split <;> simp [h]

@[simp] theorem State.cfTrip_voiced (h : Voiced r s) (i : Fin 4) (c : CfSlot) : Voiced r (s.cfTrip i c) := by
  unfold State.cfTrip; repeat' split
  all_goals simp [h]

@[simp] theorem State.cfPassage_voiced (h : Voiced r s) (i : Fin 4) (c : CfSlot) : Voiced r (s.cfPassage i c) := by
  unfold State.cfPassage; split <;> simp [h]

@[simp] theorem State.cfStartTest_voiced (h : Voiced r s) (i : Fin 4) (c : CfSlot) : Voiced r (s.cfStartTest i c) := by
  unfold State.cfStartTest; repeat' split
  all_goals simp [h]

@[simp] theorem State.cfVerdict_voiced (h : Voiced r s) (i : Fin 4) (c : CfSlot) : Voiced r (s.cfVerdict i c) := by
  unfold State.cfVerdict; repeat' split
  all_goals simp [h]

@[simp] theorem State.cfSupervise_voiced (h : Voiced r s) (i : Fin 4) (c : CfSlot) : Voiced r (s.cfSupervise i c) := by
  unfold State.cfSupervise; simp only; repeat' split
  all_goals simp [h]

@[simp] theorem State.cfHandOn_voiced (h : Voiced r s) (i : Fin 4) : Voiced r (s.cfHandOn i) := by
  unfold State.cfHandOn
  extract_lets s1 s2
  have h1 : Voiced r s1 := State.onCf_voiced h fun c => by simp [h]
  have h2 : Voiced r s2 := State.onCf_voiced h1 fun c => by split <;> simp [h1]
  exact State.onCf_voiced h2 fun c => by split <;> simp [h2]

@[simp] theorem State.cfLeaveFault_voiced (h : Voiced r s) (i : Fin 4) (c : CfSlot) : Voiced r (s.cfLeaveFault i c) := by
  unfold State.cfLeaveFault; split <;> simp [h]

@[simp] theorem State.cfPermitFalls_voiced (h : Voiced r s) (i : Fin 4) (c : CfSlot) : Voiced r (s.cfPermitFalls i c) := by
  unfold State.cfPermitFalls; split <;> simp [h]

@[simp] theorem State.cfInputFailed_voiced (h : Voiced r s) (i : Fin 4) (c : CfSlot) : Voiced r (s.cfInputFailed i c) := by
  unfold State.cfInputFailed; split <;> simp [h]

/-! ## The item fuel slot -/

@[simp] theorem State.diStop_voiced (h : Voiced r s) (i : Fin 4) (d : DiSlot) (st : DiState) : Voiced r (s.diStop i d st) := by
  simp [State.diStop, h]

@[simp] theorem State.gateJam_voiced (h : Voiced r s) (i : Fin 4) (d : DiSlot) : Voiced r (s.gateJam i d) := by
  unfold State.gateJam; simp only; repeat' split
  all_goals simp [h]

@[simp] theorem State.tryStart_voiced (h : Voiced r s) (i : Fin 4) : Voiced r (s.tryStart i) := by
  refine State.onDi_voiced h fun d => ?_
  repeat' split
  all_goals simp [h]

@[simp] theorem State.countFed_voiced (h : Voiced r s) (i : Fin 4) (d : DiSlot) : Voiced r (s.countFed i d) := by
  unfold State.countFed; split <;> simp [h]

@[simp] theorem State.gateReady_voiced (h : Voiced r s) (i : Fin 4) (d : DiSlot) : Voiced r (s.gateReady i d) := by
  unfold State.gateReady
  extract_lets s1 s2
  have h2 : Voiced r s2 := by simp only [s2, s1]; split <;> simp [h]
  split
  · exact State.onDi_voiced h2 fun d' => by simp [h2]
  · exact h2

@[simp] theorem State.gateRun_voiced (n : Nat) (h : Voiced r s) (i : Fin 4) : Voiced r (s.gateRun n i) := by
  induction n generalizing s with
  | zero => exact h
  | succ n ih =>
    refine State.onDi_voiced h fun d => ?_
    have fed : Voiced r (s.countFed i d) := by simp [h]
    repeat' split
    · simp [h]
    · exact ih (by simp [h])
    · exact h
    · exact ih (by simp [h])
    · exact ih (by simp [h])
    · exact h
    · exact ih (State.onDi_voiced fed fun d1 => by simp [fed])
    · exact h
    · exact ih (by simp [h])
    · exact h
    · exact h

@[simp] theorem State.gateGo_voiced (h : Voiced r s) (i : Fin 4) : Voiced r (s.gateGo i) := State.gateRun_voiced 16 h i

@[simp] theorem State.interrupt_voiced (h : Voiced r s) (i : Fin 4) : Voiced r (s.interrupt i) := by
  refine State.onDi_voiced h fun d => ?_
  split <;> simp [h]

@[simp] theorem State.diLeave_voiced (h : Voiced r s) (i : Fin 4) (d : DiSlot) (st : DiState) :
    Voiced r (s.diLeave i d st) := by simp [State.diLeave, h]

@[simp] theorem State.diTrip_voiced (h : Voiced r s) (i : Fin 4) (d : DiSlot) : Voiced r (s.diTrip i d) := by
  unfold State.diTrip; repeat' split
  all_goals simp [h]

@[simp] theorem State.diPassage_voiced (h : Voiced r s) (i : Fin 4) (d : DiSlot) : Voiced r (s.diPassage i d) := by
  unfold State.diPassage; split <;> simp [h]

@[simp] theorem State.diVerdict_voiced (h : Voiced r s) (i : Fin 4) (d : DiSlot) : Voiced r (s.diVerdict i d) := by
  unfold State.diVerdict; repeat' split
  all_goals simp [h]

@[simp] theorem State.diDebt_voiced (h : Voiced r s) (i : Fin 4) (d : DiSlot) : Voiced r (s.diDebt i d) := by
  unfold State.diDebt; simp only; repeat' split
  all_goals simp [h]

@[simp] theorem State.diHandOn_voiced (h : Voiced r s) (i : Fin 4) : Voiced r (s.diHandOn i) := by
  unfold State.diHandOn
  extract_lets s1 s2
  have h1 : Voiced r s1 := State.onDi_voiced h fun d => by simp [h]
  have h2 : Voiced r s2 := State.onDi_voiced h1 fun d => by simp [h1]
  simp [h2]

@[simp] theorem State.diPermitFalls_voiced (h : Voiced r s) (i : Fin 4) (d : DiSlot) : Voiced r (s.diPermitFalls i d) := by
  unfold State.diPermitFalls; repeat' split
  all_goals simp [h]

@[simp] theorem State.divert_voiced (h : Voiced r s) (i : Fin 4) (d : DiSlot) (b : Bool) : Voiced r (s.divert i d b) := by
  unfold State.divert; simp only; split <;> simp [h]

@[simp] theorem State.appendItem_voiced (h : Voiced r s) (i : Fin 4) (d : DiSlot) (x : Item) :
    Voiced r (s.appendItem i d x) := by
  unfold State.appendItem; simp only; split <;> simp [h]

@[simp] theorem State.itemWeighed_voiced (h : Voiced r s) (i : Fin 4) (n : Nat) : Voiced r (s.itemWeighed i n) := by
  refine State.onDi_voiced h fun d => ?_
  simp only; repeat' split
  all_goals simp [h]

@[simp] theorem State.confirm_voiced (h : Voiced r s) (i : Fin 4) (sw : GateSwitch) (b : Bool) :
    Voiced r (s.confirm i sw b) := State.onDi_voiced h fun d => by simp [h]

/-! ## The cooler's slots -/

@[simp] theorem State.caForm_voiced (h : Voiced r s) (i : Fin 4) : Voiced r (s.caForm i) :=
  State.onCa_voiced h fun a => by simp [h]

@[simp] theorem State.caHand_voiced (h : Voiced r s) (a : CaSlot) : Voiced r (s.caHand a) := by
  unfold State.caHand; split <;> simp [h]

@[simp] theorem State.caEnter_voiced (h : Voiced r s) (i : Fin 4) (a : CaSlot) (st : CaState) :
    Voiced r (s.caEnter i a st) := by
  unfold State.caEnter; simp only; repeat' split
  all_goals simp [h]

@[simp] theorem State.caPassage_voiced (h : Voiced r s) (i : Fin 4) : Voiced r (s.caPassage i) :=
  State.onCa_voiced h fun a => by split <;> simp [h]

@[simp] theorem State.caRespond_voiced (h : Voiced r s) (i : Fin 4) : Voiced r (s.caRespond i) := by
  refine State.onCa_voiced h fun a => ?_
  simp only; repeat' split
  all_goals simp [h]

@[simp] theorem State.caSupervise_voiced (h : Voiced r s) (i : Fin 4) : Voiced r (s.caSupervise i) := by
  refine State.onCa_voiced h fun a => ?_
  simp only; repeat' split
  all_goals simp [h]

@[simp] theorem State.caHot_voiced (h : Voiced r s) (i : Fin 4) : Voiced r (s.caHot i) := by
  refine State.onCa_voiced h fun a => ?_
  simp only; repeat' split
  all_goals simp [h]

@[simp] theorem State.caUpdate_voiced (h : Voiced r s) (i : Fin 4) : Voiced r (s.caUpdate i) := by
  unfold State.caUpdate
  extract_lets s1 s2 s3
  have h1 : Voiced r s1 := State.caForm_voiced h i
  split
  · have h2 : Voiced r s2 := State.caPassage_voiced h1 i
    have h3 : Voiced r s3 := State.onCa_voiced h2 fun a => by simp [h2]
    exact State.caHot_voiced (State.caSupervise_voiced (State.caRespond_voiced h3 i) i) i
  · exact h1

@[simp] theorem State.caPermitFalls_voiced (h : Voiced r s) (i : Fin 4) (a : CaSlot) : Voiced r (s.caPermitFalls i a) := by
  unfold State.caPermitFalls; split <;> simp [h]

theorem State.caForce_voiced (s : State) (i : Fin 4) (h : Voiced r s) : Voiced r (s.caForce i) :=
  State.onCa_voiced h fun a => by split <;> simp [h]

theorem State.caRelease_voiced (s : State) (i : Fin 4) (h : Voiced r s) : Voiced r (s.caRelease i) :=
  State.onCa_voiced h fun a => by split <;> simp [h]

@[simp] theorem State.cgHand_voiced (h : Voiced r s) (g : CgSlot) : Voiced r (s.cgHand g) := by
  unfold State.cgHand; split <;> simp [h]

@[simp] theorem State.cgEnter_voiced (h : Voiced r s) (i : Fin 4) (g : CgSlot) (st : CgState) :
    Voiced r (s.cgEnter i g st) := by
  unfold State.cgEnter; simp only; split
  · exact eachSlot_voiced State.caRelease_voiced (by simp [h])
  · simp [h]

@[simp] theorem State.cgFlush_voiced (h : Voiced r s) (i : Fin 4) (g : CgSlot) : Voiced r (s.cgFlush i g) := by
  unfold State.cgFlush
  exact eachSlot_voiced State.caForce_voiced (by simp [h])

@[simp] theorem State.cgPassage_voiced (h : Voiced r s) (i : Fin 4) : Voiced r (s.cgPassage i) :=
  State.onCg_voiced h fun g => by split <;> simp [h]

@[simp] theorem State.cgRunning_voiced (h : Voiced r s) (i : Fin 4) (g : CgSlot) (p : Int) : Voiced r (s.cgRunning i g p) := by
  unfold State.cgRunning; simp only; split <;> simp [h]

@[simp] theorem State.cgFlushing_voiced (h : Voiced r s) (i : Fin 4) (g : CgSlot) (b : Bool) :
    Voiced r (s.cgFlushing i g b) := by
  unfold State.cgFlushing; simp only; split <;> simp [h]

@[simp] theorem State.cgPressure_voiced (h : Voiced r s) (i : Fin 4) : Voiced r (s.cgPressure i) := by
  refine State.onCg_voiced h fun g => ?_
  simp only; repeat' split
  all_goals simp [h]

@[simp] theorem State.cgAct_voiced (h : Voiced r s) (i : Fin 4) : Voiced r (s.cgAct i) := by
  refine State.onCg_voiced h fun g => ?_
  simp only; repeat' split
  all_goals simp [h]

@[simp] theorem State.cgUpdate_voiced (h : Voiced r s) (i : Fin 4) : Voiced r (s.cgUpdate i) := by
  unfold State.cgUpdate
  split
  · extract_lets s1 s2
    have h1 : Voiced r s1 := by simp [s1, h]
    have h2 : Voiced r s2 := State.onCg_voiced h1 fun g => by simp [h1]
    simp [h2]
  · exact h

@[simp] theorem State.cgPermitFalls_voiced (h : Voiced r s) (i : Fin 4) (g : CgSlot) : Voiced r (s.cgPermitFalls i g) := by
  unfold State.cgPermitFalls; split <;> simp [h]

/-! ## The reports of the trip cause -/

/-- R142: the reports of the trip cause reach the slots alone. -/
theorem State.evalTrips_voiced (h : Voiced r s) : Voiced r s.evalTrips := by
  refine eachSlot_voiced (fun t i ht => ?_) h
  split <;> simp [ht]

end

end Sys2Proof.Machine
end

section
/-! PROOFS. The operations of the station that leave the link alone. -/

namespace Sys2Proof.Machine

/-! ## What leaves the link alone -/

theorem foldl_link {α : Type} (f : State → α → State) (h : ∀ s a, (f s a).link = s.link) (l : List α) (s : State) :
    (l.foldl f s).link = s.link := by
  induction l generalizing s with
  | nil => rfl
  | cons a l ih => rw [List.foldl_cons, ih, h]

theorem eachSlot_link {f : State → Fin 4 → State} (h : ∀ s i, (f s i).link = s.link) (s : State) :
    (s.eachSlot f).link = s.link := by
  simp [State.eachSlot, h]

section
variable (s : State)

@[simp] theorem State.runStore_link : s.runStore.link = s.link := link_of_wire s.runStore_wire

@[simp] theorem State.append_link (type : RecordType) (rest : List Byte) (b : Binding) (p q : Bool) :
    (s.append type rest b p q).link = s.link := link_of_wire (State.append_wire _ _ _ _ _ _)

@[simp] theorem State.requestStep_link (f : Option (Fin 32)) (st : FileStep) : (s.requestStep f st).link = s.link :=
  link_of_wire (State.requestStep_wire _ _ _)

@[simp] theorem State.clearStoreFull_link : s.clearStoreFull.link = s.link := link_of_wire s.clearStoreFull_wire

/-! ### The alarm unit's records -/

@[simp] theorem State.journal_link (n : Nat) (e : AlarmEntry) (r a l : Nat) : (s.journal n e r a l).link = s.link :=
  s.append_link _ _ _ _ _

@[simp] theorem State.dropAlarm_link (e : AlarmEntry) : (s.dropAlarm e).link = s.link := by
  unfold State.dropAlarm; split <;> rfl

@[simp] theorem State.placeAlarm_link (e : AlarmEntry) : (s.placeAlarm e).link = s.link := by
  unfold State.placeAlarm; split <;> rfl

@[simp] theorem State.setAlarm_link (e : AlarmEntry) : (s.setAlarm e).link = s.link := rfl

@[simp] theorem State.countAlarm_link (f : AlarmCounters → AlarmCounters) : (s.countAlarm f).link = s.link := rfl

@[simp] theorem State.staleNotice_link : s.staleNotice.link = s.link := rfl

@[simp] theorem State.staleAck_link : s.staleAck.link = s.link := rfl

@[simp] theorem State.forgetRetry_link (e : AlarmEntry) : (s.forgetRetry e).link = s.link := rfl

@[simp] theorem State.postRaise_link (n : Nat) : (s.postRaise n).link = s.link := rfl

@[simp] theorem State.enterNew_link (e : AlarmEntry) : (s.enterNew e).link = s.link := by
  unfold State.enterNew
  rw [State.journal_link]
  exact s.placeAlarm_link e

@[simp] theorem State.logRaise_link (c : AlarmCode) (ch : Nat) : (s.logRaise c ch).link = s.link := by
  unfold State.logRaise; simp only; split
  · rfl
  · split <;> exact State.journal_link _ _ _ _ _ _

@[simp] theorem State.evictAlarm_link (e : AlarmEntry) : (s.evictAlarm e).link = s.link := by
  unfold State.evictAlarm; simp only; split <;> simp

@[simp] theorem State.logClear_link (c : AlarmCode) (ch : Nat) : (s.logClear c ch).link = s.link := by
  unfold State.logClear; split <;> simp

@[simp] theorem State.enterPeer_link (o : Nat) (c : AlarmCode) (ch cls : Nat) (occ : Serial) :
    (s.enterPeer o c ch cls occ).link = s.link := by simp [State.enterPeer]

@[simp] theorem State.peerClear_link (o : Nat) (c : AlarmCode) (ch : Nat) (occ : Serial) :
    (s.peerClear o c ch occ).link = s.link := by
  unfold State.peerClear; repeat' split
  all_goals simp

@[simp] theorem State.acknowledgeEntry_link (e : AlarmEntry) (n : Nat) : (s.acknowledgeEntry e n).link = s.link := by
  unfold State.acknowledgeEntry; repeat' split
  all_goals simp

@[simp] theorem State.orphanEntry_link (e : AlarmEntry) : (s.orphanEntry e).link = s.link := by
  unfold State.orphanEntry; repeat' split
  all_goals simp

theorem State.makeRoom_link {s t : State} (h : s.makeRoom = some t) : t.link = s.link := by
  unfold State.makeRoom at h
  split at h
  · cases h; rfl
  · obtain ⟨e, _, rfl⟩ := Option.map_eq_some_iff.1 h
    simp

/-! ### The floor picture -/

@[simp] theorem State.placePeer_link (e : PeerEntry) : (s.placePeer e).link = s.link := rfl
@[simp] theorem State.countPicture_link (f : PictureCounters → PictureCounters) : (s.countPicture f).link = s.link := rfl
@[simp] theorem State.refuseNotice_link : s.refuseNotice.link = s.link := rfl
@[simp] theorem State.refuseTake_link : s.refuseTake.link = s.link := rfl

@[simp] theorem State.startLossHold_link : s.startLossHold.link = s.link := by
  unfold State.startLossHold; repeat' split
  all_goals rfl

@[simp] theorem State.removePeer_link (e : PeerEntry) : (s.removePeer e).link = s.link := by
  unfold State.removePeer; simp only; repeat' split
  all_goals simp

@[simp] theorem State.createPeer_link (e : PeerEntry) : (s.createPeer e).link = s.link := by
  unfold State.createPeer; simp only; repeat' split
  all_goals simp

@[simp] theorem State.useNotice_link (e : PeerEntry) : (s.useNotice e).link = s.link := by
  unfold State.useNotice; simp only; repeat' split
  all_goals simp

@[simp] theorem State.heatNotice_link (a b c d e f g : Nat) (h k : Bool) :
    (s.heatNotice a b c d e f g h k).link = s.link := by
  unfold State.heatNotice; split <;> simp

@[simp] theorem State.airNotice_link (a b c : Nat) (h k : Bool) (d e f g : Nat) :
    (s.airNotice a b c h k d e f g).link = s.link := by
  unfold State.airNotice; split <;> simp

@[simp] theorem State.signOfLife_link (n : Nat) : (s.signOfLife n).link = s.link := by
  unfold State.signOfLife; simp only; repeat' split
  all_goals rfl

@[simp] theorem State.orderNotice_link (n : Nat) (e : Serial) (t : Nat) : (s.orderNotice n e t).link = s.link := by
  unfold State.orderNotice; split
  · rfl
  · exact State.considerOrder_link _ _ _

/-! ### The shift accountant -/

@[simp] theorem State.countShift_link (f : ShiftCounters → ShiftCounters) : (s.countShift f).link = s.link := rfl
@[simp] theorem State.takeNumber_link (n : Serial) : (s.takeNumber n).link = s.link := rfl
@[simp] theorem State.ignoreMark_link : s.ignoreMark.link = s.link := rfl

@[simp] theorem State.openShiftFile_link (n : Serial) : (s.openShiftFile n).link = s.link :=
  link_of_wire (s.openFile_wire n)

@[simp] theorem State.offerRestart_link (b : Bool) : (s.offerRestart b).link = s.link := by
  unfold State.offerRestart; split <;> simp

@[simp] theorem State.endCollation_link (b : Bool) : (s.endCollation b).link = s.link :=
  s.requestStep_link s.accountant.collFile (.closed b)

@[simp] theorem State.beginCollation_link (n : Serial) : (s.beginCollation n).link = s.link :=
  s.requestStep_link s.accountant.file .collating

@[simp] theorem State.lateSummary_link (f : Option (Fin 32)) : (s.lateSummary f).link = s.link := by
  unfold State.lateSummary; repeat' split
  all_goals rfl

@[simp] theorem State.summaryLate_link (f : Option (Fin 32)) : (s.summaryLate f).link = s.link :=
  State.lateSummary_link _ f

@[simp] theorem State.summaryNotice_link (o : Nat) (p : List Byte) : (s.summaryNotice o p).link = s.link := by
  unfold State.summaryNotice; simp only; repeat' split
  all_goals simp

@[simp] theorem State.firstShift_link (n : Serial) : (s.firstShift n).link = s.link := by simp [State.firstShift]

@[simp] theorem State.resumeFile_link (e : Fin 32) (n : Nat) : (s.resumeFile e n).link = s.link := by
  unfold State.resumeFile; simp only; split <;> exact State.runStore_link _

@[simp] theorem State.resumeShift_link (e : Fin 32) (n : Nat) : (s.resumeShift e n).link = s.link := by
  unfold State.resumeShift; simp only; rw [State.offerRestart_link]; exact s.resumeFile_link e n

@[simp] theorem State.takeReport_link (r : FileReport) : (s.takeReport r).link = s.link := by
  unfold State.takeReport; repeat' split
  all_goals simp

/-! ### The control update -/

@[simp] theorem State.slew_link : s.slew.link = s.link := by
  unfold State.slew; split <;> rfl

@[simp] theorem State.updateEstimate_link : s.updateEstimate.link = s.link := by
  unfold State.updateEstimate; repeat' split
  all_goals rfl

@[simp] theorem State.allocate_link : s.allocate.link = s.link := rfl
@[simp] theorem State.endMarks_link : s.endMarks.link = s.link := rfl

@[simp] theorem State.cfPostTime_link (i : Fin 4) (a : CfState) : (s.cfPostTime i a).link = s.link := by
  unfold State.cfPostTime State.onCf; repeat' split
  all_goals rfl

@[simp] theorem State.cfPostAmounts_link (i : Fin 4) : (s.cfPostAmounts i).link = s.link := by
  unfold State.cfPostAmounts State.onCf; split <;> rfl

@[simp] theorem State.postRunning_link (i : Fin 4) (n : Nat) : (s.postRunning i n).link = s.link := rfl
@[simp] theorem State.postTripped_link (i : Fin 4) (n : Nat) : (s.postTripped i n).link = s.link := rfl
@[simp] theorem State.postAir_link (i : Fin 4) (n : Nat) : (s.postAir i n).link = s.link := rfl
@[simp] theorem State.postRecovered_link (i : Fin 4) (n : Nat) : (s.postRecovered i n).link = s.link := rfl
@[simp] theorem State.postForced_link (i : Fin 4) (n : Nat) : (s.postForced i n).link = s.link := rfl
@[simp] theorem State.postStrokes_link (i : Fin 4) (n : Nat) : (s.postStrokes i n).link = s.link := rfl
@[simp] theorem State.postFlushSeconds_link (i : Fin 4) (n : Nat) : (s.postFlushSeconds i n).link = s.link := rfl

@[simp] theorem State.slotPost_link (a : Vector SlotUnit 4) (i : Fin 4) : (State.slotPost a s i).link = s.link := by
  unfold State.slotPost; split
  · simp
  · unfold State.diPostTime State.onDi; repeat' split
    all_goals simp
  · unfold State.caPost State.onCa
    simp only; repeat' split
    all_goals simp
  · unfold State.cgPost State.onCg
    simp only; repeat' split
    all_goals simp
  · rfl

@[simp] theorem State.postAlarmTime_link (b : Bool) : (s.postAlarmTime b).link = s.link := by
  unfold State.postAlarmTime; split <;> rfl

@[simp] theorem State.postCooler_link : s.postCooler.link = s.link := by
  unfold State.postCooler; split <;> rfl

@[simp] theorem State.fireRun_link (c : AlarmCode) (b : Bool) (n : Nat) (r : Option Nat) :
    (s.fireRun c b n r).1.link = s.link := by
  unfold State.fireRun; simp only; split <;> rfl

@[simp] theorem State.superviseFire_link (g : Cfg) : (s.superviseFire g).link = s.link := by
  unfold State.superviseFire
  exact (State.fireRun_link _ _ _ _ _).trans (State.fireRun_link _ _ _ _ _)

@[simp] theorem State.ceaseFire_link : s.ceaseFire.link = s.link := by
  unfold State.ceaseFire; simp only; repeat' split
  all_goals rfl

@[simp] theorem State.fireSupervision_link : s.fireSupervision.link = s.link := by
  unfold State.fireSupervision; repeat' split
  all_goals simp

/-! ### The service port and the completions of the engine -/

@[simp] theorem State.result_link (r : Result) : (s.result r).link = s.link := rfl

@[simp] theorem State.closeWindow_link : s.closeWindow.link = s.link := by
  unfold State.closeWindow; split <;> simp

@[simp] theorem State.portKick_link : s.portKick.link = s.link := by
  unfold State.portKick; repeat' split
  all_goals simp

@[simp] theorem State.openWindow_link (e m : Byte) (o : BitVec 24) : (s.openWindow e m o).link = s.link := by
  unfold State.openWindow; simp only; repeat' split
  all_goals simp

@[simp] theorem State.readEnds_link : s.readEnds.link = s.link := by
  unfold State.readEnds; simp only; repeat' split
  all_goals simp

@[simp] theorem State.unitMissed_link (w : ReadWindow) : (s.unitMissed w).link = s.link := by
  unfold State.unitMissed; simp only; split <;> simp

@[simp] theorem State.unitDone_link : s.unitDone.link = s.link := by
  unfold State.unitDone; simp only; repeat' split
  all_goals simp

@[simp] theorem State.unitCut_link : s.unitCut.link = s.link := by
  unfold State.unitCut; repeat' split
  all_goals simp

theorem State.units_link (n r : Nat) (s : State) (out : List Byte) : (State.units n r s out).1.link = s.link := by
  induction n generalizing s out with
  | zero => unfold State.units; split <;> simp
  | succ n ih => unfold State.units; rw [ih, State.unitDone_link]

@[simp] theorem State.streamUnits_link (n : Nat) : (s.streamUnits n).link = s.link := by
  have h := State.units_link (n / 17) (n % 17) s []
  unfold State.streamUnits
  generalize State.units _ _ _ _ = r at h ⊢
  exact h

@[simp] theorem State.answer_link (f : State → List Byte) : (s.answer f).link = s.link := s.closeWindow_link

@[simp] theorem State.areaCommand_link (r : Option Result) (op : AreaOp) : (s.areaCommand r op).link = s.link := by
  unfold State.areaCommand; simp only; repeat' split
  all_goals exact s.closeWindow_link

@[simp] theorem State.flushQueue_link : s.flushQueue.link = s.link := by
  unfold State.flushQueue
  rw [State.runStore_link]
  exact s.closeWindow_link

@[simp] theorem State.tearProgram_link (op : ProgramOp) : (s.tearProgram op).link = s.link := rfl

@[simp] theorem State.tearArea_link (op : AreaOp) : (s.tearArea op).link = s.link := by
  cases op <;> simp only [State.tearArea, State.useFree]

@[simp] theorem State.areaDone_link (r : Result) : (s.areaDone r).link = s.link := by
  unfold State.areaDone; rw [State.runStore_link]; rfl

@[simp] theorem State.configCompletes_link (b : Bool) : (s.configCompletes b).link = s.link := by
  unfold State.configCompletes; repeat' split
  all_goals simp [State.configWritten, State.configErased]

@[simp] theorem State.otpProgrammed_link (b : Fin 16) (d : List Byte) (l : Bool) : (s.otpProgrammed b d l).1.link = s.link :=
  rfl

@[simp] theorem State.freezeWritten_link (b : Bool) : (s.freezeWritten b).link = s.link := by
  have h : (if b then s.otpProgrammed 15 freezeMark true else (s.tearArea .freeze, false)).1.link = s.link := by
    split
    · exact s.otpProgrammed_link _ _ _
    · exact s.tearArea_link _
  unfold State.freezeWritten
  generalize (if b then s.otpProgrammed 15 freezeMark true else (s.tearArea .freeze, false)) = r at h
  exact (State.areaDone_link _ _).trans h

@[simp] theorem State.otpCompletes_link (b : Bool) : (s.otpCompletes b).link = s.link := by
  unfold State.otpCompletes; repeat' split
  · exact (State.areaDone_link _ _).trans (s.otpProgrammed_link _ _ _)
  all_goals simp

@[simp] theorem State.programPasses_link (op : ProgramOp) : (s.programPasses op).link = s.link :=
  link_of_wire (State.dequeue_wire _ _)

@[simp] theorem State.programFails_link (op : ProgramOp) : (s.programFails op).link = s.link := by
  refine (foldl_link _ (fun t r => ?_) _ _).trans rfl
  exact link_of_wire ((State.dropRecord_wire _ _).trans (State.dequeue_wire _ _))

@[simp] theorem State.programEnds_link (b : Bool) : (s.programEnds b).link = s.link := by
  unfold State.programEnds; split
  · rfl
  · rw [State.runStore_link]; split <;> simp

@[simp] theorem State.erasePasses_link (g : Fin 128) : (s.erasePasses g).link = s.link := State.clearStoreFull_link _

@[simp] theorem State.eraseEnds_link (b : Bool) : (s.eraseEnds b).link = s.link := by
  unfold State.eraseEnds; repeat' split
  · rfl
  · rfl
  · simp
  · rw [State.runStore_link]; rfl

end

end Sys2Proof.Machine
end

section
/-! PROOFS. Every operation of the station carries the link on: it keeps the transmit queue legal and in order. -/

namespace Sys2Proof.Machine

section
variable {l : Link} {s t : State}

/-! ## The alarm unit -/

theorem Voiced.carried (k : Voiced s t) (h : l.Carries s.link) : l.Carries t.link := h.trans k.carries

@[simp] theorem State.offer_carried (h : l.Carries s.link) (n : Notice) : l.Carries (s.offer n).link :=
  h.trans (s.offer_carries n)

@[simp] theorem State.evalTrips_carried (h : l.Carries s.link) : l.Carries s.evalTrips.link :=
  (State.evalTrips_voiced (.refl s)).carried h

theorem foldl_carried {α : Type} {f : State → α → State} (hf : ∀ s a, l.Carries s.link → l.Carries (f s a).link)
    (as : List α) (h : l.Carries s.link) : l.Carries (as.foldl f s).link := by
  induction as generalizing s with
  | nil => exact h
  | cons a as ih => exact ih (hf s a h)

theorem eachSlot_carried {f : State → Fin 4 → State} (hf : ∀ s i, l.Carries s.link → l.Carries (f s i).link)
    (h : l.Carries s.link) : l.Carries (s.eachSlot f).link := hf _ _ (hf _ _ (hf _ _ (hf _ _ h)))

@[simp] theorem State.enterOwn_carried (h : l.Carries s.link) (c : AlarmCode) (ch : Nat) :
    l.Carries (s.enterOwn c ch).link := by
  unfold State.enterOwn
  extract_lets e a s1 s2 s3
  have h2 : l.Carries s2.link := by rwa [show s2.link = s.link from State.enterNew_link _ e]
  clear_value s2
  have h3 : l.Carries s3.link := by
    simp only [s3]; split
    · exact State.offer_carried h2 _
    · exact h2
  exact State.evalTrips_carried h3

@[simp] theorem State.raiseFlood_carried (h : l.Carries s.link) : l.Carries s.raiseFlood.link := by
  unfold State.raiseFlood; simp only; split
  all_goals
    refine State.enterOwn_carried ?_ _ _
    exact h

@[simp] theorem State.loseRaise_carried (h : l.Carries s.link) : l.Carries s.loseRaise.link := by
  unfold State.loseRaise; simp only; repeat' split
  · simp [h]
  · exact h
  · exact State.raiseFlood_carried h

@[simp] theorem State.takeRaise_carried (h : l.Carries s.link) (c : AlarmCode) (ch : Nat) :
    l.Carries (s.takeRaise c ch).link := by
  unfold State.takeRaise; repeat' split
  case h_2 t room => exact State.enterOwn_carried (by simpa [State.makeRoom_link room] using h) c ch
  all_goals simp [h]

@[simp] theorem State.offerClear_carried (h : l.Carries s.link) (e : AlarmEntry) : l.Carries (s.offerClear e).link := by
  unfold State.offerClear; split <;> simp [h]

@[simp] theorem State.clearEntry_carried (h : l.Carries s.link) (e : AlarmEntry) : l.Carries (s.clearEntry e).link := by
  unfold State.clearEntry; simp only; repeat' split
  all_goals simp [h]

@[simp] theorem State.clearKey_carried (h : l.Carries s.link) (c : AlarmCode) (ch : Nat) :
    l.Carries (s.clearKey c ch).link := by
  unfold State.clearKey; repeat' split
  all_goals simp [h]

@[simp] theorem State.floodCheck_carried (h : l.Carries s.link) : l.Carries s.floodCheck.link := by
  unfold State.floodCheck; split <;> simp [h]

@[simp] theorem State.afterChange_carried (h : l.Carries s.link) : l.Carries s.afterChange.link :=
  State.evalTrips_carried (State.floodCheck_carried h)

@[simp] theorem State.takeClear_carried (h : l.Carries s.link) (c : AlarmCode) (ch : Nat) :
    l.Carries (s.takeClear c ch).link := by
  unfold State.takeClear; split <;> simp [h]

@[simp] theorem State.peerRaise_carried (h : l.Carries s.link) (o : Nat) (c : AlarmCode) (ch cls : Nat) (occ : Serial) :
    l.Carries (s.peerRaise o c ch cls occ).link := by
  unfold State.peerRaise; repeat' split
  case h_2 t room => simpa [State.makeRoom_link room] using h
  all_goals simp [h]

@[simp] theorem State.alarmNotice_carried (h : l.Carries s.link) (o c ch cls ev : Nat) (occ : Serial) :
    l.Carries (s.alarmNotice o c ch cls ev occ).link := by
  unfold State.alarmNotice; simp only; repeat' split
  all_goals simp [h]

@[simp] theorem State.ackNotice_carried (h : l.Carries s.link) (st o c ch : Nat) (occ : Serial) :
    l.Carries (s.ackNotice st o c ch occ).link := by
  unfold State.ackNotice; repeat' split
  all_goals simp [h]

@[simp] theorem State.panelAck_carried (h : l.Carries s.link) (k : AlarmEntry) : l.Carries (s.panelAck k).link := by
  unfold State.panelAck; simp only; repeat' split
  all_goals simp [h]

@[simp] theorem State.panelAckAll_carried (h : l.Carries s.link) : l.Carries s.panelAckAll.link := by
  unfold State.panelAckAll; split
  · exact h
  · exact foldl_carried (fun _ k h => State.panelAck_carried h k) _ h

@[simp] theorem State.orphan_carried (h : l.Carries s.link) (o : Nat) : l.Carries (s.orphan o).link := by
  refine State.afterChange_carried ?_
  rwa [foldl_link _ State.orphanEntry_link]

@[simp] theorem State.takeRequest_carried (h : l.Carries s.link) (r : AlarmRequest) : l.Carries (s.takeRequest r).link := by
  cases r <;> simp [State.takeRequest, h]

@[simp] theorem State.takeFirst_carried (h : l.Carries s.link) : l.Carries s.takeFirst.link := by
  unfold State.takeFirst; split <;> simp [h]

theorem State.settleSome_carried (n : Nat) (h : l.Carries s.link) : l.Carries (State.settleSome n s).link := by
  induction n generalizing s with
  | zero => exact h
  | succ n ih =>
    unfold State.settleSome; split
    · exact h
    · exact ih (State.takeFirst_carried h)

@[simp] theorem State.settle_carried (h : l.Carries s.link) : l.Carries s.settle.link :=
  State.settleSome_carried _ h

/-! ## The blocks -/

@[simp] theorem State.goAbsent_carried (h : l.Carries s.link) (n : Nat) : l.Carries (s.goAbsent n).link := by
  refine State.orphan_carried (State.settle_carried ?_) n
  rw [foldl_link _ State.removePeer_link]
  exact h

@[simp] theorem State.originate_carried (h : l.Carries s.link) : l.Carries s.originate.link := by
  unfold State.originate; simp only; repeat' split
  · simp [h]
  · exact State.offer_carried (by rw [State.considerOrder_link]; exact h) _
  · simp [h]

@[simp] theorem State.refreshOrder_carried (h : l.Carries s.link) : l.Carries s.refreshOrder.link := by
  have timer (t : State) : t.restartRefresh.link = t.link := by
    unfold State.restartRefresh; repeat' split
    all_goals rfl
  unfold State.refreshOrder; split
  · exact h
  · rw [timer]; exact State.offer_carried h _

@[simp] theorem State.inputLost_carried (h : l.Carries s.link) (k : Fin 16) : l.Carries (s.inputLost k).link := by
  have v := Voiced.refl s
  refine Voiced.carried (s := s) ?_ h
  unfold State.inputLost; repeat' split
  all_goals simp [v]

@[simp] theorem State.inputBack_carried (h : l.Carries s.link) (k : Fin 16) : l.Carries (s.inputBack k).link := by
  have v := Voiced.refl s
  refine Voiced.carried (s := s) ?_ h
  unfold State.inputBack; repeat' split
  case h_2.isTrue => exact State.caRelease_voiced s _ v
  all_goals simp [v]

@[simp] theorem State.takeSample_carried (h : l.Carries s.link) (k : Fin 16) (n : Nat) : l.Carries (s.takeSample k n).link := by
  unfold State.takeSample
  extract_lets c was s1 s2
  have h2 : l.Carries s2.link := by simp only [s2]; split <;> exact h
  split
  · exact h2
  · exact State.inputBack_carried h2 k

@[simp] theorem State.takeItem_carried (h : l.Carries s.link) (k : Fin 16) (n : Nat) : l.Carries (s.takeItem k n).link := by
  unfold State.takeItem; simp only; split
  · exact h
  · exact (State.itemWeighed_voiced (.refl _) _ _).carried h

@[simp] theorem State.takeWord_carried (h : l.Carries s.link) (k : Fin 16) (n : Nat) (b : Bool) :
    l.Carries (s.takeWord k n b).link := by
  unfold State.takeWord; repeat' split
  all_goals simp [h]

@[simp] theorem State.holdExpires_carried (h : l.Carries s.link) (k : Fin 16) : l.Carries (s.holdExpires k).link := by
  unfold State.holdExpires
  refine State.inputLost_carried ?_ k
  split <;> exact h

@[simp] theorem State.closeShift_carried (h : l.Carries s.link) (n : Serial) (r : Nat) (m : Serial) :
    l.Carries (s.closeShift n r m).link := by
  unfold State.closeShift; simp only; split <;> simp [h]

@[simp] theorem State.closeByTimer_carried (h : l.Carries s.link) : l.Carries s.closeByTimer.link := by
  unfold State.closeByTimer; split
  · exact h
  · exact State.offer_carried (by simp [h]) _

@[simp] theorem State.markNotice_carried (h : l.Carries s.link) (m : Serial) : l.Carries (s.markNotice m).link := by
  unfold State.markNotice; repeat' split
  all_goals simp [h]

/-! ## The control update and the entry to RUN -/

@[simp] theorem State.feedPassage_carried (h : l.Carries s.link) (i : Fin 4) : l.Carries (s.feedPassage i).link := by
  have v := Voiced.refl s
  refine Voiced.carried (s := s) ?_ h
  unfold State.feedPassage; split <;> simp [v]

@[simp] theorem State.feedHandOn_carried (h : l.Carries s.link) (i : Fin 4) : l.Carries (s.feedHandOn i).link := by
  have v := Voiced.refl s
  unfold State.feedHandOn; split
  · exact State.settle_carried ((State.cfHandOn_voiced v i).carried h)
  · exact State.settle_carried ((State.diHandOn_voiced v i).carried h)
  · exact h

@[simp] theorem State.coolerAct_carried (h : l.Carries s.link) (i : Fin 4) : l.Carries (s.coolerAct i).link := by
  have v := Voiced.refl s
  unfold State.coolerAct; split
  · exact State.settle_carried ((State.caUpdate_voiced v i).carried h)
  · exact State.settle_carried ((State.cgUpdate_voiced v i).carried h)
  · exact h

@[simp] theorem State.publish_carried (h : l.Carries s.link) (i : Fin 4) : l.Carries (s.publish i).link :=
  (State.publish_voiced (.refl s) i).carried h

@[simp] theorem State.slotPublish_carried (noticed left : Vector Bool 4) (h : l.Carries s.link) (i : Fin 4) :
    l.Carries (State.slotPublish noticed left s i).link := by
  unfold State.slotPublish; simp only; repeat' split
  · exact h
  · exact State.publish_carried (s := s.setSlot i _) h i
  · exact h

@[simp] theorem State.publishAll_carried (h : l.Carries s.link) : l.Carries s.publishAll.link :=
  eachSlot_carried (fun _ i h => State.slotPublish_carried _ _ h i) h

@[simp] theorem State.controlSlots_carried (h : l.Carries s.link) : l.Carries s.controlSlots.link := by
  have passed : l.Carries (State.eachSlot State.feedPassage { s.slew.updateEstimate with
      channels := { s.slew.updateEstimate.channels with updating := true } }).link :=
    eachSlot_carried (fun _ i h => State.feedPassage_carried h i) (by simpa using h)
  unfold State.controlSlots
  exact eachSlot_carried (fun _ i h => State.coolerAct_carried h i)
    (eachSlot_carried (fun _ i h => State.feedHandOn_carried h i) (by rwa [State.allocate_link]))

@[simp] theorem State.controlAccounts_carried (a : Vector SlotUnit 4) (b : Bool) (h : l.Carries s.link) :
    l.Carries (State.controlAccounts a b s).link := by
  unfold State.controlAccounts; split
  · simp [eachSlot_link (State.slotPost_link · a), h]
  · simp [h]

@[simp] theorem State.updateExpires_carried (h : l.Carries s.link) (due : Nat) : l.Carries (s.updateExpires due).link := by
  have update {u : State} (h : l.Carries u.link) : l.Carries u.control.link := by
    refine State.controlAccounts_carried _ _ (State.settle_carried ?_)
    simp [h]
  exact update h

@[simp] theorem State.slotToRun_carried (h : l.Carries s.link) (i : Fin 4) : l.Carries (s.slotToRun i).link := by
  have v := Voiced.refl s
  have fault : Voiced s (s.faultAtRun i) := by
    unfold State.faultAtRun; repeat' split
    all_goals simp [v]
  refine Voiced.carried (s := s) ?_ h
  unfold State.slotToRun State.firstNotice; simp only; split <;> simp [fault]

@[simp] theorem State.enterRun_carried (h : l.Carries s.link) : l.Carries s.enterRun.link := by
  have entered (u : State) (hu : l.Carries u.link) : l.Carries (u.kickAccess.eachSlot State.slotToRun).endMarks.link := by
    rw [State.endMarks_link]
    exact eachSlot_carried (fun _ i h => State.slotToRun_carried h i) (hu.trans u.kickAccess_carries)
  unfold State.enterRun
  extract_lets p c s1 s3 s4 desk s5
  have h3 : l.Carries s3.link := entered s1 h
  clear_value s3
  have h4 : l.Carries s4.link := by
    simp only [s4]; split <;> exact h3
  clear_value s4
  have h5 : l.Carries s5.link := by
    simp only [s5]; split
    · exact State.refreshOrder_carried h4
    · exact h4
  split
  · rwa [State.firstShift_link]
  · exact h5

/-! ## Receiving -/

theorem State.countLink_carries (s : State) (f : LinkCounters → LinkCounters) : s.link.Carries (s.countLink f).link :=
  .of_keys rfl rfl rfl

@[simp] theorem State.countLink_carried (h : l.Carries s.link) (f : LinkCounters → LinkCounters) :
    l.Carries (s.countLink f).link := h.trans (s.countLink_carries f)

@[simp] theorem State.mediumBusy_carried (h : l.Carries s.link) : l.Carries s.mediumBusy.link := by
  unfold State.mediumBusy; split
  · exact h.trans (.of_keys rfl rfl rfl)
  · exact h
  · exact h.trans (.of_keys rfl rfl rfl)

@[simp] theorem State.mediumQuiet_carried (h : l.Carries s.link) : l.Carries s.mediumQuiet.link := by
  unfold State.mediumQuiet; split
  · exact h
  · have idle : l.Carries { s.link with mediumIdle := true, deaf := false } := h.trans (.of_keys rfl rfl rfl)
    exact idle.trans (State.kickAccess_carries { s with link := { s.link with mediumIdle := true, deaf := false } })

@[simp] theorem State.countSlot_carried (h : l.Carries s.link) : l.Carries s.countSlot.link := by
  unfold State.countSlot; repeat' split
  · exact h.trans s.link.send_carries
  · exact h.trans (.of_keys rfl rfl rfl)
  · exact h

@[simp] theorem State.setSilence_carried (h : l.Carries s.link) : l.Carries s.setSilence.link := by
  unfold State.setSilence; simp only; repeat' split
  · exact h
  all_goals exact h.trans (.of_keys rfl rfl rfl)

@[simp] theorem State.clearSilence_carried (h : l.Carries s.link) : l.Carries s.clearSilence.link := by
  unfold State.clearSilence; simp only; repeat' split
  · exact h.trans (.of_keys rfl rfl rfl)
  · exact h.trans (.of_keys rfl rfl rfl)
  · exact h

@[simp] theorem State.setExhaustion_carried (h : l.Carries s.link) : l.Carries s.setExhaustion.link := by
  unfold State.setExhaustion; simp only; repeat' split
  · exact h
  all_goals exact h.trans (.of_keys rfl rfl rfl)

@[simp] theorem State.clearExhaustion_carried (h : l.Carries s.link) : l.Carries s.clearExhaustion.link := by
  unfold State.clearExhaustion; simp only; repeat' split
  · exact h.trans (.of_keys rfl rfl rfl)
  · exact h.trans (.of_keys rfl rfl rfl)
  · exact h

@[simp] theorem State.handOn_carried (h : l.Carries s.link) (o : Nat) (n : Notice) : l.Carries (s.handOn o n).link := by
  cases n <;> simp [State.handOn, h]

@[simp] theorem State.accept_carried (h : l.Carries s.link) (o : Nat) (n : Notice) : l.Carries (s.accept o n).link := by
  have heard {u : State} (h : l.Carries u.link) : l.Carries ((u.signOfLife o).handOn o n).link := by simp [h]
  unfold State.accept; simp only
  refine heard ?_
  split
  · exact State.clearSilence_carried (h.trans (.of_keys rfl rfl rfl))
  · simp [h]

@[simp] theorem State.ownOrigin_carried (h : l.Carries s.link) : l.Carries s.ownOrigin.link := by
  unfold State.ownOrigin; simp only; split
  all_goals exact h.trans (.of_keys rfl rfl rfl)

@[simp] theorem State.checkFrame_carried (h : l.Carries s.link) (o k : Nat) (p : List Byte) (b : Bool) :
    l.Carries (s.checkFrame o k p b).link := by
  unfold State.checkFrame; repeat' split
  all_goals simp [h]

@[simp] theorem State.hearBurst_carried (h : l.Carries s.link) (b : List Byte) : l.Carries (s.hearBurst b).link := by
  unfold State.hearBurst; simp only; repeat' split
  all_goals simp [h]

/-! ## The ends of a transmission -/

@[simp] theorem State.handBack_carried (h : l.Carries s.link) (n : Notice) : l.Carries (s.handBack n).link := by
  rwa [State.handBack_link]

@[simp] theorem State.reoffer_carried (h : l.Carries s.link) (n : Notice) : l.Carries (s.reoffer n).link := by
  unfold State.reoffer
  refine State.offer_carried ?_ n
  exact h

@[simp] theorem State.reofferAlarm_carried (h : l.Carries s.link) (k : AlarmEntry) : l.Carries (s.reofferAlarm k).link := by
  unfold State.reofferAlarm; repeat' split
  all_goals simp [h]

@[simp] theorem State.reofferAck_carried (h : l.Carries s.link) (k : AlarmEntry) : l.Carries (s.reofferAck k).link := by
  unfold State.reofferAck; repeat' split
  all_goals simp [h]

theorem State.reofferRetry_carried (n : Nat) (h : l.Carries s.link) : l.Carries (State.reofferRetry n s).link := by
  induction n generalizing s with
  | zero => exact h
  | succ n ih =>
    unfold State.reofferRetry; split
    · exact h
    · exact ih (by simp [h])

@[simp] theorem State.room_carried (h : l.Carries s.link) : l.Carries s.room.link :=
  State.reofferRetry_carried _ (foldl_carried (fun _ k h => State.reofferAck_carried (State.reofferAlarm_carried h k) k) _ h)

@[simp] theorem State.unqueue_carried (h : l.Carries s.link) (f : QFrame) : l.Carries (s.unqueue f).link :=
  h.trans (.of_sublist List.filter_sublist id rfl)

@[simp] theorem State.afterSending_carried (h : l.Carries s.link) : l.Carries s.afterSending.link :=
  h.trans (.of_keys rfl rfl rfl)

end

end Sys2Proof.Machine
end

section
/-! PROOFS. The ends of a transmission: collisions (R15, R17) and clean sendings (R16). -/

namespace Sys2Proof.Machine

/-! ## Hand-backs and re-offers that do nothing (R12, R137, R138) -/

/-- R12: only alarm traffic is handed back. -/
theorem State.handBack_plain {s : State} {n : Notice} (h : n.cls ≠ 0) : s.handBack n = s := by
  cases n <;> simp [Notice.cls] at h <;> rfl

/-- The alarm unit holds nothing to offer again. -/
def Alarms.published (a : Alarms) : Prop := ∀ e ∈ a.all, e.unpublished = false ∧ e.ackUnpublished = false

theorem State.mem_of_findAlarm {s : State} {o ch : Nat} {c : AlarmCode} {e : AlarmEntry} (h : s.findAlarm o c ch = some e) :
    e ∈ s.alarms.all := List.mem_of_find?_eq_some h

theorem State.reofferAlarm_published {s : State} (h : s.alarms.published) (k : AlarmEntry) : s.reofferAlarm k = s := by
  unfold State.reofferAlarm
  split
  · rfl
  · rename_i e he
    simp [(h e (State.mem_of_findAlarm he)).1]

theorem State.reofferAck_published {s : State} (h : s.alarms.published) (k : AlarmEntry) : s.reofferAck k = s := by
  unfold State.reofferAck
  split
  · rfl
  · rename_i e he
    simp [(h e (State.mem_of_findAlarm he)).2]

/-- R138: with no entry flagged the retry list alone is offered. -/
theorem State.room_published {s : State} (h : s.alarms.published) : s.room = s.reofferRetry s.alarms.retry.length := by
  have entries (as : List AlarmEntry) : as.foldl (fun t k => (t.reofferAlarm k).reofferAck k) s = s := by
    induction as with
    | nil => rfl
    | cons k as ih => rw [List.foldl_cons, State.reofferAlarm_published h, State.reofferAck_published h, ih]
  unfold State.room
  rw [entries]

theorem State.room_nothing {s : State} (h : s.alarms.published) (hr : s.alarms.retry = []) : s.room = s := by
  rw [State.room_published h, hr]; rfl

/-! ## Collisions (R15, R17) -/

/-- R15: a frame with its attempt counted. -/
def QFrame.struck (f q : QFrame) : QFrame := if q.entry = f.entry then { q with attempts := q.attempts + 1 } else q

theorem QFrame.struck_key (f q : QFrame) : (f.struck q).key = q.key := by
  unfold QFrame.struck; split <;> rfl

theorem QFrame.struck_entry (f q : QFrame) : (f.struck q).entry = q.entry := congrArg Prod.snd (f.struck_key q)

/-- R15: the link with a collision of the frame on the medium counted. -/
def Link.struck (l : Link) (f : QFrame) : Link :=
  { l with counters := { l.counters with collisions := up16 l.counters.collisions }
           window := min 64 (2 * l.window), queue := l.queue.map f.struck }

/-- R17: the link with the frame on the medium given up. -/
def Link.gaveUp (l : Link) (f : QFrame) : Link :=
  { l with counters := { l.counters with exhaustionDiscards := up16 l.counters.exhaustionDiscards }
           queue := l.queue.filter (·.entry != f.entry), window := 4, discardsInRow := min 4 (l.discardsInRow + 1) }

theorem Link.struck_carries (l : Link) (f : QFrame) : l.Carries (l.struck f) := by
  have keys : (l.queue.map f.struck).map QFrame.key = l.queue.map QFrame.key := by
    rw [List.map_map]
    exact List.map_congr_left fun q _ => f.struck_key q
  have marked : l.Carries { l with queue := l.queue.map f.struck } := .of_keys keys rfl rfl
  refine marked.trans (.of_sublist (List.Sublist.refl _) (fun w => ?_) rfl)
  change min 64 (2 * l.window) ∈ _
  simp only [List.mem_cons, List.not_mem_nil, or_false] at w ⊢
  omega

theorem Link.gaveUp_carries (l : Link) (f : QFrame) : l.Carries (l.gaveUp f) :=
  .of_sublist List.filter_sublist (fun _ => by simp [Link.gaveUp]) rfl

/-- R15, R17: the link after the collision that gives the frame on the medium up. -/
theorem Link.struck_gaveUp (l : Link) (f : QFrame) : (l.struck f).gaveUp f =
    { l with
      counters := { l.counters with collisions := up16 l.counters.collisions
                                    exhaustionDiscards := up16 l.counters.exhaustionDiscards }
      queue := l.queue.filter (·.entry != f.entry), window := 4, discardsInRow := min 4 (l.discardsInRow + 1) } := by
  have other (q : QFrame) (h : (q.entry != f.entry) = true) : f.struck q = q := by
    simp only [bne_iff_ne, ne_eq] at h
    simp [QFrame.struck, h]
  have test : (fun q : QFrame => q.entry != f.entry) ∘ f.struck = fun q => q.entry != f.entry :=
    funext fun q => by simp only [Function.comp, QFrame.struck_entry]
  have left : (l.queue.map f.struck).filter (·.entry != f.entry) = l.queue.filter (·.entry != f.entry) := by
    rw [List.filter_map, test]
    exact (List.map_congr_left fun q hq => other q (List.mem_filter.1 hq).2).trans (List.map_id _)
  simp only [Link.gaveUp, Link.struck, left]

section
variable {s : State} {f : QFrame}

theorem State.collide_again (h : s.sendingFrame = some f) (ha : f.attempts < 7) :
    s.collide = State.afterSending { s with link := s.link.struck f } := by
  unfold State.collide
  rw [h]
  simp only [show ¬ 8 ≤ f.attempts + 1 by omega, if_false]
  rfl

theorem State.collide_eighth (h : s.sendingFrame = some f) (ha : 7 ≤ f.attempts) :
    s.collide = (State.discard { s with link := s.link.struck f } f).afterSending := by
  unfold State.collide
  rw [h]
  simp only [show 8 ≤ f.attempts + 1 by omega, if_true]
  rfl

theorem State.discard_few (h : s.link.discardsInRow < 3) :
    s.discard f = (State.handBack { s with link := s.link.gaveUp f } f.notice).room := by
  unfold State.discard
  extract_lets s1 n link s2 s3
  have h3 : s3 = s2 := if_neg (by omega)
  rw [h3]
  rfl

theorem State.discard_many (h : 3 ≤ s.link.discardsInRow) :
    s.discard f = ((State.setExhaustion { s with link := s.link.gaveUp f }).handBack f.notice).room := by
  unfold State.discard
  extract_lets s1 n link s2 s3
  have h3 : s3 = s2.setExhaustion := if_pos (by omega)
  rw [h3]
  rfl

@[simp] theorem State.afterSending_still : s.afterSending.still = s.still := rfl

/-- R18: the exhaustion cause, set. -/
theorem State.setExhaustion_frame (s : State) :
    s.setExhaustion.still = { s.still with exhaustionCause := true } := by
  unfold State.setExhaustion; simp only; repeat' split
  · rename_i h; simp [State.still, h]
  all_goals rfl

/-- R18: the exhaustion cause, ended. -/
theorem State.clearExhaustion_frame (s : State) :
    s.clearExhaustion.still = { s.still with exhaustionCause := false } := by
  unfold State.clearExhaustion; simp only; repeat' split
  · rfl
  · rfl
  · rename_i h; simp [State.still, h]

/-- R17: the parts that a discard leaves alone. -/
theorem State.discard_still (s : State) (f : QFrame) : (s.discard f).still =
    { State.still { s with link := s.link.gaveUp f } with
      exhaustionCause := s.link.exhaustionCause || decide (3 ≤ s.link.discardsInRow) } := by
  by_cases h : 3 ≤ s.link.discardsInRow
  · rw [State.discard_many h, State.room_still, State.handBack_still, State.setExhaustion_frame]
    simp [h]
  · rw [State.discard_few (by omega), State.room_still, State.handBack_still]
    simp [h, State.still, Link.gaveUp]

theorem State.discard_carries (s : State) (f : QFrame) : (s.link.gaveUp f).Carries (s.discard f).link := by
  have given : (s.link.gaveUp f).Carries (State.link { s with link := s.link.gaveUp f }) := .refl _
  by_cases h : 3 ≤ s.link.discardsInRow
  · rw [State.discard_many h]
    exact State.room_carried (State.handBack_carried (State.setExhaustion_carried given) _)
  · rw [State.discard_few (by omega)]
    exact State.room_carried (State.handBack_carried given _)

/-- R17: the parts that the eighth collision leaves alone. -/
theorem State.collide_eighth_still (h : s.sendingFrame = some f) (ha : 7 ≤ f.attempts) : s.collide.still =
    { State.still { s with link := (s.link.struck f).gaveUp f } with
      exhaustionCause := s.link.exhaustionCause || decide (3 ≤ s.link.discardsInRow) } := by
  rw [State.collide_eighth h ha, State.afterSending_still]
  exact State.discard_still { s with link := s.link.struck f } f

theorem State.collide_eighth_carries (h : s.sendingFrame = some f) (ha : 7 ≤ f.attempts) :
    ((s.link.struck f).gaveUp f).Carries s.collide.link := by
  rw [State.collide_eighth h ha]
  exact State.afterSending_carried (State.discard_carries { s with link := s.link.struck f } f)

theorem State.collide_carries (s : State) : s.link.Carries s.collide.link := by
  cases h : s.sendingFrame with
  | none => simp only [State.collide, h]; exact .refl _
  | some f =>
    have struck := s.link.struck_carries f
    rcases Nat.lt_or_ge f.attempts 7 with ha | ha
    · rw [State.collide_again h ha]
      exact State.afterSending_carried struck
    · exact struck.trans ((Link.gaveUp_carries _ f).trans (State.collide_eighth_carries h ha))

/-- R16, R17: a frame that has left the queue does not come back. -/
theorem Link.Carries.absent {l m : Link} (c : l.Carries m) {k : Nat} (h : ∀ q ∈ l.queue, q.entry ≠ k)
    (hk : k < l.entryCount) : ∀ q ∈ m.queue, q.entry ≠ k := by
  intro q hq e
  rcases c.entries q hq with ⟨g, hg, eg⟩ | hc
  · exact h g hg (eg.trans e)
  · omega

theorem mem_without {q : List QFrame} {k : Nat} : ∀ g ∈ q.filter (·.entry != k), g.entry ≠ k := fun g hg => by
  simpa using (List.mem_filter.1 hg).2

theorem exec_collision (h : s.calm) (ha : s.link.access = .sending) :
    exec .collision s = .next s.begun.collide.settle := by
  have hb : s.begun.link.access = .sending := ha
  simp only [exec, execCollision, State.takeEvent_live _ h.1]
  exact congrArg _ (congrArg _ (if_pos hb))

/-- Settles O25: the attempt that is counted, the eighth through what a discard leaves alone and carries on, and the quiet eighth
through the hand-back and the room that do nothing. -/
theorem collisionsWidenTheWindow : Obligations.CollisionsWidenTheWindow := by
  refine fun s f hs ha hf => ⟨fun few => ?_, fun many => ?_, fun many plain lone retry flags => ?_⟩
  · have hb : s.begun.collide = _ := State.collide_again (s := s.begun) hf few
    have quiet : (State.afterSending { s.begun with link := s.begun.link.struck f }).agenda = [] := hs.2
    rw [exec_collision hs ha, hb, State.settle_nil quiet]
    simp only [State.afterSending, Link.struck, List.isEmpty_map]
    rfl
  · have carried := State.settle_carried (State.collide_eighth_carries (s := s.begun) hf many)
    have kept := (State.settle_still s.begun.collide).trans (State.collide_eighth_still (s := s.begun) hf many)
    refine ⟨_, exec_collision hs ha, ?_⟩
    generalize s.begun.collide.settle = t at carried kept ⊢
    refine ⟨congrArg Still.contention kept, fun hc => carried.absent ?_ hc, ?_, ?_, congrArg Still.discardsInRow kept,
      congrArg Still.exhaustionCause kept, congrArg Still.picture kept, congrArg Still.fields kept, congrArg Still.nv kept⟩
    · exact mem_without
    · exact congrArg (fun k => k.received.getD 8 0) kept
    · exact congrArg (fun k => k.received.getD 9 0) kept
  · have hb : s.begun.collide = _ := State.collide_eighth (s := s.begun) hf many
    have gone : State.discard { s.begun with link := s.link.struck f } f =
        { s.begun with link := (s.link.struck f).gaveUp f } := by
      refine (State.discard_few (s := { s.begun with link := s.link.struck f }) lone).trans ?_
      refine (congrArg State.room (State.handBack_plain plain)).trans ?_
      exact State.room_nothing flags retry
    have quiet : (State.afterSending { s.begun with link := (s.link.struck f).gaveUp f }).agenda = [] := hs.2
    have row : min 4 (s.link.discardsInRow + 1) = s.link.discardsInRow + 1 := by omega
    rw [exec_collision hs ha, hb]
    refine congrArg Host.Outcome.next ((congrArg (fun t => (State.afterSending t).settle) gone).trans ?_)
    rw [State.settle_nil quiet, Link.struck_gaveUp, row]
    rfl

/-! ## Clean sendings (R16) -/

/-- R16: the link with the frame on the medium sent. -/
def Link.delivered (l : Link) (f : QFrame) : Link :=
  { l with counters := { l.counters with sent := up16 l.counters.sent }
           queue := l.queue.filter (·.entry != f.entry), window := 4, discardsInRow := 0 }

theorem Link.delivered_carries (l : Link) (f : QFrame) : l.Carries (l.delivered f) :=
  .of_sublist List.filter_sublist (fun _ => by simp [Link.delivered]) rfl

theorem State.sent_frame (h : s.sendingFrame = some f) :
    s.sent = (State.clearExhaustion { s with link := s.link.delivered f }).room.afterSending := by
  unfold State.sent
  rw [h]
  rfl

/-- R16: the parts that a clean sending leaves alone. -/
theorem State.sent_still (h : s.sendingFrame = some f) :
    s.sent.still = { State.still { s with link := s.link.delivered f } with exhaustionCause := false } := by
  rw [State.sent_frame h, State.afterSending_still, State.room_still]
  exact State.clearExhaustion_frame { s with link := s.link.delivered f }

theorem State.sent_carries (s : State) : s.link.Carries s.sent.link := by
  cases h : s.sendingFrame with
  | none => simp only [State.sent, h]; exact .refl _
  | some f =>
    rw [State.sent_frame h]
    exact State.afterSending_carried (State.room_carried (State.clearExhaustion_carried (s.link.delivered_carries f)))

theorem State.clearExhaustion_unset (h : s.link.exhaustionCause = false) : s.clearExhaustion = s := by
  simp [State.clearExhaustion, h]

theorem exec_sentCleanly (h : s.calm) (ha : s.link.access = .sending) :
    exec .sentCleanly s = .next s.begun.sent.settle := by
  have hb : s.begun.link.access = .sending := ha
  simp only [exec, execSentCleanly, State.takeEvent_live _ h.1]
  exact congrArg _ (congrArg _ (if_pos hb))

/-- Settles O26: the parts that a clean sending leaves alone, and the room signal that does nothing. -/
theorem cleanSendingEndsTheFrame : Obligations.CleanSendingEndsTheFrame := by
  intro s f hs ha hf
  refine ⟨⟨_, exec_sentCleanly hs ha, ?_⟩, fun unset retry flags => ?_⟩
  · have kept := (State.settle_still s.begun.sent).trans (State.sent_still (s := s.begun) hf)
    generalize s.begun.sent.settle = t at kept ⊢
    exact ⟨congrArg Still.contention kept, congrArg Still.discardsInRow kept, congrArg Still.exhaustionCause kept,
      congrArg (fun k => k.received.getD 7 0) kept, congrArg Still.picture kept, congrArg Still.fields kept,
      congrArg Still.nv kept⟩
  · have gone : (State.clearExhaustion { s.begun with link := s.link.delivered f }).room =
        { s.begun with link := s.link.delivered f } := by
      have kept := State.clearExhaustion_unset (s := { s.begun with link := s.link.delivered f }) unset
      refine (congrArg State.room kept).trans ?_
      exact State.room_nothing flags retry
    have quiet : (State.afterSending { s.begun with link := s.link.delivered f }).agenda = [] := hs.2
    have sent : s.begun.sent = _ := State.sent_frame (s := s.begun) hf
    rw [exec_sentCleanly hs ha, sent]
    refine congrArg Host.Outcome.next ((congrArg (fun t => (State.afterSending t).settle) gone).trans ?_)
    rw [State.settle_nil quiet]
    rfl

end

end Sys2Proof.Machine
end

section
/-! PROOFS. Every command keeps the transmit queue legal and in order (R9, R14 to R17). -/

namespace Sys2Proof.Machine

/-! ## The starts -/

section
variable (s : State)

@[simp] theorem State.kickStream_link : s.kickStream.link = s.link := link_of_wire s.kickStream_wire

@[simp] theorem State.writeLatch_link (o : Fin 8) (n : Nat) : (s.writeLatch o n).link = s.link :=
  link_of_wire (s.writeLatch_wire o n)

theorem State.mapOutput_link (o : Fin 8) : (s.mapOutput o).link = s.link := by
  unfold State.mapOutput; simp only; split
  · rfl
  · rw [State.writeLatch_link]; rfl

theorem State.readOtp_link (line : Bool) : (s.readOtp line).link = s.link := State.kickStream_link _

theorem State.acceptImage_carries (img : List Byte) : s.link.Carries (s.acceptImage img).link := by
  unfold State.acceptImage
  extract_lets g slots heat fields chan s1 chan' s2 s3 s4
  have h3 : s3.link = s.link := foldl_link _ State.mapOutput_link _ _
  clear_value s3
  have h4 : s4.link = s.link := by
    simp only [s4]; split
    · exact h3
    · exact h3
  clear_value s4
  exact State.settle_carried (h4 ▸ .refl _)

theorem State.repairChain_link (e : Fin 32) : (s.repairChain e).link = s.link := by
  unfold State.repairChain; simp only; repeat' split
  all_goals rfl

theorem State.orphanGranule_link (c : List (Fin 128)) (g : Fin 128) : (State.orphanGranule c s g).link = s.link := by
  unfold State.orphanGranule; split <;> rfl

theorem State.scanFile_link (e : Fin 32) : (s.scanFile e).link = s.link := by
  unfold State.scanFile; simp only; repeat' split
  all_goals rfl

theorem State.startScan_link : s.startScan.link = s.link := by
  unfold State.startScan
  simp only
  rw [foldl_link _ State.scanFile_link, foldl_link _ fun t g => State.orphanGranule_link t _ g,
    foldl_link _ State.repairChain_link]

theorem State.enterNext_link : s.enterNext.link = s.link := by
  unfold State.enterNext; simp only; repeat' split
  · rw [State.runStore_link]
  · rw [State.runStore_link]
  · rw [State.runStore_link, foldl_link _ State.takeReport_link]

/-- R20: a start leaves what the link's values carry on. -/
theorem State.start_carries (line strap : Bool) : Link.Carries {} (s.start line strap).link := by
  unfold State.start
  extract_lets s1 a s2 s3
  have h2 : s2.link = {} := State.readOtp_link _ _
  have h3 : Link.Carries {} s3.link := by
    simp only [s3]; split
    · exact h2 ▸ .refl _
    · exact h2 ▸ State.acceptImage_carries s2 _
  refine State.settle_carried ?_
  rwa [State.enterNext_link, State.startScan_link]

/-- R14, R15: the attempt on the medium is counted as RUN is left. -/
theorem State.leaveRun_carries : s.link.Carries s.leaveRun.link := by
  have left (u : State) : u.link.Carries { u.link with access := .idle, backoff := 0, sendingEntry := none } :=
    .of_keys rfl rfl rfl
  unfold State.leaveRun
  refine Link.Carries.trans ?_ (left _)
  split
  · exact State.collide_carries { s with station := .start }
  · exact .refl _

end

/-! ## Events and commands -/

/-- Between two states of the link the transmit queue stays legal and in order. -/
structure Link.Safe (l m : Link) : Prop where
  legal : l.legal = true → m.legal = true
  ordered : l.ordered → m.ordered

theorem Link.Carries.safe {l m : Link} (h : l.Carries m) : l.Safe m := ⟨h.legal, h.ordered⟩

/-- R20: the link's values at a start are legal and in order. -/
theorem Link.Carries.safe_of_empty {l m : Link} (h : Link.Carries {} m) : l.Safe m :=
  ⟨fun _ => h.legal rfl, fun _ => h.ordered ⟨.nil, .nil, fun _ hf => nomatch hf⟩⟩

theorem State.takeEvent_carries (s : State) (f : State → State) (h : s.link.Carries (f s.begun).link) :
    s.link.Carries (s.takeEvent f).link := by
  unfold State.takeEvent; split
  · exact State.settle_carried h
  · exact .refl _

/-- R9, R14: a command's meaning keeps the transmit queue legal and in order. -/
def KeepsLink (c : Instr) : Prop := ∀ s : State, ∃ t, exec c s = .next t ∧ s.link.Safe t.link

/-- A command that is an event. -/
theorem safe_of_event {c : Instr} {f : State → State} (hc : ∀ s, exec c s = .next (s.takeEvent f))
    (h : ∀ t : State, t.link.Carries (f t).link) : KeepsLink c :=
  fun s => ⟨_, hc s, (s.takeEvent_carries f (h s.begun)).safe⟩

/-- A command that is an event which leaves the link alone. -/
theorem safe_of_link {c : Instr} {f : State → State} (hc : ∀ s, exec c s = .next (s.takeEvent f))
    (h : ∀ t : State, (f t).link = t.link) : KeepsLink c :=
  safe_of_event hc fun t => h t ▸ .refl _

/-- A command that is an event of the slots. -/
theorem safe_of_voiced {c : Instr} {f : State → State} (hc : ∀ s, exec c s = .next (s.takeEvent f))
    (h : ∀ t : State, Voiced t t → Voiced t (f t)) : KeepsLink c :=
  safe_of_event hc fun t => (h t (.refl t)).carries

/-! ### The starts and the link -/

theorem keepsLink_powerOnStart (b : Bool) : KeepsLink (.powerOnStart b) :=
  fun _ => ⟨_, rfl, (State.start_carries _ _ _).safe_of_empty⟩

theorem keepsLink_resetAsserted : KeepsLink .resetAsserted := by
  refine fun s => ⟨_, rfl, ?_⟩
  split
  · exact s.leaveRun_carries.safe
  · exact (Link.Carries.refl _).safe

theorem keepsLink_lineRestart (b : Bool) : KeepsLink (.lineRestart b) := by
  refine fun s => ⟨_, rfl, ?_⟩
  split
  · exact (State.start_carries _ _ _).safe_of_empty
  · exact (Link.Carries.refl _).safe

theorem keepsLink_supplyFailure (w : Option Nat) : KeepsLink (.supplyFailure w) := by
  refine fun s => ⟨_, rfl, ?_⟩
  split
  · exact (Link.Carries.refl {}).safe_of_empty
  · exact (Link.Carries.refl _).safe

theorem keepsLink_listenTimerExpiry : KeepsLink .listenTimerExpiry := by
  refine safe_of_event (fun _ => rfl) fun t => ?_
  split
  · exact .refl _
  · exact State.enterRun_carried (s := t.reach _) (.refl _)

theorem keepsLink_duplicateTimerExpiry : KeepsLink .duplicateTimerExpiry := by
  refine safe_of_event (fun _ => rfl) fun t => ?_
  split
  · exact .refl _
  · exact .of_keys rfl rfl rfl

theorem keepsLink_silenceTimerExpiry : KeepsLink .silenceTimerExpiry := by
  refine safe_of_event (fun _ => rfl) fun t => ?_
  split
  · exact .refl _
  · refine State.setSilence_carried ?_
    exact .of_keys rfl rfl rfl

theorem keepsLink_collision : KeepsLink .collision := by
  refine safe_of_event (fun _ => rfl) fun t => ?_
  split
  · exact t.collide_carries
  · exact .refl _

theorem keepsLink_sentCleanly : KeepsLink .sentCleanly := by
  refine safe_of_event (fun _ => rfl) fun t => ?_
  split
  · exact t.sent_carries
  · exact .refl _

/-! ### The floor picture, the alarm unit and the accountant -/

theorem keepsLink_staleTimeExpiry (n ch : Nat) : KeepsLink (.staleTimeExpiry n ch) := by
  refine safe_of_link (fun _ => rfl) fun t => ?_
  repeat' split
  all_goals rfl

theorem keepsLink_lostTimeExpiry (n ch : Nat) : KeepsLink (.lostTimeExpiry n ch) := by
  refine safe_of_link (fun _ => rfl) fun t => ?_
  split
  · rfl
  · rw [State.removePeer_link, State.reach_link]

theorem keepsLink_lossHoldExpiry : KeepsLink .lossHoldExpiry := by
  refine safe_of_link (fun _ => rfl) fun t => ?_
  split <;> rfl

theorem keepsLink_stationAbsent (n : Nat) : KeepsLink (.stationAbsent n) := by
  refine safe_of_event (fun _ => rfl) fun t => ?_
  repeat' split
  · exact .refl _
  · exact State.goAbsent_carried (s := t.reach _) (.refl _) n
  · exact .refl _

theorem keepsLink_take : KeepsLink .take := by
  refine safe_of_event (fun _ => rfl) fun t => ?_
  repeat' split
  · exact .refl _
  · exact State.originate_carried (.refl _)
  · exact .refl _
  · exact .refl _

theorem keepsLink_refreshTimerExpiry : KeepsLink .refreshTimerExpiry := by
  refine safe_of_event (fun _ => rfl) fun t => ?_
  split
  · exact .refl _
  · exact State.refreshOrder_carried (s := t.reach _) (.refl _)

theorem State.zeroFeeds_wire (s : State) : s.zeroFeeds.wire = s.wire := by
  refine foldl_wire _ (fun t o => ?_) _ _
  split
  · exact t.writeLatch_wire o 0
  · rfl

theorem keepsLink_tripLineObserved (b : Bool) : KeepsLink (.tripLineObserved b) := by
  have observe (u : State) : Voiced u (if b then u.zeroFeeds.evalTrips.eachSlot State.interrupt else u.evalTrips) := by
    split
    · refine eachSlot_voiced (fun _ i h => State.interrupt_voiced h i) (State.evalTrips_voiced ?_)
      exact (voiced_congr u.zeroFeeds_wire).2 (.refl u)
    · exact State.evalTrips_voiced (.refl u)
  refine safe_of_event (fun _ => rfl) fun t => ?_
  extract_lets a u v
  have observed : t.link.Carries v.link := (observe u).carries
  clear_value v
  by_cases same : t.alarms.observed = b
  · rw [if_pos same]; exact .refl _
  · rw [if_neg same]
    by_cases bare : v.cfg.isNone = true
    · rwa [if_pos bare]
    · rwa [if_neg bare]

theorem keepsLink_silence : KeepsLink .silence := by
  refine safe_of_link (fun _ => rfl) fun t => ?_
  split <;> rfl

theorem keepsLink_shiftTimerExpiry : KeepsLink .shiftTimerExpiry := by
  refine safe_of_event (fun _ => rfl) fun t => ?_
  split
  · exact .refl _
  · exact State.closeByTimer_carried (s := t.reach _) (.refl _)

theorem keepsLink_collationTimerExpiry : KeepsLink .collationTimerExpiry := by
  refine safe_of_link (fun _ => rfl) fun t => ?_
  split
  · rfl
  · rw [State.endCollation_link, State.reach_link]

/-! ### The control update, the inputs and the slots -/

theorem keepsLink_controlUpdate : KeepsLink .controlUpdate := by
  refine safe_of_event (fun _ => rfl) fun t => ?_
  split
  · exact .refl _
  · exact State.updateExpires_carried (.refl _) _

theorem keepsLink_startTimerExpiry (i : Fin 4) : KeepsLink (.startTimerExpiry i) := by
  refine safe_of_voiced (fun _ => rfl) fun t v => State.onCf_voiced v fun c => ?_
  simp only; repeat' split
  all_goals simp [v]

theorem keepsLink_freshTimeExpiry (k : Fin 16) : KeepsLink (.freshTimeExpiry k) := by
  refine safe_of_link (fun _ => rfl) fun t => ?_
  split <;> rfl

theorem keepsLink_holdTimeExpiry (k : Fin 16) : KeepsLink (.holdTimeExpiry k) := by
  refine safe_of_event (fun _ => rfl) fun t => ?_
  split
  · exact .refl _
  · exact State.holdExpires_carried (s := t.reach _) (.refl _) k

theorem keepsLink_runPermitEdge (i : Fin 4) (b : Bool) : KeepsLink (.runPermitEdge i b) := by
  refine safe_of_voiced (fun _ => rfl) fun t v => ?_
  have u : Voiced t { t with fields := { t.fields with permits := t.fields.permits.set i b } } :=
    ⟨v.carries, v.alarms⟩
  simp only; repeat' split
  all_goals simp [v, u]

theorem keepsLink_initialLevel (line : InputLine) (b : Bool) : KeepsLink (.initialLevel line b) := by
  refine safe_of_voiced (fun _ => rfl) fun t v => ?_
  repeat' split
  case h_1 => exact ⟨v.carries, v.alarms⟩
  all_goals simp [v]

theorem keepsLink_driveWord : KeepsLink .driveWord :=
  safe_of_link (fun _ => rfl) fun _ => State.kickStream_link _

theorem keepsLink_driveRefreshTimerExpiry : KeepsLink .driveRefreshTimerExpiry := by
  refine safe_of_link (fun _ => rfl) fun t => ?_
  split
  · rfl
  · exact State.kickStream_link _

theorem keepsLink_phaseTimerExpiry (i : Fin 4) : KeepsLink (.phaseTimerExpiry i) := by
  refine safe_of_voiced (fun _ => rfl) fun t v => State.onDi_voiced v fun d => ?_
  split <;> simp [v]

theorem keepsLink_jamClear (i : Fin 4) : KeepsLink (.jamClear i) := by
  refine safe_of_voiced (fun _ => rfl) fun t v => State.onDi_voiced v fun d => ?_
  split <;> simp [v]

theorem keepsLink_divertTimerExpiry (i : Fin 4) : KeepsLink (.divertTimerExpiry i) := by
  refine safe_of_voiced (fun _ => rfl) fun t v => State.onDi_voiced v fun d => ?_
  split <;> simp [v]

/-! ### Every command and every step -/

/-- R9, R14: every command keeps the transmit queue legal and in order. -/
theorem exec_safe : ∀ c : Instr, KeepsLink c
  | .powerOnStart b => keepsLink_powerOnStart b
  | .resetAsserted => keepsLink_resetAsserted
  | .lineRestart b => keepsLink_lineRestart b
  | .listenTimerExpiry => keepsLink_listenTimerExpiry
  | .frameReceived b => safe_of_event (fun _ => rfl) fun _ => State.hearBurst_carried (.refl _) b
  | .frameCutShort b => safe_of_event (fun _ => rfl) fun _ => State.hearBurst_carried (.refl _) b
  | .duplicateTimerExpiry => keepsLink_duplicateTimerExpiry
  | .silenceTimerExpiry => keepsLink_silenceTimerExpiry
  | .quietGap => safe_of_event (fun _ => rfl) fun _ => State.mediumQuiet_carried (.refl _)
  | .backoffSlot => safe_of_event (fun _ => rfl) fun _ => State.countSlot_carried (.refl _)
  | .defer => safe_of_event (fun _ => rfl) fun _ => State.mediumBusy_carried (.refl _)
  | .collision => keepsLink_collision
  | .sentCleanly => keepsLink_sentCleanly
  | .staleTimeExpiry n ch => keepsLink_staleTimeExpiry n ch
  | .lostTimeExpiry n ch => keepsLink_lostTimeExpiry n ch
  | .lossHoldExpiry => keepsLink_lossHoldExpiry
  | .stationAbsent n => keepsLink_stationAbsent n
  | .take => keepsLink_take
  | .refreshTimerExpiry => keepsLink_refreshTimerExpiry
  | .controlUpdate => keepsLink_controlUpdate
  | .startTimerExpiry i => keepsLink_startTimerExpiry i
  | .sampleWord k n b => safe_of_event (fun _ => rfl) fun _ => State.takeWord_carried (.refl _) k n.toNat b
  | .freshTimeExpiry k => keepsLink_freshTimeExpiry k
  | .holdTimeExpiry k => keepsLink_holdTimeExpiry k
  | .runPermitEdge i b => keepsLink_runPermitEdge i b
  | .gateConfirmation i w b => safe_of_voiced (fun _ => rfl) fun _ v => State.confirm_voiced v i w b
  | .phaseTimerExpiry i => keepsLink_phaseTimerExpiry i
  | .jamClear i => keepsLink_jamClear i
  | .divertTimerExpiry i => keepsLink_divertTimerExpiry i
  | .driveWord => keepsLink_driveWord
  | .driveRefreshTimerExpiry => keepsLink_driveRefreshTimerExpiry
  | .tripLineObserved b => keepsLink_tripLineObserved b
  | .acknowledge => safe_of_event (fun _ => rfl) fun _ => State.panelAckAll_carried (.refl _)
  | .silence => keepsLink_silence
  | .shiftTimerExpiry => keepsLink_shiftTimerExpiry
  | .collationTimerExpiry => keepsLink_collationTimerExpiry
  | .programCompletion b => safe_of_link (fun _ => rfl) fun t => t.programEnds_link b
  | .eraseCompletion b => safe_of_link (fun _ => rfl) fun t => t.eraseEnds_link b
  | .status => safe_of_link (fun _ => rfl) fun _ => rfl
  | .ident => safe_of_link (fun _ => rfl) fun t => t.answer_link _
  | .dirEntry _ => safe_of_link (fun _ => rfl) fun t => t.answer_link _
  | .pictureEntry _ => safe_of_link (fun _ => rfl) fun t => t.answer_link _
  | .alarmEntry _ => safe_of_link (fun _ => rfl) fun t => t.answer_link _
  | .channelView _ => safe_of_link (fun _ => rfl) fun t => t.answer_link _
  | .window e m o => safe_of_link (fun _ => rfl) fun t => t.openWindow_link e m o
  | .stream n => safe_of_link (fun _ => rfl) fun t => t.streamUnits_link n
  | .prefetchReadDone => safe_of_link (fun _ => rfl) fun t => t.readEnds_link
  | .writeEnable => safe_of_link (fun _ => rfl) fun t => t.closeWindow_link
  | .configWrite _ _ _ => safe_of_link (fun _ => rfl) fun t => t.areaCommand_link _ _
  | .configErase => safe_of_link (fun _ => rfl) fun t => t.areaCommand_link _ _
  | .configOperationCompletion b => safe_of_link (fun _ => rfl) fun t => t.configCompletes_link b
  | .otpWrite _ _ _ => safe_of_link (fun _ => rfl) fun t => t.areaCommand_link _ _
  | .freeze => safe_of_link (fun _ => rfl) fun t => t.areaCommand_link _ _
  | .otpProgramCompletion b => safe_of_link (fun _ => rfl) fun t => t.otpCompletes_link b
  | .flush => safe_of_link (fun _ => rfl) fun t => t.flushQueue_link
  | .commandDiscarded => safe_of_link (fun _ => rfl) fun _ => rfl
  | .unknownCommand _ => safe_of_link (fun _ => rfl) fun _ => rfl
  | .supplyFailure w => keepsLink_supplyFailure w
  | .initialLevel l b => keepsLink_initialLevel l b

theorem idle_safe (s : State) : ∃ t, idle s = .next t ∧ s.link.Safe t.link := by
  have same : s.link.Safe s.link := (Link.Carries.refl _).safe
  unfold idle
  repeat' split
  · exact ⟨_, rfl, same⟩
  · exact exec_safe _ s
  · exact exec_safe _ (s.useFree 1)
  · exact ⟨_, rfl, same⟩

/-- R9, R14: every step keeps the transmit queue legal and in order. -/
theorem step_safe {s t : State} (h : step s = .next t) : s.link.Safe t.link := by
  have steps : ∃ t, step s = .next t ∧ s.link.Safe t.link := by
    unfold step
    split
    · rename_i c rest _
      exact exec_safe c { s with pending := rest }
    · exact idle_safe s
  obtain ⟨u, hu, safe⟩ := steps
  cases hu.symm.trans h
  exact safe

end Sys2Proof.Machine
end

section
/-! PROOFS. The transmit queue as a whole: steps, offers, hand-backs and a freed place (R9 to R12, R137, R138). -/

namespace Sys2Proof.Machine

/-! ## Hand-backs (R12, R137) -/

theorem AlarmCode.ofNumber_number (c : AlarmCode) : AlarmCode.ofNumber c.number = some c := by
  cases c <;> rfl

theorem AlarmEntry.hasKey_iff {e : AlarmEntry} {o ch : Nat} {c : AlarmCode} :
    e.hasKey o c ch = true ↔ e.origin = o ∧ e.code = c ∧ e.channel = ch := by
  simp [AlarmEntry.hasKey, and_assoc]

theorem State.hasKey_of_findAlarm {s : State} {o ch : Nat} {c : AlarmCode} {e : AlarmEntry}
    (h : s.findAlarm o c ch = some e) : e.hasKey o c ch = true :=
  List.find?_some (p := fun e : AlarmEntry => e.hasKey o c ch) h

/-- An entry's new content stands in the place of the entry of its key. -/
theorem Alarms.replace_all (a : Alarms) (e : AlarmEntry) :
    (a.replace e).all = a.all.map fun f => if f.hasKey e.origin e.code e.channel then e else f := by
  unfold Alarms.replace Alarms.all
  cases a.flood <;> simp

/-- An entry's new content is what its key finds. -/
theorem State.findAlarm_replace {s : State} {o ch : Nat} {c : AlarmCode} {e f : AlarmEntry} (h : s.findAlarm o c ch = some e)
    (hf : f.hasKey o c ch = true) : State.findAlarm { s with alarms := s.alarms.replace f } o c ch = some f := by
  have he := State.hasKey_of_findAlarm h
  obtain ⟨rfl, rfl, rfl⟩ := AlarmEntry.hasKey_iff.1 hf
  have same : (fun g : AlarmEntry => g.hasKey f.origin f.code f.channel) ∘
      (fun g => if g.hasKey f.origin f.code f.channel then f else g) = fun g => g.hasKey f.origin f.code f.channel := by
    funext g
    by_cases hg : g.hasKey f.origin f.code f.channel = true
    · simp [hg, hf]
    · simp [hg]
  unfold State.findAlarm at h ⊢
  change (s.alarms.replace f).all.find? _ = _
  rw [Alarms.replace_all, List.find?_map, same, h]
  simp [he]

section
variable {s : State} {o ch cls ev : Nat} {c : AlarmCode} {occ : Serial} {e : AlarmEntry}

/-- R137: an alarm notice that an entry still shows is marked on it. -/
theorem State.handBack_alarm_marks (hs : s.station ≠ .startHalt) (he : s.findAlarm s.ownNumber c ch = some e)
    (hn : e.currentNotice = .alarm c.number ch cls ev occ) :
    s.handBack (.alarm c.number ch cls ev occ) = { s with alarms := s.alarms.replace { e with unpublished := true } } := by
  simp [State.handBack, hs, AlarmCode.ofNumber_number, he, hn]

/-- R137: an alarm notice that its entry shows no more is forgotten. -/
theorem State.handBack_alarm_superseded (hs : s.station ≠ .startHalt) (he : s.findAlarm s.ownNumber c ch = some e)
    (hn : e.currentNotice ≠ .alarm c.number ch cls ev occ) :
    s.handBack (.alarm c.number ch cls ev occ) = { s with alarms := s.alarms.supersede } := by
  simp [State.handBack, hs, AlarmCode.ofNumber_number, he, hn]

/-- R137: an acknowledgement notice of the occurrence that an entry shows is marked on it. -/
theorem State.handBack_ack_marks (hs : s.station ≠ .startHalt) (he : s.findAlarm o c ch = some e) (hn : e.occurrence = occ) :
    s.handBack (.ack o c.number ch occ) = { s with alarms := s.alarms.replace { e with ackUnpublished := true } } := by
  simp [State.handBack, hs, AlarmCode.ofNumber_number, he, hn]

end

/-! ## Offers of alarm traffic (R10, R138) -/

/-- R10: alarm traffic coalesces with nothing. -/
theorem Notice.coalescesWith_alarm {n : Notice} (h : n.cls = 0) (f : QFrame) : n.coalescesWith f = false := by
  cases n <;> simp [Notice.cls] at h <;> simp [Notice.coalescesWith]

/-- R8, R15: alarm traffic offered while a frame is on the medium waits in its place. -/
theorem State.offer_sending {s : State} {n : Notice} (hs : s.station = .run) (ha : s.link.access = .sending)
    (hn : n.cls = 0) (hr : s.link.queue.length < 12) : s.offer n = { s with link := s.link.insert n } := by
  have entered := Link.enter_room (fun f _ => Notice.coalescesWith_alarm hn f) hr
  have waits : State.kickAccess { s with link := s.link.insert n } = { s with link := s.link.insert n } :=
    State.kickAccess_busy (.inr ha)
  have heard : ¬(s.station = .startHalt ∨ s.station = .commission) := by simp [hs]
  have free : s.link.access ≠ .backoff := by simp [ha]
  unfold State.offer
  rw [if_neg heard, entered]
  simp only [if_true, if_neg free]
  exact waits

/-- R138: the alarm unit as the one notice of its retry list is offered. -/
def Alarms.retried (a : Alarms) : Alarms :=
  { a with retry := [], counters := { a.counters with reoffers := up16 a.counters.reoffers } }

theorem State.reofferRetry_single {s : State} {n : Notice} (h : s.alarms.retry = [n]) :
    State.reofferRetry s.alarms.retry.length s = State.offer { s with alarms := s.alarms.retried } n := by
  rw [h]
  change State.reofferRetry 1 s = _
  unfold State.reofferRetry
  rw [h]
  rfl

/-- R16, R138: with one notice kept for another try and a frame's clean sending, the notice takes its place in the queue. -/
theorem exec_sentCleanly_retry {s : State} {f : QFrame} {n : Notice} (hs : s.calm) (ha : s.link.access = .sending)
    (hf : s.sendingFrame = some f) (hx : s.link.exhaustionCause = false) (hrun : s.station = .run)
    (hr : s.alarms.retry = [n]) (hn : n.cls = 0) (hp : s.alarms.published) (hroom : (s.link.delivered f).queue.length < 12) :
    exec .sentCleanly s =
      .next (State.afterSending { s.begun with link := (s.link.delivered f).insert n, alarms := s.alarms.retried }) := by
  have freed : State.clearExhaustion { s.begun with link := s.link.delivered f } =
      { s.begun with link := s.link.delivered f } :=
    State.clearExhaustion_unset (s := { s.begun with link := s.link.delivered f }) hx
  have offered : State.room { s.begun with link := s.link.delivered f } =
      { s.begun with link := (s.link.delivered f).insert n, alarms := s.alarms.retried } :=
    calc State.room { s.begun with link := s.link.delivered f }
      _ = State.reofferRetry s.alarms.retry.length { s.begun with link := s.link.delivered f } :=
        State.room_published (s := { s.begun with link := s.link.delivered f }) hp
      _ = State.offer { s.begun with link := s.link.delivered f, alarms := s.alarms.retried } n :=
        State.reofferRetry_single (s := { s.begun with link := s.link.delivered f }) hr
      _ = _ :=
        State.offer_sending (s := { s.begun with link := s.link.delivered f, alarms := s.alarms.retried }) hrun ha hn hroom
  have quiet : (State.afterSending
      { s.begun with link := (s.link.delivered f).insert n, alarms := s.alarms.retried }).agenda = [] := hs.2
  have sent : s.begun.sent = _ := State.sent_frame (s := s.begun) hf
  rw [exec_sentCleanly hs ha, sent, ← State.settle_nil quiet]
  exact congrArg (fun t => Host.Outcome.next (State.afterSending t).settle) ((congrArg State.room freed).trans offered)

/-- Settles O9: the steps by what every command carries on, the offers by the cases of `Link.enter`, the hand-backs by the entry
that their key finds, and the freed place by the one notice that the room signal offers. -/
theorem linkStaysLegal : Obligations.LinkStaysLegal := by
  refine ⟨fun s t hl h => (step_safe h).legal hl, fun s t ho h => (step_safe h).ordered ho, ?_, ?_, ?_, ?_, ?_⟩
  · intro l n front back f hq hfront hf
    have hm : f ∈ l.queue := by simp [hq]
    rw [Link.enter_coalesces hm hf, hq, coalesceInto_append hfront hf]
  · refine fun l n ho hn => ⟨fun hr => ?_, fun f hf hfull hu hc hlast => ?_, fun hfull hkept => ?_⟩
    · rw [Link.enter_room hn hr]
      exact ⟨rfl, rfl, Link.insert_ordered n ho, fun g => Link.mem_insert⟩
    · rw [Link.enter_evicts hn hfull (evictee_last ho.1 hf hu hc hlast)]
      refine ⟨rfl, rfl, Link.insert_ordered n ⟨?_, ?_, ?_⟩, fun g => ?_⟩
      · exact ho.1.sublist List.filter_sublist
      · exact ho.2.1.sublist (List.filter_sublist.map _)
      · exact fun g hg => ho.2.2 g (List.filter_sublist.subset hg)
      · rw [Link.mem_insert]
        exact or_congr_left (mem_unqueued ho.2.1 hf)
    · rw [Link.enter_drops hn hfull (evictee_none hkept)]
  · intro s code ch cls ev occ e hs he
    have key := State.hasKey_of_findAlarm he
    refine ⟨?_, fun hn => State.handBack_alarm_superseded hs he hn⟩
    by_cases hn : e.currentNotice = .alarm code.number ch cls ev occ
    · rw [State.handBack_alarm_marks hs he hn]
      have marked := State.findAlarm_replace (f := { e with unpublished := true }) he key
      simpa [hn] using marked
    · rw [State.handBack_alarm_superseded hs he hn]
      change s.findAlarm s.ownNumber code ch = _
      simpa [hn] using he
  · intro s o ch code occ e hs he hocc
    have key := State.hasKey_of_findAlarm he
    rw [State.handBack_ack_marks hs he hocc]
    exact State.findAlarm_replace (f := { e with ackUnpublished := true }) he key
  · intro s f n hs hl ho ha hf hx hrun hr hn hp
    have hm : f ∈ s.link.queue := by
      unfold State.sendingFrame at hf
      split at hf
      · cases hf
      · exact List.mem_of_find?_eq_some hf
    have hroom : (s.link.delivered f).queue.length < 12 :=
      lt_of_lt_of_le (length_unqueued hm) ((Link.legal_iff _).1 hl).1
    refine ⟨_, exec_sentCleanly_retry hs ha hf hx hrun hr hn hp hroom, rfl, rfl, ?_, fun q hq => ?_⟩
    · exact Link.mem_insert.2 (.inr rfl)
    · rcases Link.mem_insert.1 hq with hq | rfl
      · exact mem_without q hq
      · exact (ho.2.2 f hm).ne'

end Sys2Proof.Machine
end

section
/-! PROOFS. What the alarm table shows under a key, and what the operations on it leave under another (R130, R140). -/

namespace Sys2Proof.Machine

/-! ## What the alarm table shows under a key -/

/-- The station's own number, the alarm table and the flood slot. -/
def State.board (s : State) : Nat × List AlarmEntry × Option AlarmEntry := (s.ownNumber, s.alarms.table, s.alarms.flood)

/-- R130, R140: the flood slot holds the station's own ALARM FLOOD, and under one key the alarm unit's entries are these. -/
structure Shows (own o : Nat) (c : AlarmCode) (ch : Nat) (m : List AlarmEntry) (s : State) : Prop where
  number : s.ownNumber = own
  flood : ∀ e ∈ s.alarms.flood, e.hasKey own .alarmFlood 255 = true
  entries : s.alarms.all.filter (·.hasKey o c ch) = m

section
variable {own o ch : Nat} {c : AlarmCode} {m : List AlarmEntry} {s t : State}

theorem Shows.congr (h : Shows own o c ch m s) (k : t.board = s.board) : Shows own o c ch m t := by
  obtain ⟨hown, htable, hflood⟩ : t.ownNumber = s.ownNumber ∧ t.alarms.table = s.alarms.table ∧
      t.alarms.flood = s.alarms.flood := by simpa [State.board] using k
  refine ⟨hown.trans h.number, hflood ▸ h.flood, ?_⟩
  unfold Alarms.all
  rw [htable, hflood]
  exact h.entries

theorem Shows.findAlarm (h : Shows own o c ch m s) : s.findAlarm o c ch = m.head? := by
  rw [← h.entries, List.head?_filter]
  rfl

theorem board_of_wire (h : t.wire = s.wire) (k : t.still = s.still) : t.board = s.board := by
  have ha := alarms_of_wire h
  have hc : t.cfg = s.cfg := congrArg Still.cfg k
  simp [State.board, State.ownNumber, ha, hc]

/-! ### What leaves the table alone -/

variable (s)

@[simp] theorem State.journal_board (n : Nat) (e : AlarmEntry) (r a l : Nat) : (s.journal n e r a l).board = s.board :=
  board_of_wire (State.append_wire _ _ _ _ _ _) (State.journal_still _ _ _ _ _ _)

@[simp] theorem State.evalTrips_board : s.evalTrips.board = s.board := by
  have ha := (State.evalTrips_voiced (.refl s)).alarms
  have hc : s.evalTrips.cfg = s.cfg := congrArg Still.cfg s.evalTrips_still
  simp [State.board, State.ownNumber, ha, hc]

@[simp] theorem State.forgetRetry_board (e : AlarmEntry) : (s.forgetRetry e).board = s.board := rfl
@[simp] theorem State.postRaise_board (n : Nat) : (s.postRaise n).board = s.board := rfl
@[simp] theorem State.countAlarm_board (f : AlarmCounters → AlarmCounters) : (s.countAlarm f).board = s.board := rfl

@[simp] theorem State.logRaise_board (d : AlarmCode) (n : Nat) : (s.logRaise d n).board = s.board := by
  unfold State.logRaise; simp only; repeat' split
  · rfl
  · exact State.journal_board { s with alarms := _ } _ _ _ _ _
  · exact State.journal_board { s with alarms := _ } _ _ _ _ _

@[simp] theorem State.logClear_board (d : AlarmCode) (n : Nat) : (s.logClear d n).board = s.board := by
  unfold State.logClear; split
  · rfl
  · exact State.journal_board { s with alarms := _ } _ _ _ _ _

@[simp] theorem State.enterBackoff_board : s.enterBackoff.board = s.board := by
  unfold State.enterBackoff; repeat' split
  all_goals rfl

@[simp] theorem State.kickAccess_board : s.kickAccess.board = s.board := by
  unfold State.kickAccess; repeat' split
  · rfl
  · exact s.enterBackoff_board
  · rfl
  · exact s.enterBackoff_board
  · rfl
  · rfl
  · rfl

variable {s}

/-! ### Entries of other keys -/

theorem AlarmEntry.hasKey_other {e f : AlarmEntry} (he : e.hasKey o c ch = false)
    (hf : f.hasKey e.origin e.code e.channel = true) : f.hasKey o c ch = false := by
  obtain ⟨ho, hc, hch⟩ := AlarmEntry.hasKey_iff.1 hf
  simpa [AlarmEntry.hasKey, ho, hc, hch] using he

theorem filter_insertAlarm {e : AlarmEntry} (he : e.hasKey o c ch = false) (t : List AlarmEntry) :
    (insertAlarm e t).filter (·.hasKey o c ch) = t.filter (·.hasKey o c ch) := by
  induction t with
  | nil => simp [insertAlarm, he]
  | cons f t ih =>
    unfold insertAlarm; split
    · simp [List.filter_cons, ih]
    · simp [List.filter_cons, he]

theorem filter_without {e : AlarmEntry} (he : e.hasKey o c ch = false) (t : List AlarmEntry) :
    (t.filter fun f => !f.hasKey e.origin e.code e.channel).filter (·.hasKey o c ch) = t.filter (·.hasKey o c ch) := by
  rw [List.filter_filter]
  refine List.filter_congr fun f _ => ?_
  by_cases hf : f.hasKey e.origin e.code e.channel = true
  · simp [AlarmEntry.hasKey_other he hf, hf]
  · simp [hf]

/-- R140: the flood slot shows nothing under another key. -/
theorem Shows.entries_table (h : Shows own o c ch m s) (hf : (o, c, ch) ≠ (own, .alarmFlood, 255)) :
    s.alarms.table.filter (·.hasKey o c ch) = m := by
  have none : s.alarms.flood.toList.filter (·.hasKey o c ch) = [] := by
    refine List.filter_eq_nil_iff.2 fun e he k => hf ?_
    have hk := AlarmEntry.hasKey_iff.1 k
    have hown := AlarmEntry.hasKey_iff.1 (h.flood e (by simpa using he))
    obtain ⟨rfl, rfl, rfl⟩ := hk
    obtain ⟨h1, h2, h3⟩ := hown
    rw [h1, h2, h3]
  have all := h.entries
  rw [Alarms.all, List.filter_append, none, List.append_nil] at all
  exact all

theorem Shows.of_table (number : s.ownNumber = own) (flood : ∀ e ∈ s.alarms.flood, e.hasKey own .alarmFlood 255 = true)
    (table : s.alarms.table.filter (·.hasKey o c ch) = m) (hf : (o, c, ch) ≠ (own, .alarmFlood, 255)) :
    Shows own o c ch m s := by
  have h : Shows own o c ch _ s := ⟨number, flood, rfl⟩
  exact (h.entries_table hf).symm.trans table ▸ h

section
variable (h : Shows own o c ch m s) (hf : (o, c, ch) ≠ (own, .alarmFlood, 255))
include h hf

theorem Shows.dropAlarm {e : AlarmEntry} (he : e.hasKey o c ch = false) : Shows own o c ch m (s.dropAlarm e) := by
  have table := h.entries_table hf
  unfold State.dropAlarm; split
  · exact .of_table h.number (by simp) table hf
  · exact .of_table h.number h.flood ((filter_without he _).trans table) hf

theorem Shows.placeAlarm {e : AlarmEntry} (he : e.hasKey o c ch = false) : Shows own o c ch m (s.placeAlarm e) := by
  have table := h.entries_table hf
  unfold State.placeAlarm; split
  · rename_i k
    refine .of_table h.number (fun f hfl => ?_) table hf
    obtain rfl : e = f := by simpa using hfl
    exact h.number ▸ k
  · exact .of_table h.number h.flood ((filter_insertAlarm he _).trans ((filter_without he _).trans table)) hf

end

/-- R140: the flood slot's entry keeps its key where entries take new contents. -/
theorem Alarms.replace_flood {a : Alarms} {e : AlarmEntry} (h : ∀ f ∈ a.flood, f.hasKey own .alarmFlood 255 = true) :
    ∀ f ∈ (a.replace e).flood, f.hasKey own .alarmFlood 255 = true := by
  intro f hfl
  obtain ⟨g, hg, rfl⟩ := Option.map_eq_some_iff.1 hfl
  have hkey := h g hg
  split
  · rename_i k
    by_contra other
    have := AlarmEntry.hasKey_other (e := e) (by simpa using other) k
    rw [hkey] at this
    cases this
  · exact hkey

theorem Shows.replace (h : Shows own o c ch m s) {e : AlarmEntry} (he : e.hasKey o c ch = false) :
    Shows own o c ch m { s with alarms := s.alarms.replace e } := by
  refine ⟨h.number, Alarms.replace_flood h.flood, ?_⟩
  have kept (as : List AlarmEntry) : (as.map fun f => if f.hasKey e.origin e.code e.channel then e else f).filter
      (·.hasKey o c ch) = as.filter (·.hasKey o c ch) := by
    induction as with
    | nil => rfl
    | cons f as ih =>
      by_cases hk : f.hasKey e.origin e.code e.channel = true
      · simp [hk, he, AlarmEntry.hasKey_other he hk, ih]
      · simp [List.filter_cons, hk, ih]
  change (s.alarms.replace e).all.filter _ = _
  rw [Alarms.replace_all, kept, h.entries]

theorem Shows.setAlarm (h : Shows own o c ch m s) {e : AlarmEntry} (he : e.hasKey o c ch = false) :
    Shows own o c ch m (s.setAlarm e) := h.replace he

end

end Sys2Proof.Machine
end

section
/-! PROOFS. What the alarm unit's own work leaves under a key of another station: evictions alone (R139). -/

namespace Sys2Proof.Machine

section
variable {own o ch : Nat} {c : AlarmCode} {m : List AlarmEntry} {s t : State}

/-! ## What the alarm unit's work leaves under another key -/

theorem AlarmCode.number_of_ofNumber {n : Nat} {d : AlarmCode} (h : AlarmCode.ofNumber n = some d) : d.number = n := by
  have codes : ∀ i : Fin 21, AlarmCode.all[i.val]?.map AlarmCode.number = some (i.val + 1) := by decide
  unfold AlarmCode.ofNumber at h
  split at h
  · cases h
  · have hlt : n - 1 < 21 := (List.getElem?_eq_some_iff.1 h).1
    have := codes ⟨n - 1, hlt⟩
    simp only [h, Option.map_some, Option.some.injEq] at this
    omega

theorem AlarmCode.number_inj {d e : AlarmCode} (h : d.number = e.number) : d = e := by
  have := congrArg AlarmCode.ofNumber h
  simpa [AlarmCode.ofNumber_number] using this

theorem AlarmEntry.hasKey_false {e : AlarmEntry} (h : (o, c, ch) ≠ (e.origin, e.code, e.channel)) :
    e.hasKey o c ch = false := by
  by_contra k
  obtain ⟨rfl, rfl, rfl⟩ := AlarmEntry.hasKey_iff.1 (by simpa using k)
  exact h rfl

/-- R137: the notice of an own key speaks of no other. -/
theorem Notice.ofKey_alarm {d : AlarmCode} {n : Nat} (hk : (o, c, ch) ≠ (own, d, n)) (cls ev : Nat) (occ : Serial) :
    (Notice.alarm d.number n cls ev occ).ofKey own o c ch = false := by
  by_contra k
  simp only [Notice.ofKey, Bool.not_eq_false, Bool.and_eq_true, beq_iff_eq] at k
  obtain ⟨⟨rfl, hd⟩, rfl⟩ := k
  exact hk (by rw [AlarmCode.number_inj hd])

/-- R137: a notice that is handed back touches the entry of its key alone. -/
theorem Shows.handBack (h : Shows own o c ch m s) {n : Notice} (hn : n.ofKey own o c ch = false) :
    Shows own o c ch m (s.handBack n) := by
  have other {o' ch' k : Nat} {e : AlarmEntry}
      (he : ((AlarmCode.ofNumber k).bind fun d => s.findAlarm o' d ch') = some e)
      (hn : (o' == o && k == c.number && ch' == ch) = false) : e.hasKey o c ch = false := by
    obtain ⟨d, hd, hfind⟩ := Option.bind_eq_some_iff.1 he
    obtain ⟨rfl, rfl, rfl⟩ := AlarmEntry.hasKey_iff.1 (State.hasKey_of_findAlarm hfind)
    refine AlarmEntry.hasKey_false fun same => ?_
    obtain ⟨rfl, rfl, rfl⟩ : o = e.origin ∧ c = e.code ∧ ch = e.channel := by simpa using same
    simp [AlarmCode.number_of_ofNumber hd] at hn
  have push (n : Notice) : Shows own o c ch m { s with alarms := s.alarms.retryPush n } := by
    unfold Alarms.retryPush; split <;> exact h.congr rfl
  unfold State.handBack
  split
  · repeat' split
    · exact h.congr rfl
    · rename_i e he _
      have ek := other he (h.number ▸ hn)
      exact h.replace (e := { e with unpublished := true }) ek
    · exact h.congr rfl
    · exact push _
    · exact h.congr rfl
  · repeat' split
    · exact h.congr rfl
    · rename_i e he _
      have ek := other he hn
      exact h.replace (e := { e with ackUnpublished := true }) ek
    · exact h.congr rfl
    · exact push _
  · exact h

theorem Shows.offer (h : Shows own o c ch m s) {n : Notice} (hn : n.ofKey own o c ch = false) :
    Shows own o c ch m (s.offer n) := by
  have linked (l : Link) : Shows own o c ch m { s with link := l } := h.congr rfl
  unfold State.offer
  extract_lets l r s'
  split
  · exact (linked _).handBack hn
  · repeat' split
    · exact linked _
    · exact (linked _).congr (State.enterBackoff_board _)
    · exact (linked _).congr (State.kickAccess_board _)
    · exact (linked _).handBack hn

section
variable (h : Shows own o c ch m s) (hf : (o, c, ch) ≠ (own, .alarmFlood, 255))
include h hf

theorem Shows.enterNew {e : AlarmEntry} (he : e.hasKey o c ch = false) : Shows own o c ch m (s.enterNew e) :=
  (h.placeAlarm hf he).congr ((State.journal_board { s.placeAlarm e with alarms := _ } _ _ _ _ _).trans rfl)

theorem Shows.enterOwn {d : AlarmCode} {n : Nat} (hk : (o, c, ch) ≠ (own, d, n)) : Shows own o c ch m (s.enterOwn d n) := by
  have he : (s.ownEntry d n).hasKey o c ch = false := AlarmEntry.hasKey_false (by simpa [State.ownEntry, h.number] using hk)
  have counted : Shows own o c ch m { s with alarms := { s.alarms with occurrence := (s.ownEntry d n).occurrence } } :=
    h.congr rfl
  unfold State.enterOwn
  extract_lets e a s1 s2 s3
  have h2 : Shows own o c ch m s2 := (counted.enterNew hf he).congr rfl
  clear_value s2
  have h3 : Shows own o c ch m s3 := by
    simp only [s3]; split
    · exact h2.offer (Notice.ofKey_alarm hk _ _ _)
    · exact h2
  exact h3.congr s3.evalTrips_board

theorem Shows.raiseFlood : Shows own o c ch m s.raiseFlood := by
  unfold State.raiseFlood
  simp only; split
  all_goals
    refine Shows.enterOwn ?_ hf hf
    exact h.congr rfl

theorem Shows.loseRaise : Shows own o c ch m s.loseRaise := by
  have counted : Shows own o c ch m (s.countAlarm fun k => { k with lostRaises := up16 k.lostRaises }) := h.congr rfl
  unfold State.loseRaise
  simp only; repeat' split
  · exact counted.congr (State.logRaise_board _ _ _)
  · exact counted.congr rfl
  · exact counted.raiseFlood hf

theorem Shows.clearEntry {e : AlarmEntry} (ho : e.origin = own) (he : e.hasKey o c ch = false) :
    Shows own o c ch m (s.clearEntry e) := by
  have hk : (o, c, ch) ≠ (own, e.code, e.channel) := fun same => by
    obtain ⟨rfl, rfl, rfl⟩ : o = own ∧ c = e.code ∧ ch = e.channel := by simpa using same
    simp [AlarmEntry.hasKey, ho] at he
  have cleared {u : State} {f : AlarmEntry} (hu : Shows own o c ch m u) (hfk : (o, c, ch) ≠ (own, f.code, f.channel))
      (n r a b : Nat) (g : AlarmEntry) : Shows own o c ch m ((u.journal n g r a b).offerClear f) := by
    have hj : Shows own o c ch m (u.journal n g r a b) := hu.congr (State.journal_board _ _ _ _ _ _)
    unfold State.offerClear; split
    · exact hj.offer (Notice.ofKey_alarm hfk _ _ _)
    · exact hj
  unfold State.clearEntry
  extract_lets lost
  repeat' split
  · refine cleared (h.setAlarm ?_) hk _ _ _ _ _
    exact he
  · exact h
  · refine cleared (h.setAlarm ?_) hk _ _ _ _ _
    exact he
  · exact cleared (h.dropAlarm hf he) hk _ _ _ _ _
  · exact h

theorem Shows.clearKey {d : AlarmCode} {n : Nat} (hk : (o, c, ch) ≠ (own, d, n)) : Shows own o c ch m (s.clearKey d n) := by
  unfold State.clearKey
  split
  · exact h.congr (State.logClear_board _ _ _)
  · split
    · exact h
    · rename_i e he
      obtain ⟨ho, rfl, rfl⟩ := AlarmEntry.hasKey_iff.1 (State.hasKey_of_findAlarm he)
      rw [h.number] at ho
      exact h.clearEntry hf ho (AlarmEntry.hasKey_false (by rwa [ho]))

theorem Shows.floodCheck : Shows own o c ch m s.floodCheck := by
  unfold State.floodCheck; split
  · exact h.clearKey hf hf
  · exact h

theorem Shows.afterChange : Shows own o c ch m s.afterChange :=
  (h.floodCheck hf).congr (State.evalTrips_board _)

theorem Shows.takeClear {d : AlarmCode} {n : Nat} (hk : (o, c, ch) ≠ (own, d, n)) : Shows own o c ch m (s.takeClear d n) := by
  unfold State.takeClear; split
  · exact h.congr rfl
  · exact (h.clearKey hf hk).afterChange hf

end

/-! ## Evictions (R139) and the settling of requests -/

/-- R139: under a key the alarm unit shows these entries, or none where they could be evicted. -/
def Within (own o : Nat) (c : AlarmCode) (ch : Nat) (m : List AlarmEntry) (s : State) : Prop :=
  Shows own o c ch m s ∨ (Shows own o c ch [] s ∧ ∀ e ∈ m, e.state = .returned)

/-- What leaves the entries of a key alone. -/
theorem Within.map (h : Within own o c ch m s) (k : ∀ {m}, Shows own o c ch m s → Shows own o c ch m t) :
    Within own o c ch m t := h.imp k (And.imp_left k)

theorem evictedAlarm_spec {as : List AlarmEntry} {e : AlarmEntry} (h : evictedAlarm as = some e) :
    e ∈ as ∧ e.state = .returned := by
  have := List.mem_filter.1 (List.mem_of_find?_eq_some h)
  exact ⟨this.1, by simpa using this.2⟩

section
variable (ho : o ≠ own) (hm : m.length ≤ 1)
include ho hm

omit hm in
theorem other_own (d : AlarmCode) (n : Nat) : (o, c, ch) ≠ (own, d, n) := fun h => ho (congrArg Prod.fst h)

theorem Shows.evictAlarm (h : Shows own o c ch m s) {e : AlarmEntry} (he : e ∈ s.alarms.table) (hr : e.state = .returned) :
    Within own o c ch m (s.evictAlarm e) := by
  have dropped {k : List AlarmEntry} (hd : Shows own o c ch k (s.dropAlarm e)) : Shows own o c ch k (s.evictAlarm e) := by
    have push {u : State} (hu : Shows own o c ch k u) (n : Notice) :
        Shows own o c ch k { u with alarms := u.alarms.retryPush n } := by
      unfold Alarms.retryPush; split <;> exact hu.congr rfl
    unfold State.evictAlarm
    extract_lets s1 s2
    have h1 : Shows own o c ch k s1 := hd.congr rfl
    clear_value s1
    have h2 : Shows own o c ch k s2 := by
      simp only [s2]; split
      · exact push h1 _
      · exact h1
    exact h2.congr (State.journal_board _ _ _ _ _ _)
  by_cases hk : e.hasKey o c ch = true
  · right
    have table := h.entries_table (other_own ho _ _)
    have only : m = [e] := by
      have hem : e ∈ m := table ▸ List.mem_filter.2 ⟨he, hk⟩
      obtain ⟨f, rfl⟩ := List.length_eq_one_iff.1 (le_antisymm hm (List.length_pos_of_mem hem))
      rw [List.mem_singleton.1 hem]
    refine ⟨dropped ?_, by simp [only, hr]⟩
    obtain ⟨rfl, rfl, rfl⟩ := AlarmEntry.hasKey_iff.1 hk
    have plain : s.isFloodKey e = false := AlarmEntry.hasKey_false fun k => ho ((congrArg Prod.fst k).symm.trans h.number)
    unfold State.dropAlarm
    rw [plain]
    refine .of_table h.number h.flood ?_ (other_own ho _ _)
    simp
  · exact .inl (dropped (h.dropAlarm (other_own ho _ _) (by simpa using hk)))

theorem Within.makeRoom (h : Within own o c ch m s) (ht : s.makeRoom = some t) : Within own o c ch m t := by
  unfold State.makeRoom at ht
  split at ht
  · cases ht; exact h
  · obtain ⟨e, he, rfl⟩ := Option.map_eq_some_iff.1 ht
    obtain ⟨hin, hr⟩ := evictedAlarm_spec he
    rcases h with h | ⟨h, hall⟩
    · exact h.evictAlarm ho hm hin hr
    · exact .inr ⟨(h.evictAlarm ho (Nat.zero_le _) hin hr).elim id And.left, hall⟩

theorem Within.takeRaise (h : Within own o c ch m s) (d : AlarmCode) (n : Nat) : Within own o c ch m (s.takeRaise d n) := by
  have hk := other_own (c := c) (ch := ch) ho
  have enter {u : State} (hu : Within own o c ch m u) : Within own o c ch m (u.enterOwn d n) :=
    hu.map fun k => k.enterOwn (hk _ _) (hk _ _)
  unfold State.takeRaise
  repeat' split
  · exact h.map fun k => k.congr rfl
  · exact h.map fun k => k.congr (State.logRaise_board _ _ _)
  · exact enter h
  · exact h
  · exact h.map fun k => k.loseRaise (hk _ _)
  · rename_i room
    refine enter ?_
    exact (h.makeRoom ho hm room).map fun k => k.congr rfl

theorem Within.takeFirst (h : Within own o c ch m s) : Within own o c ch m s.takeFirst := by
  have hk := other_own (c := c) (ch := ch) ho
  unfold State.takeFirst
  split
  · exact h
  · rename_i r _ _
    have taken : Within own o c ch m (s.takeRequest r) := by
      cases r with
      | raise d n => exact h.takeRaise ho hm d n
      | clear d n => exact h.map fun k => k.takeClear (hk _ _) (hk _ _)
    exact taken.map fun k => k.congr rfl

/-- R139: the settling of requests evicts an entry of another station in RETURNED at most. -/
theorem Within.settle (h : Within own o c ch m s) : Within own o c ch m s.settle := by
  have some (n : Nat) {u : State} (hu : Within own o c ch m u) : Within own o c ch m (State.settleSome n u) := by
    induction n generalizing u with
    | zero => exact hu
    | succ n ih =>
      unfold State.settleSome; split
      · exact hu
      · exact ih (hu.takeFirst ho hm)
  exact (some _ h).map fun k => k.congr rfl

end

end

end Sys2Proof.Machine
end

section
/-! PROOFS. The alarm unit's own work counts no acknowledgement as stale (R148). -/

namespace Sys2Proof.Machine

/-! ## The settling of requests counts no acknowledgement as stale -/

/-- R148: the acknowledgements that have been ignored. -/
def State.stale (s : State) : Nat := s.alarms.counters.staleAcks

section
variable (s : State)

theorem stale_of_wire {s t : State} (h : t.wire = s.wire) : t.stale = s.stale :=
  congrArg (fun a => a.counters.staleAcks) (alarms_of_wire h)

@[simp] theorem State.journal_stale (n : Nat) (e : AlarmEntry) (r a l : Nat) : (s.journal n e r a l).stale = s.stale :=
  stale_of_wire (State.append_wire _ _ _ _ _ _)

@[simp] theorem State.evalTrips_stale : s.evalTrips.stale = s.stale :=
  congrArg (fun a => a.counters.staleAcks) (State.evalTrips_voiced (.refl s)).alarms

@[simp] theorem Alarms.retryPush_staleAcks (a : Alarms) (n : Notice) :
    (a.retryPush n).counters.staleAcks = a.counters.staleAcks := by
  unfold Alarms.retryPush; split <;> rfl

@[simp] theorem State.handBack_stale (n : Notice) : (s.handBack n).stale = s.stale := by
  unfold State.handBack; repeat' split
  · rfl
  · rfl
  · rfl
  · exact Alarms.retryPush_staleAcks _ _
  · rfl
  · rfl
  · rfl
  · rfl
  · exact Alarms.retryPush_staleAcks _ _
  · rfl

@[simp] theorem State.offer_stale (n : Notice) : (s.offer n).stale = s.stale := by
  have backoff (t : State) : t.enterBackoff.stale = t.stale := by
    unfold State.enterBackoff; repeat' split
    all_goals rfl
  have kick (t : State) : t.kickAccess.stale = t.stale := by
    unfold State.kickAccess; repeat' split
    · rfl
    · exact backoff t
    · rfl
    · exact backoff t
    · rfl
    · rfl
    · rfl
  unfold State.offer
  simp only; repeat' split
  · exact State.handBack_stale _ _
  · rfl
  · exact backoff _
  · exact kick _
  · exact State.handBack_stale _ _

@[simp] theorem State.dropAlarm_stale (e : AlarmEntry) : (s.dropAlarm e).stale = s.stale := by
  unfold State.dropAlarm; split <;> rfl

@[simp] theorem State.placeAlarm_stale (e : AlarmEntry) : (s.placeAlarm e).stale = s.stale := by
  unfold State.placeAlarm; split <;> rfl

@[simp] theorem State.setAlarm_stale (e : AlarmEntry) : (s.setAlarm e).stale = s.stale := rfl

@[simp] theorem State.enterNew_stale (e : AlarmEntry) : (s.enterNew e).stale = s.stale := by
  unfold State.enterNew
  rw [State.journal_stale]
  exact s.placeAlarm_stale e

@[simp] theorem State.enterOwn_stale (c : AlarmCode) (n : Nat) : (s.enterOwn c n).stale = s.stale := by
  unfold State.enterOwn
  extract_lets e a s1 s2 s3
  have h2 : s2.stale = s.stale := State.enterNew_stale _ e
  clear_value s2
  rw [State.evalTrips_stale]
  simp only [s3]; split
  · rw [State.offer_stale, h2]
  · exact h2

@[simp] theorem State.logRaise_stale (c : AlarmCode) (n : Nat) : (s.logRaise c n).stale = s.stale := by
  unfold State.logRaise; simp only; repeat' split
  · rfl
  all_goals exact State.journal_stale _ _ _ _ _ _

@[simp] theorem State.logClear_stale (c : AlarmCode) (n : Nat) : (s.logClear c n).stale = s.stale := by
  unfold State.logClear; split
  · rfl
  · exact State.journal_stale _ _ _ _ _ _

@[simp] theorem State.raiseFlood_stale : s.raiseFlood.stale = s.stale := by
  unfold State.raiseFlood; simp only; split
  all_goals
    rw [State.enterOwn_stale]
    rfl

@[simp] theorem State.loseRaise_stale : s.loseRaise.stale = s.stale := by
  unfold State.loseRaise; simp only; repeat' split
  · rw [State.logRaise_stale]; rfl
  · rfl
  · rw [State.raiseFlood_stale]; rfl

@[simp] theorem State.evictAlarm_stale (e : AlarmEntry) : (s.evictAlarm e).stale = s.stale := by
  unfold State.evictAlarm; simp only; split
  · rw [State.journal_stale]
    exact (Alarms.retryPush_staleAcks _ _).trans (s.dropAlarm_stale e)
  · rw [State.journal_stale]
    exact s.dropAlarm_stale e

theorem State.makeRoom_stale {s t : State} (h : s.makeRoom = some t) : t.stale = s.stale := by
  unfold State.makeRoom at h
  split at h
  · cases h; rfl
  · obtain ⟨e, _, rfl⟩ := Option.map_eq_some_iff.1 h
    exact s.evictAlarm_stale e

@[simp] theorem State.takeRaise_stale (c : AlarmCode) (n : Nat) : (s.takeRaise c n).stale = s.stale := by
  unfold State.takeRaise; repeat' split
  · rfl
  · simp
  · simp
  · rfl
  · simp
  · rename_i room
    rw [State.enterOwn_stale]
    have made := State.makeRoom_stale room
    exact made

@[simp] theorem State.offerClear_stale (e : AlarmEntry) : (s.offerClear e).stale = s.stale := by
  unfold State.offerClear; split <;> simp

@[simp] theorem State.clearEntry_stale (e : AlarmEntry) : (s.clearEntry e).stale = s.stale := by
  unfold State.clearEntry; simp only; repeat' split
  all_goals simp

@[simp] theorem State.clearKey_stale (c : AlarmCode) (n : Nat) : (s.clearKey c n).stale = s.stale := by
  unfold State.clearKey; repeat' split
  all_goals simp

@[simp] theorem State.floodCheck_stale : s.floodCheck.stale = s.stale := by
  unfold State.floodCheck; split <;> simp

@[simp] theorem State.takeClear_stale (c : AlarmCode) (n : Nat) : (s.takeClear c n).stale = s.stale := by
  unfold State.takeClear State.afterChange; split
  · rfl
  · simp

theorem State.takeFirst_stale : s.takeFirst.stale = s.stale := by
  have taken (r : AlarmRequest) : (s.takeRequest r).stale = s.stale := by
    cases r with
    | raise c n => exact s.takeRaise_stale c n
    | clear c n => exact s.takeClear_stale c n
  unfold State.takeFirst; split
  · rfl
  · exact taken _

theorem State.settle_stale : s.settle.stale = s.stale := by
  have some (n : Nat) (t : State) : (State.settleSome n t).stale = t.stale := by
    induction n generalizing t with
    | zero => rfl
    | succ n ih =>
      unfold State.settleSome; split
      · rfl
      · rw [ih, State.takeFirst_stale]
  exact some _ s

end

end Sys2Proof.Machine
end

section
/-! PROOFS. A valid frame of another station, as its notice is handed on (R3 to R7, R18, R30). -/

namespace Sys2Proof.Machine

/-! ## A valid frame of another station, as its notice is handed on -/

theorem exec_frameReceived {s : State} {burst : List Byte} (h : s.calm) :
    exec (.frameReceived burst) s = .next (s.begun.hearBurst burst).settle := by
  simp only [exec, execFrameReceived, State.takeEvent_live _ h.1]
  rfl

/-- R14: hearing a burst touches the medium access alone. -/
theorem State.mediumBusy_frame (s : State) : ∃ i a b,
    s.mediumBusy = { s with link := { s.link with mediumIdle := i, access := a, backoff := b } } := by
  unfold State.mediumBusy; split
  · exact ⟨_, _, _, rfl⟩
  · exact ⟨_, _, _, rfl⟩
  · exact ⟨_, _, _, rfl⟩

/-- R18: with the silence cause ended, what else changes is the alarm unit's requests. -/
theorem State.clearSilence_frame (s : State) :
    ∃ a, s.clearSilence = { s with link := { s.link with silenceCause := false }, agenda := a } := by
  have same (h : s.link.silenceCause = false) : s.link = { s.link with silenceCause := false } := by
    conv_lhs => rw [show s.link = { s.link with silenceCause := s.link.silenceCause } from rfl, h]
  unfold State.clearSilence
  simp only; repeat' split
  · exact ⟨s.agenda, rfl⟩
  · exact ⟨_, rfl⟩
  · rename_i h; exact ⟨s.agenda, by rw [← same (by simpa using h)]⟩

/-- R30: a sign of life touches the station list and the picture counters alone. -/
theorem State.signOfLife_frame {s : State} {g : Cfg} (h : s.cfg = some g) (origin : Nat) : ∃ k,
    s.signOfLife origin = { s with picture := { s.picture with
      stations := heardStations origin s.now s.picture.stations, counters := k } } := by
  unfold State.signOfLife
  simp only [h, Option.isNone_some, Bool.false_eq_true, if_false]
  repeat' split
  all_goals exact ⟨_, rfl⟩

/-- R7, R18, R30: the state in which the notice of a valid frame is handed on: the frame is counted, the silence timer
restarted, the silence cause ended, and the origin has given a sign of life. -/
structure Heard (s t : State) (origin : Nat) (g : Cfg) : Prop where
  cfg : t.cfg = some g
  same : s.cfg = some g
  now : t.now = s.now
  station : t.station = s.station
  fields : t.fields = s.fields
  nv : t.nv = s.nv
  alarms : t.alarms = s.alarms
  accountant : t.accountant = s.accountant
  silenceDue : t.link.silenceDue = some (s.now + g.lostTime)
  silenceCause : t.link.silenceCause = false
  accepted : t.link.counters.accepted = up16 s.link.counters.accepted
  stations : t.picture.stations = heardStations origin s.now s.picture.stations

theorem State.accept_heard {s u : State} {g : Cfg} (hg : s.cfg = some g)
    (hu : ∃ i a b, u = { s with link := { s.link with mediumIdle := i, access := a, backoff := b } }) (origin : Nat)
    (n : Notice) : ∃ t, Heard s t origin g ∧ u.accept origin n = t.handOn origin n := by
  obtain ⟨i, a, b, rfl⟩ := hu
  have lost (t : State) (ht : t.cfg = some g) : t.lostTime = g.lostTime := by simp [State.lostTime, ht]
  unfold State.accept
  extract_lets l s1 l1 s2
  have h1 : s1.cfg = some g := hg
  have h2 : s2 = State.clearSilence { s1 with link := { s1.link with silenceDue := some (s1.now + s1.lostTime) } } :=
    if_pos (by simp [hg])
  obtain ⟨q, hq⟩ := State.clearSilence_frame { s1 with link := { s1.link with silenceDue := some (s1.now + s1.lostTime) } }
  have hs2 := h2.trans hq
  have h2cfg : s2.cfg = some g := by rw [hs2]; exact h1
  obtain ⟨k, hk⟩ := State.signOfLife_frame h2cfg origin
  refine ⟨_, ?_, rfl⟩
  rw [hk, hs2, lost s1 h1]
  exact ⟨hg, hg, rfl, rfl, rfl, rfl, rfl, rfl, rfl, rfl, rfl, rfl⟩

/-- R4: a payload that passes the length rule carries a notice. -/
theorem Notice.parse_of_lengthFits {kind : Nat} {p : List Byte} (h : lengthFits kind p = true) :
    ∃ n, Notice.parse kind p = some n := by
  unfold lengthFits at h
  split at h
  case h_8 => cases h
  all_goals exact ⟨_, rfl⟩

/-- R3 to R7: what a valid frame of another station does: its notice is handed on, and the requests are settled. -/
theorem State.hears.taken {s : State} {burst : List Byte} {origin : Nat} {n : Notice} (h : s.hears burst origin n) :
    ∃ t g, Heard s t origin g ∧ origin ≠ s.ownNumber ∧
      exec (.frameReceived burst) s = .next (t.handOn origin n).settle := by
  obtain ⟨hs, hd, hlo, hhi, ⟨g, hg, hne⟩, kind, payload, ha, hk1, hk7, hfits, hparse⟩ := h
  have own : s.ownNumber = g.station := by simp [State.ownNumber, hg]
  obtain ⟨i, a, b, hbusy⟩ := s.begun.mediumBusy_frame
  obtain ⟨t, ht, hacc⟩ := State.accept_heard (s := s.begun) hg ⟨i, a, b, hbusy⟩ origin n
  have busyOwn : s.begun.mediumBusy.ownNumber = g.station := by
    rw [hbusy]; exact own
  have checked : s.begun.mediumBusy.checkFrame origin kind payload true = t.handOn origin n := by
    unfold State.checkFrame
    rw [if_neg (by simp), if_neg (by omega), if_neg (by omega), if_neg (by simp [hfits]), busyOwn, if_neg hne, hparse]
    exact hacc
  refine ⟨t, g, ⟨ht.cfg, ht.same, ht.now, ht.station, ht.fields, ht.nv, ht.alarms, ht.accountant, ht.silenceDue,
    ht.silenceCause, ht.accepted, ht.stations⟩, own ▸ hne, ?_⟩
  have heard : s.begun.hearBurst burst = _ := State.hearBurst_frame (s := s.begun) hd ha
  rw [exec_frameReceived hs, heard, checked]

end Sys2Proof.Machine
end

section
/-! PROOFS. Own frames, and the notices that reach the picture and the accountant (R6, R154, R157). -/

namespace Sys2Proof.Machine

/-! ## Frames of the station's own number (R6) -/

theorem State.ownOrigin_frame (s : State) : ∃ a, s.ownOrigin =
    { s with link := { s.link with counters := { s.link.counters with ownOrigin := up16 s.link.counters.ownOrigin }
                                   duplicateDue := some (s.now + s.lostTime) }, agenda := a } := by
  have lost (q : AlarmRequest) : (s.ask q).lostTime = s.lostTime := rfl
  unfold State.ownOrigin
  simp only; split
  · exact ⟨_, rfl⟩
  · exact ⟨_, rfl⟩

/-- R6: what a frame of the station's own number does. -/
theorem exec_frameReceived_own {s : State} {burst payload : List Byte} {kind : Nat} (h : s.calm) (hd : s.link.deaf = false)
    (ha : assemble burst = .frame s.ownNumber kind payload true) (h1 : 1 ≤ s.ownNumber) (h31 : s.ownNumber ≤ 31)
    (hk1 : 1 ≤ kind) (hk7 : kind ≤ 7) (hfits : lengthFits kind payload = true) :
    exec (.frameReceived burst) s = .next s.begun.mediumBusy.ownOrigin.settle := by
  obtain ⟨i, a, b, hbusy⟩ := s.begun.mediumBusy_frame
  have busyOwn : s.begun.mediumBusy.ownNumber = s.ownNumber := by rw [hbusy]; rfl
  have heard : s.begun.hearBurst burst = _ := State.hearBurst_frame (s := s.begun) hd ha
  have checked : s.begun.mediumBusy.checkFrame s.ownNumber kind payload true = s.begun.mediumBusy.ownOrigin := by
    unfold State.checkFrame
    rw [if_neg (by simp), if_neg (by omega), if_neg (by omega), if_neg (by simp [hfits]), busyOwn, if_pos rfl]
  rw [exec_frameReceived h, heard, checked]

/-! ## What the blocks keep of the receive side -/

/-- R7, R18, R30: the silence timer and cause, the accepted frames, the station list and the inputs. -/
def State.receiving (s : State) : Option Nat × Bool × Nat × List PeerStation × Fields :=
  (s.link.silenceDue, s.link.silenceCause, s.link.counters.accepted, s.picture.stations, s.fields)

theorem receiving_of_still {s t : State} (h : t.still = s.still) : t.receiving = s.receiving := by
  have h1 : t.link.silenceDue = s.link.silenceDue := congrArg Still.silenceDue h
  have h2 : t.link.silenceCause = s.link.silenceCause := congrArg Still.silenceCause h
  have h3 : t.link.counters.accepted = s.link.counters.accepted := congrArg (fun k => k.received.getD 0 0) h
  have h4 : t.picture = s.picture := congrArg Still.picture h
  have h5 : t.fields = s.fields := congrArg Still.fields h
  simp [State.receiving, h1, h2, h3, h4, h5]

section
variable (s : State)

@[simp] theorem State.startLossHold_receiving : s.startLossHold.receiving = s.receiving := by
  unfold State.startLossHold; repeat' split
  all_goals rfl

@[simp] theorem State.createPeer_receiving (e : PeerEntry) : (s.createPeer e).receiving = s.receiving := by
  unfold State.createPeer; simp only; repeat' split
  all_goals rfl

@[simp] theorem State.useNotice_receiving (e : PeerEntry) : (s.useNotice e).receiving = s.receiving := by
  unfold State.useNotice; simp only; repeat' split
  · simp
  · rfl
  · rw [State.startLossHold_receiving]; rfl
  · rfl

theorem State.heatNotice_receiving (a b c d e f g : Nat) (h k : Bool) :
    (s.heatNotice a b c d e f g h k).receiving = s.receiving := by
  unfold State.heatNotice; split
  · rfl
  · simp

theorem State.airNotice_receiving (a b c : Nat) (h k : Bool) (d e f g : Nat) :
    (s.airNotice a b c h k d e f g).receiving = s.receiving := by
  unfold State.airNotice; split
  · rfl
  · simp

@[simp] theorem State.append_receiving (type : RecordType) (rest : List Byte) (b : Binding) (p q : Bool) :
    (s.append type rest b p q).receiving = s.receiving := receiving_of_still (State.append_still _ _ _ _ _ _)

@[simp] theorem State.offer_receiving (n : Notice) : (s.offer n).receiving = s.receiving :=
  receiving_of_still (State.offer_still _ _)

@[simp] theorem State.restartRefresh_receiving : s.restartRefresh.receiving = s.receiving := by
  unfold State.restartRefresh; repeat' split
  all_goals rfl

theorem State.orderNotice_receiving (n : Nat) (e : Serial) (x : Nat) : (s.orderNotice n e x).receiving = s.receiving := by
  have adopted (c : FiringOrder) (b : Bool) : (s.adopt c b).receiving = s.receiving := by
    unfold State.adopt
    simp only
    rw [State.restartRefresh_receiving]
    split
    · exact (State.append_receiving _ _ _ _ _ _).trans rfl
    · exact (State.append_receiving _ _ _ _ _ _).trans rfl
  unfold State.orderNotice State.considerOrder; repeat' split
  · rfl
  · exact adopted _ _
  · rfl
  · rfl

@[simp] theorem State.openShiftFile_receiving (n : Serial) : (s.openShiftFile n).receiving = s.receiving := by
  have kept := receiving_of_still (s.openFile_still n)
  exact kept

@[simp] theorem State.endCollation_receiving (b : Bool) : (s.endCollation b).receiving = s.receiving := by
  have kept := receiving_of_still (s.requestStep_still s.accountant.collFile (.closed b))
  exact kept

@[simp] theorem State.beginCollation_receiving (n : Serial) : (s.beginCollation n).receiving = s.receiving := by
  have kept := receiving_of_still (s.requestStep_still s.accountant.file .collating)
  exact kept

@[simp] theorem State.takeNumber_receiving (n : Serial) : (s.takeNumber n).receiving = s.receiving := rfl

@[simp] theorem State.offerRestart_receiving (b : Bool) : (s.offerRestart b).receiving = s.receiving := by
  unfold State.offerRestart; split
  · exact (State.append_receiving _ _ _ _ _ _).trans rfl
  · rfl

theorem State.closeShift_receiving (n : Serial) (r : Nat) (m : Serial) : (s.closeShift n r m).receiving = s.receiving := by
  unfold State.closeShift
  extract_lets bound sat payload s1 s2 s3 s4 s5 s6
  have h2 : s2.receiving = s.receiving := (State.append_receiving _ _ _ _ _ _).trans (State.append_receiving _ _ _ _ _ _)
  have h3 : s3.receiving = s.receiving := by
    simp only [s3]; split
    · rw [State.endCollation_receiving, h2]
    · exact h2
  have h6 : s6.receiving = s5.receiving := rfl
  rw [State.openShiftFile_receiving, h6, State.offer_receiving, State.beginCollation_receiving, h3]

theorem State.markNotice_receiving (m : Serial) : (s.markNotice m).receiving = s.receiving := by
  unfold State.markNotice; repeat' split
  · simp [State.firstShift]
  · rw [State.takeNumber_receiving, State.closeShift_receiving]
  · rfl
  · rfl

theorem State.summaryLate_receiving (f : Option (Fin 32)) : (s.summaryLate f).receiving = s.receiving :=
  (receiving_of_still (State.lateSummary_still _ f)).trans rfl

theorem State.summaryNotice_receiving (o : Nat) (p : List Byte) : (s.summaryNotice o p).receiving = s.receiving := by
  unfold State.summaryNotice; simp only; repeat' split
  · exact s.summaryLate_receiving _
  · rfl
  · exact (State.append_receiving _ _ _ _ _ _).trans rfl
  · exact s.summaryLate_receiving _
  · exact s.summaryLate_receiving _

/-- R7: handing a notice on touches none of it. -/
theorem State.handOn_receiving (o : Nat) (n : Notice) : (s.handOn o n).receiving = s.receiving := by
  cases n with
  | heat => exact s.heatNotice_receiving _ _ _ _ _ _ _ _ _
  | air => exact s.airNotice_receiving _ _ _ _ _ _ _ _ _
  | order => exact s.orderNotice_receiving _ _ _
  | alarm => exact receiving_of_still (State.alarmNotice_still _ _ _ _ _ _ _)
  | ack => exact receiving_of_still (State.ackNotice_still _ _ _ _ _ _)
  | mark => exact s.markNotice_receiving _
  | summary => exact s.summaryNotice_receiving _ _

end

theorem mem_heardStations (station now : Nat) (ps : List PeerStation) :
    ∃ p ∈ heardStations station now ps, p.station = station ∧ p.present = true ∧ p.last = now := by
  induction ps with
  | nil => exact ⟨_, List.mem_singleton.2 rfl, rfl, rfl, rfl⟩
  | cons q ps ih =>
    unfold heardStations
    repeat' split
    · obtain ⟨p, hp, h⟩ := ih
      exact ⟨p, List.mem_cons_of_mem _ hp, h⟩
    · rename_i h; exact ⟨_, List.mem_cons_self, h, rfl, rfl⟩
    · exact ⟨_, List.mem_cons_self, rfl, rfl, rfl⟩

/-! ## Shift marks (R154) -/

theorem State.closeShift_collating (s : State) (n : Serial) (r : Nat) (m : Serial) :
    (s.closeShift n r m).accountant.collating = some n ∧ (s.closeShift n r m).now = s.now := by
  unfold State.closeShift
  extract_lets bound sat payload s1 s2 s3 s4 s5 s6
  have h2 : s2.now = s.now :=
    (congrArg Still.now (State.append_still _ _ _ _ _ _)).trans (congrArg Still.now (State.append_still _ _ _ _ _ _))
  have h3 : s3.now = s.now := by
    simp only [s3]; split
    · exact (congrArg Still.now (State.requestStep_still s2 _ _)).trans h2
    · exact h2
  have h4 : s4.now = s.now := (congrArg Still.now (State.requestStep_still s3 _ _)).trans h3
  have h5 : s5.now = s.now := (congrArg Still.now (State.offer_still _ _)).trans h4
  have c4 : s4.accountant.collating = some n := rfl
  have c5 : s5.accountant.collating = some n := (congrArg Still.collating (State.offer_still _ _)).trans c4
  exact ⟨(congrArg Still.collating (State.openFile_still s6 m)).trans c5,
    (congrArg Still.now (State.openFile_still s6 m)).trans h5⟩

theorem State.shiftLength_of_cfg {s t : State} (h : t.cfg = s.cfg) : t.shiftLength = s.shiftLength := by
  simp [State.shiftLength, h]

section
variable {s : State} {n m : Serial} (ha : s.station = .listen ∨ s.station = .run)
include ha

theorem State.accounting_of_station : s.accounting = true := by
  rcases ha with h | h <;> simp [State.accounting, h]

/-- R154: a newer mark. -/
theorem State.markNotice_newer (hn : s.accountant.shift = some n) (hm : newer m n = true) :
    s.markNotice m = (s.closeShift n 2 m).takeNumber m := by
  simp [State.markNotice, State.accounting_of_station ha, hn, hm]

/-- R154: another mark. -/
theorem State.markNotice_older (hn : s.accountant.shift = some n) (hm : newer m n = false) : s.markNotice m = s.ignoreMark := by
  simp [State.markNotice, State.accounting_of_station ha, hn, hm]

/-! ## Shift summaries (R157) -/

variable {origin : Nat} {payload : List Byte} (hc : s.accountant.collating = some n)
include hc

theorem State.summaryNotice_again (hp : BitVec.ofNat 16 (at2 payload 0) = n) (ho : origin ∈ s.accountant.collated) :
    s.summaryNotice origin payload =
      s.countShift fun c => { c with duplicateSummaries := up16 c.duplicateSummaries } := by
  simp [State.summaryNotice, State.accounting_of_station ha, hc, hp, ho]

theorem State.summaryNotice_first (hp : BitVec.ofNat 16 (at2 payload 0) = n) (ho : origin ∉ s.accountant.collated) :
    (s.summaryNotice origin payload).still = { s.still with
      collated := s.accountant.collated ++ [origin]
      shiftCounters := { s.accountant.counters with collated := up16 s.accountant.counters.collated } } := by
  simp only [State.summaryNotice, State.accounting_of_station ha, hc, hp, if_true, List.contains_iff_mem, ho, if_false]
  rw [State.append_still]
  rfl

theorem State.summaryNotice_late (hp : BitVec.ofNat 16 (at2 payload 0) ≠ n) :
    (s.summaryNotice origin payload).still = { s.still with
      shiftCounters := { s.accountant.counters with lateSummaries := up16 s.accountant.counters.lateSummaries } } := by
  simp only [State.summaryNotice, State.accounting_of_station ha, hc, hp, if_true, if_false]
  exact State.lateSummary_still _ _

end

end Sys2Proof.Machine
end

section
/-! PROOFS. The notices that reach the alarm unit (R133, R134, R136). -/

namespace Sys2Proof.Machine

/-! ## The entry of a key, as a peer's notices find it (R134, R136) -/

/-- R130: under a key a table without two entries of one key shows one entry at most. -/
theorem length_filter_hasKey {as : List AlarmEntry} (h : (as.map fun e => (e.origin, e.code, e.channel)).Nodup)
    (o : Nat) (c : AlarmCode) (ch : Nat) : (as.filter (·.hasKey o c ch)).length ≤ 1 := by
  have keys := h.sublist ((List.filter_sublist (p := (·.hasKey o c ch))).map _)
  have same : (as.filter (·.hasKey o c ch)).map (fun e => (e.origin, e.code, e.channel)) =
      List.replicate (as.filter (·.hasKey o c ch)).length (o, c, ch) := by
    rw [List.eq_replicate_iff]
    refine ⟨List.length_map _, fun k hk => ?_⟩
    obtain ⟨e, he, rfl⟩ := List.mem_map.1 hk
    obtain ⟨rfl, rfl, rfl⟩ := AlarmEntry.hasKey_iff.1 (List.mem_filter.1 he).2
    rfl
  rw [same] at keys
  exact List.nodup_replicate.1 keys

theorem toList_head {α : Type} {m : List α} (h : m.length ≤ 1) : m.head?.toList = m := by
  cases m with
  | nil => rfl
  | cons a m => simpa using h

/-- R130, R140: a legal alarm unit shows what a key finds. -/
theorem State.alarmsLegal.shows {s : State} {o ch : Nat} {c : AlarmCode} (h : s.alarmsLegal)
    (hf : (o, c, ch) ≠ (s.ownNumber, .alarmFlood, 255)) : Shows s.ownNumber o c ch (s.findAlarm o c ch).toList s := by
  obtain ⟨_, distinct, _, flood⟩ := h
  have shown : Shows s.ownNumber o c ch _ s := ⟨rfl, flood, rfl⟩
  have table := shown.entries_table hf
  have only := table ▸ length_filter_hasKey distinct o c ch
  rw [shown.findAlarm, toList_head only]
  exact shown

section
variable {own o ch : Nat} {c : AlarmCode} {m : List AlarmEntry} {s t : State} {e : AlarmEntry}

theorem filter_insertAlarm_self (he : e.hasKey o c ch = true) {as : List AlarmEntry}
    (h : as.filter (·.hasKey o c ch) = []) : (insertAlarm e as).filter (·.hasKey o c ch) = [e] := by
  induction as with
  | nil => simp [insertAlarm, he]
  | cons f as ih =>
    have hf : f.hasKey o c ch = false := by
      have := List.filter_eq_nil_iff.1 h f List.mem_cons_self
      simpa using this
    have rest : as.filter (·.hasKey o c ch) = [] := by simpa [List.filter_cons, hf] using h
    unfold insertAlarm; split
    · simp [hf, ih rest]
    · rw [List.filter_cons, he, h]
      rfl

/-- An entry's key is no flood key where it is another. -/
theorem Shows.isFloodKey (h : Shows own o c ch m s) (hf : (o, c, ch) ≠ (own, .alarmFlood, 255))
    (he : e.hasKey o c ch = true) : s.isFloodKey e = false := by
  obtain ⟨rfl, rfl, rfl⟩ := AlarmEntry.hasKey_iff.1 he
  refine AlarmEntry.hasKey_false fun same => hf ?_
  rw [← h.number]
  exact same.symm

section
variable (h : Shows own o c ch m s) (hf : (o, c, ch) ≠ (own, .alarmFlood, 255)) (he : e.hasKey o c ch = true)
include h hf he

/-- R130, R134: an entry made or re-raised is the one of its key. -/
theorem Shows.enterNew_same : Shows own o c ch [e] (s.enterNew e) := by
  have plain := h.isFloodKey hf he
  obtain ⟨rfl, rfl, rfl⟩ := AlarmEntry.hasKey_iff.1 he
  have placed : Shows own e.origin e.code e.channel [e] (s.placeAlarm e) := by
    unfold State.placeAlarm
    rw [plain]
    exact .of_table h.number h.flood (filter_insertAlarm_self he (by simp)) hf
  exact placed.congr ((State.journal_board { s.placeAlarm e with alarms := _ } _ _ _ _ _).trans rfl)

theorem Shows.dropAlarm_same : Shows own o c ch [] (s.dropAlarm e) := by
  have plain := h.isFloodKey hf he
  obtain ⟨rfl, rfl, rfl⟩ := AlarmEntry.hasKey_iff.1 he
  unfold State.dropAlarm
  rw [plain]
  exact .of_table h.number h.flood (by simp) hf

end

theorem Shows.setAlarm_same (h : Shows own o c ch m s) (he : e.hasKey o c ch = true) :
    Shows own o c ch (m.map fun _ => e) (s.setAlarm e) := by
  refine ⟨h.number, Alarms.replace_flood h.flood, ?_⟩
  obtain ⟨rfl, rfl, rfl⟩ := AlarmEntry.hasKey_iff.1 he
  have put (as : List AlarmEntry) : (as.map fun f => if f.hasKey e.origin e.code e.channel then e else f).filter
      (·.hasKey e.origin e.code e.channel) = (as.filter (·.hasKey e.origin e.code e.channel)).map fun _ => e := by
    induction as with
    | nil => rfl
    | cons f as ih =>
      by_cases hk : f.hasKey e.origin e.code e.channel = true
      · simp [hk, he, ih]
      · simp [hk, ih]
  change (s.alarms.replace e).all.filter _ = _
  rw [Alarms.replace_all, put, h.entries]

/-! ### Alarm notices (R133, R134) -/

section
variable {g : Cfg} {code cls ev : Nat} {occ : Serial} (hg : s.cfg = some g)
include hg

theorem State.alarmNotice_raise (h1 : 1 ≤ cls) (h3 : cls ≤ 3) :
    s.alarmNotice o c.number ch cls 1 occ = (s.peerRaise o c ch cls occ).afterChange := by
  have range : ¬(cls = 0 ∨ 4 < cls ∨ (1 : Nat) = 0 ∨ 2 < 1) := by omega
  have logged : ¬ cls = 4 := by omega
  simp only [State.alarmNotice, hg, Option.isNone_some, Bool.false_eq_true, if_false, AlarmCode.ofNumber_number, range,
    logged, if_true]

theorem State.alarmNotice_clear (h1 : 1 ≤ cls) (h3 : cls ≤ 3) :
    s.alarmNotice o c.number ch cls 2 occ = (s.peerClear o c ch occ).afterChange := by
  have range : ¬(cls = 0 ∨ 4 < cls ∨ (2 : Nat) = 0 ∨ 2 < 2) := by omega
  have logged : ¬ cls = 4 := by omega
  have clear : ¬(2 : Nat) = 1 := by omega
  simp only [State.alarmNotice, hg, Option.isNone_some, Bool.false_eq_true, if_false, AlarmCode.ofNumber_number, range,
    logged, clear]

theorem State.alarmNotice_stale (h : cls = 0 ∨ 4 < cls ∨ ev = 0 ∨ 2 < ev ∨ AlarmCode.ofNumber code = none) :
    s.alarmNotice o code ch cls ev occ = s.staleNotice := by
  have bare : s.cfg.isNone = false := by simp [hg]
  unfold State.alarmNotice
  rw [bare]
  simp only [Bool.false_eq_true, if_false]
  split
  · rfl
  · rename_i d hd
    rw [if_pos]
    simpa [hd] using h

/-- R133: a class-4 notice is journalled alone. -/
theorem State.alarmNotice_logged (h4 : cls = 4) : (s.alarmNotice o code ch cls ev occ).board = s.board := by
  have bare : s.cfg.isNone = false := by simp [hg]
  unfold State.alarmNotice
  rw [bare]
  simp only [Bool.false_eq_true, if_false, h4, if_true]
  repeat' split
  · rfl
  · rfl
  · exact State.journal_board _ _ _ _ _ _
  · exact State.journal_board _ _ _ _ _ _

end

/-- R134: the entry that a raise notice makes. -/
def peerEntry (now o : Nat) (c : AlarmCode) (ch cls : Nat) (occ : Serial) : AlarmEntry :=
  { origin := o, code := c, channel := ch, cls := cls, occurrence := occ, raised := now }

theorem peerEntry_hasKey (now o : Nat) (c : AlarmCode) (ch cls : Nat) (occ : Serial) :
    (peerEntry now o c ch cls occ).hasKey o c ch = true := AlarmEntry.hasKey_iff.2 ⟨rfl, rfl, rfl⟩

/-- R134: a raise notice that finds room, or an older or orphaned entry. -/
theorem Shows.peerRaise (h : Shows own o c ch (s.findAlarm o c ch).toList s) (hf : (o, c, ch) ≠ (own, .alarmFlood, 255))
    {cls : Nat} {occ : Serial} (hr : (s.findAlarm o c ch = none ∧ s.alarms.table.length < 48) ∨
      ∃ e, s.findAlarm o c ch = some e ∧ (e.orphaned = true ∨ newer occ e.occurrence = true)) :
    Shows own o c ch [peerEntry s.now o c ch cls occ] (s.peerRaise o c ch cls occ) := by
  have key := peerEntry_hasKey s.now o c ch cls occ
  rcases hr with ⟨hnone, hroom⟩ | ⟨e, he, hold⟩
  · have room : s.makeRoom = some s := if_pos hroom
    have made : s.peerRaise o c ch cls occ =
        State.enterPeer (s.forgetRetry { s.ownEntry c ch with origin := o }) o c ch cls occ := by
      unfold State.peerRaise
      rw [hnone, room]
    rw [made]
    have forgot : Shows own o c ch _ (s.forgetRetry { s.ownEntry c ch with origin := o }) := h.congr rfl
    exact forgot.enterNew_same hf key
  · have made : s.peerRaise o c ch cls occ = s.enterPeer o c ch cls occ := by
      unfold State.peerRaise
      rw [he]
      exact if_pos (by simpa using hold)
    rw [made]
    exact h.enterNew_same hf key

/-- R134: a clear notice of the occurrence that an entry in NEW shows. -/
theorem Shows.peerClear_new (h : Shows own o c ch [e] s) (he : s.findAlarm o c ch = some e) (hor : e.orphaned = false)
    (hst : e.state = .new) : Shows own o c ch [{ e with state := .returned }] (s.peerClear o c ch e.occurrence) := by
  have key := State.hasKey_of_findAlarm he
  have old : newer e.occurrence e.occurrence = false := by simp [newer]
  have made : s.peerClear o c ch e.occurrence =
      (s.setAlarm { e with state := .returned }).journal 3 { e with state := .returned } 3 0 0 := by
    unfold State.peerClear
    rw [he]
    dsimp only
    rw [if_neg (by simp [hor]), if_neg (by simp [old]), if_pos rfl]
    split
    · rfl
    · rename_i k; cases hst.symm.trans k
    · rename_i k; cases hst.symm.trans k
  rw [made]
  exact (h.setAlarm_same (e := { e with state := .returned }) key).congr (State.journal_board _ _ _ _ _ _)

/-- R134: a clear notice of a later occurrence, or of the one that an entry in STANDING shows. -/
theorem Shows.peerClear_gone (h : Shows own o c ch m s) (hf : (o, c, ch) ≠ (own, .alarmFlood, 255))
    (he : s.findAlarm o c ch = some e) (hor : e.orphaned = false) {occ : Serial}
    (hc : newer occ e.occurrence = true ∨ (e.occurrence = occ ∧ e.state = .standing)) :
    Shows own o c ch [] (s.peerClear o c ch occ) := by
  have key := State.hasKey_of_findAlarm he
  have made : s.peerClear o c ch occ = (s.dropAlarm e).journal 4 e 4 0 0 := by
    unfold State.peerClear
    rw [he]
    rcases hc with hn | ⟨rfl, hst⟩
    · simp only [hor, hn, Bool.false_eq_true, if_false, if_true]
    · have old : newer e.occurrence e.occurrence = false := by simp [newer]
      simp only [hor, old, hst, Bool.false_eq_true, if_false, if_true]
  rw [made]
  exact (h.dropAlarm_same hf key).congr (State.journal_board _ _ _ _ _ _)

/-! ### Acknowledgements (R136) -/

theorem State.ackNotice_finds {g : Cfg} {station : Nat} {occ : Serial} (hg : s.cfg = some g) (he : s.findAlarm o c ch = some e) :
    s.ackNotice station o c.number ch occ =
      if e.occurrence = occ then (s.acknowledgeEntry e station).afterChange else s.staleAck := by
  simp only [State.ackNotice, hg, Option.isNone_some, Bool.false_eq_true, if_false, AlarmCode.ofNumber_number, he]

/-- R136: NEW passes to STANDING. -/
theorem Shows.acknowledge_new (h : Shows own o c ch [e] s) (he : e.hasKey o c ch = true) (hst : e.state = .new)
    (hl : e.latched = false) (station : Nat) :
    Shows own o c ch [{ e with state := .standing }] (s.acknowledgeEntry e station) := by
  have made : s.acknowledgeEntry e station =
      (s.setAlarm { e with state := .standing }).journal 2 { e with state := .standing } 2 station 0 := by
    unfold State.acknowledgeEntry
    split
    · exact if_neg (by simp [hl])
    · rename_i k; cases hst.symm.trans k
    · rename_i k; cases hst.symm.trans k
  rw [made]
  exact (h.setAlarm_same (e := { e with state := .standing }) he).congr (State.journal_board _ _ _ _ _ _)

/-- R136: a latched or RETURNED entry is removed. -/
theorem State.acknowledgeEntry_removes (hst : e.state = .returned ∨ (e.state = .new ∧ e.latched = true)) (station : Nat) :
    (s.acknowledgeEntry e station).board = (s.dropAlarm e).board := by
  rcases hst with hst | ⟨hst, hl⟩
  · simp only [State.acknowledgeEntry, hst, State.journal_board]
  · simp only [State.acknowledgeEntry, hst, hl, if_true, State.journal_board]

theorem findAlarm_of_board (h : t.board = s.board) : t.findAlarm o c ch = s.findAlarm o c ch := by
  obtain ⟨-, htable, hflood⟩ : t.ownNumber = s.ownNumber ∧ t.alarms.table = s.alarms.table ∧
      t.alarms.flood = s.alarms.flood := by simpa [State.board] using h
  simp [State.findAlarm, Alarms.all, htable, hflood]

/-- R140: without an ALARM FLOOD entry nothing follows a change of the table but the trip cause's report. -/
theorem State.afterChange_board (h : s.findAlarm s.ownNumber .alarmFlood 255 = none) : s.afterChange.board = s.board := by
  have checked : s.floodCheck.board = s.board := by
    unfold State.floodCheck State.clearKey
    repeat' split
    · exact State.logClear_board _ _ _
    · rfl
    · rename_i hsome; rw [h] at hsome; cases hsome
    · rfl
  exact (State.evalTrips_board _).trans checked

/-- R140: the flood slot's entry, removed, leaves no entry of its key. -/
theorem State.alarmsLegal.dropAlarm_flood (h : s.alarmsLegal) (he : s.isFloodKey e = true) :
    (s.dropAlarm e).findAlarm s.ownNumber .alarmFlood 255 = none := by
  obtain ⟨_, _, table, _⟩ := h
  unfold State.dropAlarm
  rw [he]
  refine List.find?_eq_none.2 fun f hf => ?_
  have hin : f ∈ s.alarms.table := by simpa [Alarms.all] using hf
  exact Bool.eq_false_iff.1 (table f hin)

end

end Sys2Proof.Machine
end

section
/-! PROOFS. Valid frames are taken (R6, R7, R18, R30, R133, R134, R136, R154, R157). -/

namespace Sys2Proof.Machine

/-! ## Valid frames, clause by clause -/

section
variable {s t : State} {origin : Nat} {g : Cfg}

theorem Heard.ownNumber (h : Heard s t origin g) : t.ownNumber = s.ownNumber := by
  simp [State.ownNumber, h.cfg, h.same]

theorem Heard.board (h : Heard s t origin g) : t.board = s.board := by
  simp [State.board, h.ownNumber, h.alarms]

theorem Heard.findAlarm (h : Heard s t origin g) (o : Nat) (c : AlarmCode) (ch : Nat) :
    t.findAlarm o c ch = s.findAlarm o c ch := findAlarm_of_board h.board

theorem Heard.alarmsLegal (h : Heard s t origin g) (k : s.alarmsLegal) : t.alarmsLegal := by
  unfold State.alarmsLegal State.isFloodKey at k ⊢
  rwa [h.ownNumber, h.alarms]

/-- R6, R7, R18, R30: what stands of a heard frame as the requests have been settled. -/
theorem Heard.settled (h : Heard s t origin g) (n : Notice) :
    (t.handOn origin n).settle.link.counters.accepted = up16 s.link.counters.accepted ∧
    (t.handOn origin n).settle.link.silenceDue = some (s.now + g.lostTime) ∧
    (t.handOn origin n).settle.link.silenceCause = false ∧
    (∃ p ∈ (t.handOn origin n).settle.picture.stations, p.station = origin ∧ p.present = true ∧ p.last = s.now) ∧
    (t.handOn origin n).settle.fields = s.fields ∧ (t.handOn origin n).settle.nv = s.nv := by
  have kept := (receiving_of_still (State.settle_still _)).trans (t.handOn_receiving origin n)
  have nv := (congrArg Still.nv (State.settle_still (t.handOn origin n))).trans
    (congrArg Prod.snd (State.handOn_keptNv t origin n))
  simp only [State.receiving, Prod.mk.injEq] at kept
  obtain ⟨due, cause, accepted, stations, fields⟩ := kept
  exact ⟨accepted.trans h.accepted, due.trans h.silenceDue, cause.trans h.silenceCause,
    by rw [stations, h.stations]; exact mem_heardStations _ _ _, fields.trans h.fields, nv.trans h.nv⟩

/-- R154: a shift mark heard. -/
theorem Heard.mark (h : Heard s t origin g) {m n : Serial} (hst : s.station = .listen ∨ s.station = .run)
    (hn : s.accountant.shift = some n) :
    (newer m n = true → (t.markNotice m).settle.accountant.shift = some m ∧
      (t.markNotice m).settle.accountant.collating = some n ∧
      (t.markNotice m).settle.accountant.shiftDue = some (s.now + s.shiftLength)) ∧
    (newer m n = false → (t.markNotice m).settle.accountant.shift = some n ∧
      (t.markNotice m).settle.accountant.collating = s.accountant.collating ∧
      (t.markNotice m).settle.accountant.counters.marksIgnored = up16 s.accountant.counters.marksIgnored) := by
  have station : t.station = .listen ∨ t.station = .run := h.station ▸ hst
  have shift : t.accountant.shift = some n := h.accountant ▸ hn
  have settled := State.settle_still (t.markNotice m)
  refine ⟨fun hm => ?_, fun hm => ?_⟩
  · rw [State.markNotice_newer station shift hm] at settled ⊢
    obtain ⟨collating, now⟩ := t.closeShift_collating n 2 m
    have cfg : (t.closeShift n 2 m).cfg = s.cfg :=
      (congrArg (fun k => k.1.cfg) (State.closeShift_keptNv t n 2 m)).trans (h.cfg.trans h.same.symm)
    generalize t.closeShift n 2 m = u at settled collating now cfg ⊢
    refine ⟨congrArg Still.shift settled, (congrArg Still.collating settled).trans collating,
      (congrArg Still.shiftDue settled).trans ?_⟩
    change some (u.now + u.shiftLength) = _
    rw [now, h.now, State.shiftLength_of_cfg cfg]
  · rw [State.markNotice_older station shift hm] at settled ⊢
    have collating : t.accountant.collating = s.accountant.collating := congrArg Accountant.collating h.accountant
    have ignored : up16 t.accountant.counters.marksIgnored = up16 s.accountant.counters.marksIgnored :=
      congrArg (fun a => up16 a.counters.marksIgnored) h.accountant
    exact ⟨(congrArg Still.shift settled).trans shift, (congrArg Still.collating settled).trans collating,
      (congrArg (fun k => k.shiftCounters.marksIgnored) settled).trans ignored⟩

/-- R157: a shift summary heard. -/
theorem Heard.summary (h : Heard s t origin g) {payload : List Byte} {n : Serial}
    (hst : s.station = .listen ∨ s.station = .run) (hn : s.accountant.collating = some n) :
    (BitVec.ofNat 16 (at2 payload 0) = n → origin ∉ s.accountant.collated →
      (t.summaryNotice origin payload).settle.accountant.collated = s.accountant.collated ++ [origin] ∧
      (t.summaryNotice origin payload).settle.accountant.counters =
        { s.accountant.counters with collated := up16 s.accountant.counters.collated }) ∧
    (BitVec.ofNat 16 (at2 payload 0) = n → origin ∈ s.accountant.collated →
      (t.summaryNotice origin payload).settle.accountant.collated = s.accountant.collated ∧
      (t.summaryNotice origin payload).settle.accountant.counters =
        { s.accountant.counters with duplicateSummaries := up16 s.accountant.counters.duplicateSummaries }) ∧
    (BitVec.ofNat 16 (at2 payload 0) ≠ n →
      (t.summaryNotice origin payload).settle.accountant.collated = s.accountant.collated ∧
      (t.summaryNotice origin payload).settle.accountant.counters =
        { s.accountant.counters with lateSummaries := up16 s.accountant.counters.lateSummaries }) := by
  have station : t.station = .listen ∨ t.station = .run := h.station ▸ hst
  have settled := State.settle_still (t.summaryNotice origin payload)
  rw [← h.accountant] at hn ⊢
  refine ⟨fun hp ho => ?_, fun hp ho => ?_, fun hp => ?_⟩
  · rw [State.summaryNotice_first station hn hp ho] at settled
    exact ⟨congrArg Still.collated settled, congrArg Still.shiftCounters settled⟩
  · rw [State.summaryNotice_again station hn hp ho] at settled ⊢
    exact ⟨congrArg Still.collated settled, congrArg Still.shiftCounters settled⟩
  · rw [State.summaryNotice_late station hn hp] at settled
    exact ⟨congrArg Still.collated settled, congrArg Still.shiftCounters settled⟩

section
variable {o ch cls : Nat} {c : AlarmCode} {occ : Serial} {e : AlarmEntry} {m : List AlarmEntry}

/-- R139: what the requests leave of an entry that cannot be evicted. -/
theorem Shows.settled (h : Shows s.ownNumber o c ch [e] t) (ho : o ≠ s.ownNumber) (he : e.state ≠ .returned) :
    t.settle.findAlarm o c ch = some e := by
  rcases Within.settle ho (by simp) (.inl h) with k | ⟨_, k⟩
  · exact k.findAlarm
  · exact absurd (k e (by simp)) he

/-- R139: the requests make no entry of another station. -/
theorem Shows.settled_none (h : Shows s.ownNumber o c ch [] t) (ho : o ≠ s.ownNumber) :
    t.settle.findAlarm o c ch = none := by
  rcases Within.settle ho (by simp) (.inl h) with k | ⟨k, _⟩
  · exact k.findAlarm
  · exact k.findAlarm

/-- R139: what the requests leave of an entry is as it was. -/
theorem Shows.settled_same (h : Shows s.ownNumber o c ch [e] t) (ho : o ≠ s.ownNumber) {f : AlarmEntry}
    (hf : t.settle.findAlarm o c ch = some f) : f = e := by
  rcases Within.settle ho (by simp) (.inl h) with k | ⟨k, _⟩
  · rw [k.findAlarm] at hf; simpa using hf.symm
  · rw [k.findAlarm] at hf; cases hf

/-- What a legal alarm unit shows under a key, a frame having been heard. -/
theorem Heard.shows (h : Heard s t origin g) (hl : s.alarmsLegal) (hf : (o, c, ch) ≠ (s.ownNumber, .alarmFlood, 255)) :
    Shows s.ownNumber o c ch (s.findAlarm o c ch).toList t := (hl.shows hf).congr h.board

theorem peer_ne_flood (ho : o ≠ s.ownNumber) : (o, c, ch) ≠ (s.ownNumber, AlarmCode.alarmFlood, 255) :=
  fun k => ho (congrArg Prod.fst k)

/-- R134: a raise notice heard. -/
theorem Heard.raised (h : Heard s t origin g) (hne : origin ≠ s.ownNumber) (hl : s.alarmsLegal) (h1 : 1 ≤ cls)
    (h3 : cls ≤ 3) (hr : (s.findAlarm origin c ch = none ∧ s.alarms.table.length < 48) ∨
      ∃ e, s.findAlarm origin c ch = some e ∧ (e.orphaned = true ∨ newer occ e.occurrence = true)) :
    (t.alarmNotice origin c.number ch cls 1 occ).settle.findAlarm origin c ch =
      some (peerEntry s.now origin c ch cls occ) := by
  have hf := peer_ne_flood (c := c) (ch := ch) hne
  have shown := h.shows hl hf
  rw [← h.findAlarm] at shown hr
  rw [← h.alarms] at hr
  rw [State.alarmNotice_raise h.cfg h1 h3, ← h.now]
  refine Shows.settled ((shown.peerRaise hf hr).afterChange hf) hne ?_
  simp [peerEntry]

/-- R134: a clear notice heard of an entry that is not orphaned. -/
theorem Heard.cleared (h : Heard s t origin g) (hne : origin ≠ s.ownNumber) (hl : s.alarmsLegal) (h1 : 1 ≤ cls)
    (h3 : cls ≤ 3) (he : s.findAlarm origin c ch = some e) (hor : e.orphaned = false) :
    (e.state = .new → e.occurrence = occ →
      Shows s.ownNumber origin c ch [{ e with state := .returned }] (t.alarmNotice origin c.number ch cls 2 occ)) ∧
    (newer occ e.occurrence = true ∨ (e.occurrence = occ ∧ e.state = .standing) →
      Shows s.ownNumber origin c ch [] (t.alarmNotice origin c.number ch cls 2 occ)) := by
  have hf := peer_ne_flood (c := c) (ch := ch) hne
  have shown := h.shows hl hf
  rw [he] at shown
  rw [← h.findAlarm] at he
  rw [State.alarmNotice_clear h.cfg h1 h3]
  refine ⟨fun hst hocc => ?_, fun hc => ?_⟩
  · subst hocc
    exact (shown.peerClear_new he hor hst).afterChange hf
  · exact (shown.peerClear_gone hf he hor hc).afterChange hf

/-- R136: an acknowledgement heard of an entry in NEW, outside the flood slot. -/
theorem Heard.acknowledged (h : Heard s t origin g) (hl : s.alarmsLegal) (hf : (o, c, ch) ≠ (s.ownNumber, .alarmFlood, 255))
    (he : s.findAlarm o c ch = some e) (hocc : e.occurrence = occ) (hst : e.state = .new) (hla : e.latched = false) :
    Shows s.ownNumber o c ch [{ e with state := .standing }] (t.ackNotice origin o c.number ch occ) := by
  have shown := h.shows hl hf
  rw [he] at shown
  rw [State.ackNotice_finds h.cfg ((h.findAlarm _ _ _).trans he), if_pos hocc]
  exact (shown.acknowledge_new (State.hasKey_of_findAlarm he) hst hla origin).afterChange hf

/-- R136: an acknowledgement heard of an entry that it removes, outside the flood slot. -/
theorem Heard.removed (h : Heard s t origin g) (hl : s.alarmsLegal) (hf : (o, c, ch) ≠ (s.ownNumber, .alarmFlood, 255))
    (he : s.findAlarm o c ch = some e) (hocc : e.occurrence = occ)
    (hst : e.state = .returned ∨ (e.state = .new ∧ e.latched = true)) :
    Shows s.ownNumber o c ch [] (t.ackNotice origin o c.number ch occ) := by
  have shown := h.shows hl hf
  rw [State.ackNotice_finds h.cfg ((h.findAlarm _ _ _).trans he), if_pos hocc]
  exact ((shown.dropAlarm_same hf (State.hasKey_of_findAlarm he)).congr
    (State.acknowledgeEntry_removes hst origin)).afterChange hf

/-- R136, R140: an acknowledgement heard of the flood slot's entry, which it removes. -/
theorem Heard.removed_flood (h : Heard s t origin g) (hl : s.alarmsLegal) (he : s.findAlarm o c ch = some e)
    (hflood : s.isFloodKey e = true) (hocc : e.occurrence = occ)
    (hst : e.state = .returned ∨ (e.state = .new ∧ e.latched = true)) :
    (t.ackNotice origin o c.number ch occ).findAlarm o c ch = none := by
  have key : t.isFloodKey e = true := by rw [State.isFloodKey, h.ownNumber]; exact hflood
  have gone := (h.alarmsLegal hl).dropAlarm_flood key
  rw [State.ackNotice_finds h.cfg ((h.findAlarm _ _ _).trans he), if_pos hocc]
  have board := State.acknowledgeEntry_removes (s := t) hst origin
  have number : (t.acknowledgeEntry e origin).ownNumber = t.ownNumber :=
    (congrArg Prod.fst board).trans (by unfold State.dropAlarm; split <;> rfl)
  have none : (t.acknowledgeEntry e origin).findAlarm (t.acknowledgeEntry e origin).ownNumber .alarmFlood 255 = none := by
    rw [number, findAlarm_of_board board]; exact gone
  rw [findAlarm_of_board (State.afterChange_board none), findAlarm_of_board board]
  obtain ⟨rfl, rfl, rfl⟩ := AlarmEntry.hasKey_iff.1 (State.hasKey_of_findAlarm he)
  obtain ⟨h1, h2, h3⟩ := AlarmEntry.hasKey_iff.1 key
  rw [h1, h2, h3]
  exact gone

/-- R136: an acknowledgement heard of another occurrence. -/
theorem Heard.stale (h : Heard s t origin g) (he : s.findAlarm o c ch = some e) (hocc : e.occurrence ≠ occ) :
    (t.ackNotice origin o c.number ch occ).settle.alarms.counters.staleAcks = up16 s.alarms.counters.staleAcks := by
  have counted : t.staleAck.stale = up16 s.alarms.counters.staleAcks :=
    congrArg (fun a : Alarms => up16 a.counters.staleAcks) h.alarms
  rw [State.ackNotice_finds h.cfg ((h.findAlarm _ _ _).trans he), if_neg hocc]
  exact (State.settle_stale _).trans counted

/-- R133, R134: an alarm notice heard that changes no entry. -/
theorem Heard.ignored (h : Heard s t origin g) (code ch cls ev : Nat) (occ : Serial) :
    (cls = 0 ∨ 4 ≤ cls ∨ ev = 0 ∨ 2 < ev ∨ AlarmCode.ofNumber code = none →
      (t.alarmNotice origin code ch cls ev occ).alarms.table = s.alarms.table ∧
      (t.alarmNotice origin code ch cls ev occ).alarms.flood = s.alarms.flood) ∧
    (cls = 0 ∨ 4 < cls ∨ ev = 0 ∨ 2 < ev ∨ AlarmCode.ofNumber code = none →
      (t.alarmNotice origin code ch cls ev occ).alarms.counters.staleNotices = up16 s.alarms.counters.staleNotices) := by
  refine ⟨fun hi => ?_, fun hi => ?_⟩
  · have board : (t.alarmNotice origin code ch cls ev occ).board = s.board := by
      by_cases h4 : cls = 4
      · exact (State.alarmNotice_logged h.cfg h4).trans h.board
      · have stale : cls = 0 ∨ 4 < cls ∨ ev = 0 ∨ 2 < ev ∨ AlarmCode.ofNumber code = none :=
          hi.imp_right (Or.imp_left fun k => lt_of_le_of_ne k (Ne.symm h4))
        rw [State.alarmNotice_stale h.cfg stale]
        exact h.board
    simp only [State.board, Prod.mk.injEq] at board
    exact board.2
  · rw [State.alarmNotice_stale h.cfg hi]
    exact congrArg (fun a : Alarms => up16 a.counters.staleNotices) h.alarms

end

end

/-- Settles O21: a valid frame is its notice handed on from the state `Heard` describes, and each clause is what that notice does
and what the requests settled after it leave alone. -/
theorem validFramesAreTaken : Obligations.ValidFramesAreTaken := by
  refine ⟨?_, ?_, ?_, ?_, ?_, ?_, ?_, ?_⟩
  · intro s burst payload kind hs hd ha h1 h31 hk1 hk7 hfits
    obtain ⟨i, a, b, hbusy⟩ := s.begun.mediumBusy_frame
    obtain ⟨q, hown⟩ := s.begun.mediumBusy.ownOrigin_frame
    have kept := State.settle_still s.begun.mediumBusy.ownOrigin
    refine ⟨_, exec_frameReceived_own hs hd ha h1 h31 hk1 hk7 hfits, ?_⟩
    rw [hown, hbusy] at kept ⊢
    exact ⟨congrArg (fun k => k.received.getD 6 0) kept, congrArg (fun k => k.received.getD 0 0) kept,
      congrArg Still.duplicateDue kept, congrArg Still.silenceDue kept, congrArg Still.picture kept,
      congrArg Still.fields kept, congrArg Still.nv kept⟩
  · intro s burst payload origin kind g hs hd hg ha h1 h31 hk1 hk7 hfits hne
    obtain ⟨n, hn⟩ := Notice.parse_of_lengthFits hfits
    have heard : s.hears burst origin n := ⟨hs, hd, h1, h31, ⟨g, hg, hne⟩, kind, payload, ha, hk1, hk7, hfits, hn⟩
    obtain ⟨t, g', h, -, ht⟩ := heard.taken
    cases hg.symm.trans h.same
    exact ⟨_, ht, h.settled n⟩
  · intro s burst origin m n heard hst hn
    obtain ⟨t, g, h, -, ht⟩ := heard.taken
    exact ⟨_, ht, h.mark hst hn⟩
  · intro s burst payload origin n heard hst hn
    obtain ⟨t, g, h, -, ht⟩ := heard.taken
    exact ⟨_, ht, h.summary hst hn⟩
  · intro s burst origin ch cls c occ hl heard h1 h3 hr
    obtain ⟨t, g, h, hne, ht⟩ := heard.taken
    exact ⟨_, ht, h.raised hne hl h1 h3 hr⟩
  · intro s burst origin ch cls c occ e hl heard h1 h3 he hor
    obtain ⟨t, g, h, hne, ht⟩ := heard.taken
    obtain ⟨returned, gone⟩ := h.cleared (occ := occ) hne hl h1 h3 he hor
    exact ⟨_, ht, fun hst hocc f => (returned hst hocc).settled_same hne, fun hc => (gone hc).settled_none hne, _, rfl,
      fun hst hocc => (returned hst hocc).findAlarm⟩
  · intro s burst origin code ch cls ev occ heard
    obtain ⟨t, g, h, -, ht⟩ := heard.taken
    exact ⟨_, ht, h.ignored code ch cls ev occ⟩
  · intro s burst origin o ch c occ e hl heard he
    obtain ⟨t, g, h, -, ht⟩ := heard.taken
    have hf (plain : s.isFloodKey e = false) : (o, c, ch) ≠ (s.ownNumber, .alarmFlood, 255) := fun k => by
      have key := State.hasKey_of_findAlarm he
      obtain ⟨rfl, rfl, rfl⟩ : o = s.ownNumber ∧ c = .alarmFlood ∧ ch = 255 := by simpa using k
      cases plain.symm.trans key
    refine ⟨_, ht, fun hocc hne hst hla => ?_, fun hocc hne hst => ?_, fun hocc => h.stale he hocc, _, rfl,
      fun hocc hst hla plain => ?_, fun hocc hst => ?_⟩
    · exact (h.acknowledged hl (peer_ne_flood hne) he hocc hst hla).settled hne (by simp)
    · exact (h.removed hl (peer_ne_flood hne) he hocc hst).settled_none hne
    · exact (h.acknowledged hl (hf plain) he hocc hst hla).findAlarm
    · by_cases hflood : s.isFloodKey e = true
      · exact h.removed_flood hl he hflood hocc hst
      · exact (h.removed hl (hf (by simpa using hflood)) he hocc hst).findAlarm

end Sys2Proof.Machine
end

section
/-! PROOFS. What the blocks beside the floor picture leave of it: `State.outlook`, the clock, the station state, the
configuration, the picture, the update timer, the inputs and the clinker rate estimate. -/

namespace Sys2Proof.Machine

/-- What no block but the picture, the measurement stage and the control update changes. -/
structure Outlook where
  now : Nat
  station : StationState
  cfg : Option Cfg
  picture : Picture
  updateDue : Option Nat
  fields : Fields
  estimate : Nat

/-- The outlook of a state. -/
def State.outlook (s : State) : Outlook where
  now := s.now
  station := s.station
  cfg := s.cfg
  picture := s.picture
  updateDue := s.heat.updateDue
  fields := s.fields
  estimate := s.channels.estimate

/-- What keeps the still parts keeps the outlook. -/
theorem outlook_of_still {s t : State} (h : t.still = s.still) : t.outlook = s.outlook := by
  have h1 : t.now = s.now := congrArg Still.now h
  have h2 : t.station = s.station := congrArg Still.station h
  have h3 : t.cfg = s.cfg := congrArg Still.cfg h
  have h4 : t.picture = s.picture := congrArg Still.picture h
  have h5 : t.heat.updateDue = s.heat.updateDue := congrArg (fun k => k.heat.updateDue) h
  have h6 : t.fields = s.fields := congrArg Still.fields h
  have h7 : t.channels.estimate = s.channels.estimate := congrArg Still.estimate h
  simp only [State.outlook, h1, h2, h3, h4, h5, h6, h7]

theorem picture_of_outlook {s t : State} (h : t.outlook = s.outlook) : t.picture = s.picture := congrArg Outlook.picture h

theorem picture_of_still {s t : State} (h : t.still = s.still) : t.picture = s.picture := congrArg Still.picture h

theorem foldl_outlook {α : Type} (f : State → α → State) (h : ∀ s a, (f s a).outlook = s.outlook) (l : List α) (s : State) :
    (l.foldl f s).outlook = s.outlook := by
  induction l generalizing s with
  | nil => rfl
  | cons a l ih => rw [List.foldl_cons, ih, h]

theorem eachSlot_outlook {f : State → Fin 4 → State} (h : ∀ s i, (f s i).outlook = s.outlook) (s : State) :
    (s.eachSlot f).outlook = s.outlook := by
  simp [State.eachSlot, h]

section
variable (s : State)

@[simp] theorem State.settle_outlook : s.settle.outlook = s.outlook := outlook_of_still s.settle_still
@[simp] theorem State.ask_outlook (r : AlarmRequest) : (s.ask r).outlook = s.outlook := rfl
@[simp] theorem State.runStore_outlook : s.runStore.outlook = s.outlook := outlook_of_still s.runStore_still
@[simp] theorem State.offer_outlook (n : Notice) : (s.offer n).outlook = s.outlook := outlook_of_still (s.offer_still n)
@[simp] theorem State.append_outlook (type : RecordType) (rest : List Byte) (b : Binding) (p q : Bool) :
    (s.append type rest b p q).outlook = s.outlook := outlook_of_still (s.append_still type rest b p q)
@[simp] theorem State.requestStep_outlook (f : Option (Fin 32)) (st : FileStep) : (s.requestStep f st).outlook = s.outlook :=
  outlook_of_still (s.requestStep_still f st)
@[simp] theorem State.countLink_outlook (f : LinkCounters → LinkCounters) : (s.countLink f).outlook = s.outlook := rfl

/-! ## The link -/

@[simp] theorem State.mediumBusy_outlook : s.mediumBusy.outlook = s.outlook := by
  unfold State.mediumBusy; split <;> rfl

@[simp] theorem State.mediumQuiet_outlook : s.mediumQuiet.outlook = s.outlook := by
  unfold State.mediumQuiet; split
  · rfl
  · exact outlook_of_still (State.kickAccess_still _)

@[simp] theorem State.countSlot_outlook : s.countSlot.outlook = s.outlook := by
  unfold State.countSlot; repeat' split
  all_goals rfl

@[simp] theorem State.setSilence_outlook : s.setSilence.outlook = s.outlook := by
  obtain ⟨a, h⟩ := s.setSilence_frame; rw [h]; rfl

@[simp] theorem State.clearSilence_outlook : s.clearSilence.outlook = s.outlook := by
  obtain ⟨a, h⟩ := s.clearSilence_frame; rw [h]; rfl

@[simp] theorem State.setExhaustion_outlook : s.setExhaustion.outlook = s.outlook := by
  unfold State.setExhaustion; simp only; repeat' split
  all_goals rfl

@[simp] theorem State.clearExhaustion_outlook : s.clearExhaustion.outlook = s.outlook := by
  unfold State.clearExhaustion; simp only; repeat' split
  all_goals rfl

@[simp] theorem State.discard_outlook (f : QFrame) : (s.discard f).outlook = s.outlook := by
  unfold State.discard
  extract_lets s1 n l s2 s3
  have h3 : s3.outlook = s.outlook := by
    simp only [s3]; split
    · exact s2.setExhaustion_outlook
    · rfl
  rw [outlook_of_still (State.room_still _), outlook_of_still (State.handBack_still _ _), h3]

@[simp] theorem State.afterSending_outlook : s.afterSending.outlook = s.outlook := rfl

theorem State.collide_outlook : s.collide.outlook = s.outlook := by
  unfold State.collide
  split
  · rfl
  · extract_lets s1 bump l s2 s3
    have h3 : s3.outlook = s.outlook := by
      simp only [s3]; split
      · exact s2.discard_outlook _
      · rfl
    exact h3

theorem State.sent_outlook : s.sent.outlook = s.outlook := by
  unfold State.sent
  split
  · rfl
  · extract_lets s1 l s2
    rw [State.afterSending_outlook, outlook_of_still (State.room_still _), State.clearExhaustion_outlook]
    rfl

@[simp] theorem State.ownOrigin_outlook : s.ownOrigin.outlook = s.outlook := by
  obtain ⟨a, h⟩ := s.ownOrigin_frame; rw [h]; rfl

/-! ## The shift accountant -/

@[simp] theorem State.countShift_outlook (f : ShiftCounters → ShiftCounters) : (s.countShift f).outlook = s.outlook := rfl
@[simp] theorem State.takeNumber_outlook (n : Serial) : (s.takeNumber n).outlook = s.outlook := rfl

@[simp] theorem State.openShiftFile_outlook (n : Serial) : (s.openShiftFile n).outlook = s.outlook := by
  have kept : (s.openFile n).1.outlook = s.outlook := outlook_of_still (s.openFile_still n)
  exact kept

@[simp] theorem State.offerRestart_outlook (b : Bool) : (s.offerRestart b).outlook = s.outlook := by
  unfold State.offerRestart; split
  · exact (State.append_outlook _ _ _ _ _ _).trans rfl
  · rfl

@[simp] theorem State.endCollation_outlook (b : Bool) : (s.endCollation b).outlook = s.outlook :=
  s.requestStep_outlook s.accountant.collFile (.closed b)

@[simp] theorem State.beginCollation_outlook (n : Serial) : (s.beginCollation n).outlook = s.outlook :=
  s.requestStep_outlook s.accountant.file .collating

@[simp] theorem State.summaryLate_outlook (f : Option (Fin 32)) : (s.summaryLate f).outlook = s.outlook :=
  (outlook_of_still (State.lateSummary_still _ f)).trans rfl

@[simp] theorem State.summaryNotice_outlook (o : Nat) (p : List Byte) : (s.summaryNotice o p).outlook = s.outlook := by
  unfold State.summaryNotice; simp only; repeat' split
  · exact s.summaryLate_outlook _
  · rfl
  · exact (State.append_outlook _ _ _ _ _ _).trans rfl
  · exact s.summaryLate_outlook _
  · exact s.summaryLate_outlook _

@[simp] theorem State.firstShift_outlook (n : Serial) : (s.firstShift n).outlook = s.outlook := by
  simp [State.firstShift]

@[simp] theorem State.closeShift_outlook (n : Serial) (r : Nat) (m : Serial) : (s.closeShift n r m).outlook = s.outlook := by
  unfold State.closeShift
  extract_lets bound sat payload s1 s2 s3 s4 s5 s6
  have h3 : s3.outlook = s.outlook := by
    simp only [s3, s2, s1]; split <;> simp
  have h6 : s6.outlook = s4.outlook := s4.offer_outlook _
  rw [State.openShiftFile_outlook, h6, State.beginCollation_outlook, h3]

@[simp] theorem State.closeByTimer_outlook : s.closeByTimer.outlook = s.outlook := by
  unfold State.closeByTimer; split <;> simp

@[simp] theorem State.markNotice_outlook (m : Serial) : (s.markNotice m).outlook = s.outlook := by
  unfold State.markNotice; repeat' split
  · simp
  · simp
  · rfl
  · rfl

@[simp] theorem State.resumeShift_outlook (e : Fin 32) (n : Nat) : (s.resumeShift e n).outlook = s.outlook := by
  unfold State.resumeShift; simp only; rw [State.offerRestart_outlook]
  have kept : (s.resumeFile e n).outlook = s.outlook := outlook_of_still (s.resumeFile_still e n)
  exact kept

@[simp] theorem State.takeReport_outlook (r : FileReport) : (s.takeReport r).outlook = s.outlook := by
  unfold State.takeReport; repeat' split
  all_goals simp

/-! ## The control update and the entry to RUN -/

@[simp] theorem State.feedPassage_outlook (i : Fin 4) : (s.feedPassage i).outlook = s.outlook := by
  refine outlook_of_still ?_
  unfold State.feedPassage; split <;> simp

@[simp] theorem State.feedHandOn_outlook (i : Fin 4) : (s.feedHandOn i).outlook = s.outlook := by
  refine outlook_of_still ?_
  unfold State.feedHandOn; split <;> simp

@[simp] theorem State.coolerAct_outlook (i : Fin 4) : (s.coolerAct i).outlook = s.outlook := by
  refine outlook_of_still ?_
  unfold State.coolerAct; split <;> simp

@[simp] theorem State.endMarks_outlook : s.endMarks.outlook = s.outlook := rfl

@[simp] theorem State.slotPublish_outlook (c l : Vector Bool 4) (i : Fin 4) :
    (State.slotPublish c l s i).outlook = s.outlook := by
  refine outlook_of_still ?_
  unfold State.slotPublish; simp only; repeat' split
  all_goals simp

@[simp] theorem State.publishAll_outlook : s.publishAll.outlook = s.outlook :=
  eachSlot_outlook (fun t i => t.slotPublish_outlook _ _ i) s.endMarks

@[simp] theorem State.slotPost_outlook (a : Vector SlotUnit 4) (i : Fin 4) : (State.slotPost a s i).outlook = s.outlook := by
  refine outlook_of_still ?_
  unfold State.slotPost; split <;> simp

@[simp] theorem State.postAlarmTime_outlook (b : Bool) : (s.postAlarmTime b).outlook = s.outlook := by
  unfold State.postAlarmTime; split <;> rfl

@[simp] theorem State.postCooler_outlook : s.postCooler.outlook = s.outlook := by
  unfold State.postCooler; split <;> rfl

@[simp] theorem State.fireRun_outlook (c : AlarmCode) (b : Bool) (n : Nat) (r : Option Nat) :
    (s.fireRun c b n r).1.outlook = s.outlook := by
  unfold State.fireRun; simp only; split <;> rfl

@[simp] theorem State.fireSupervision_outlook : s.fireSupervision.outlook = s.outlook := by
  have superviseFire (g : Cfg) : (s.superviseFire g).outlook = s.outlook := by
    unfold State.superviseFire
    exact Eq.trans rfl ((State.fireRun_outlook _ _ _ _ _).trans (State.fireRun_outlook _ _ _ _ _))
  have ceaseFire : s.ceaseFire.outlook = s.outlook := by
    unfold State.ceaseFire; simp only; repeat' split
    all_goals rfl
  unfold State.fireSupervision; repeat' split
  · rfl
  · exact superviseFire _
  · exact ceaseFire

/-- R39: the slots' work at an update leaves the outlook that the moved target and estimate give. -/
theorem State.controlSlots_outlook : s.controlSlots.outlook = s.slew.updateEstimate.outlook := by
  unfold State.controlSlots
  simp only
  rw [eachSlot_outlook State.coolerAct_outlook, eachSlot_outlook State.feedHandOn_outlook,
    outlook_of_still (State.allocate_still _), eachSlot_outlook State.feedPassage_outlook]
  rfl

theorem State.controlAccounts_outlook (a : Vector SlotUnit 4) (b : Bool) : (s.controlAccounts a b).outlook = s.outlook := by
  unfold State.controlAccounts; split
  · simp [eachSlot_outlook (State.slotPost_outlook · a)]
  · simp

theorem State.control_outlook : s.control.outlook = s.slew.updateEstimate.outlook := by
  unfold State.control
  rw [State.controlAccounts_outlook, State.settle_outlook, State.fireSupervision_outlook, State.controlSlots_outlook]

@[simp] theorem State.faultAtRun_still (i : Fin 4) : (s.faultAtRun i).still = s.still := by
  unfold State.faultAtRun; repeat' split
  all_goals simp

@[simp] theorem State.slotToRun_still (i : Fin 4) : (s.slotToRun i).still = s.still := by
  unfold State.slotToRun State.firstNotice; simp only; split <;> simp

/-! ## The service port -/

@[simp] theorem State.closeWindow_outlook : s.closeWindow.outlook = s.outlook := by
  unfold State.closeWindow; split
  · exact State.runStore_outlook _
  · rfl

@[simp] theorem State.portKick_outlook : s.portKick.outlook = s.outlook := by
  unfold State.portKick; repeat' split
  · rfl
  · exact State.runStore_outlook _
  · rfl

@[simp] theorem State.openWindow_outlook (e m : Byte) (o : BitVec 24) : (s.openWindow e m o).outlook = s.outlook := by
  unfold State.openWindow; simp only; repeat' split
  · rw [State.portKick_outlook]; exact s.closeWindow_outlook
  · exact s.closeWindow_outlook
  · exact s.closeWindow_outlook

@[simp] theorem State.readEnds_outlook : s.readEnds.outlook = s.outlook := by
  unfold State.readEnds; simp only; split
  · rfl
  · split
    · exact State.runStore_outlook _
    · rfl

@[simp] theorem State.unitMissed_outlook (w : ReadWindow) : (s.unitMissed w).outlook = s.outlook := by
  unfold State.unitMissed; simp only; split
  · rfl
  · exact State.runStore_outlook _

@[simp] theorem State.unitDone_outlook : s.unitDone.outlook = s.outlook := by
  unfold State.unitDone
  split
  · rfl
  · extract_lets n w1 buffer
    split
    · rfl
    · split
      · exact State.portKick_outlook _
      · simp

@[simp] theorem State.unitCut_outlook : s.unitCut.outlook = s.outlook := by
  unfold State.unitCut; repeat' split
  all_goals simp

theorem State.units_outlook (n r : Nat) (s : State) (out : List Byte) : (State.units n r s out).1.outlook = s.outlook := by
  induction n generalizing s out with
  | zero => unfold State.units; split <;> simp
  | succ n ih => unfold State.units; rw [ih, State.unitDone_outlook]

theorem State.streamUnits_outlook (n : Nat) : (s.streamUnits n).outlook = s.outlook :=
  Eq.trans rfl (State.units_outlook (n / 17) (n % 17) s [])

theorem State.answer_outlook (f : State → List Byte) : (s.answer f).outlook = s.outlook := s.closeWindow_outlook

theorem State.areaCommand_outlook (r : Option Result) (op : AreaOp) : (s.areaCommand r op).outlook = s.outlook := by
  unfold State.areaCommand; simp only; repeat' split
  all_goals exact s.closeWindow_outlook

theorem State.flushQueue_outlook : s.flushQueue.outlook = s.outlook := by
  unfold State.flushQueue
  rw [State.runStore_outlook]
  exact s.closeWindow_outlook

/-! ## The completions of the engine -/

@[simp] theorem State.tearArea_outlook (op : AreaOp) : (s.tearArea op).outlook = s.outlook := by
  cases op <;> simp only [State.tearArea, State.useFree, State.outlook]

@[simp] theorem State.areaDone_outlook (r : Result) : (s.areaDone r).outlook = s.outlook := State.runStore_outlook _

theorem State.configCompletes_outlook (b : Bool) : (s.configCompletes b).outlook = s.outlook := by
  unfold State.configCompletes; repeat' split
  · exact State.areaDone_outlook _ _
  · simp
  · exact State.areaDone_outlook _ _
  · simp
  · rfl

theorem State.otpProgrammed_outlook (b : Fin 16) (d : List Byte) (l : Bool) :
    (s.otpProgrammed b d l).1.outlook = s.outlook := rfl

theorem State.freezeWritten_outlook (b : Bool) : (s.freezeWritten b).outlook = s.outlook := by
  have h : (if b then s.otpProgrammed 15 freezeMark true else (s.tearArea .freeze, false)).1.outlook = s.outlook := by
    split
    · exact s.otpProgrammed_outlook _ _ _
    · exact s.tearArea_outlook _
  unfold State.freezeWritten
  generalize (if b then s.otpProgrammed 15 freezeMark true else (s.tearArea .freeze, false)) = r at h ⊢
  exact (State.areaDone_outlook _ _).trans h

theorem State.otpCompletes_outlook (b : Bool) : (s.otpCompletes b).outlook = s.outlook := by
  unfold State.otpCompletes; repeat' split
  · exact State.areaDone_outlook _ _
  · simp
  · exact s.freezeWritten_outlook b
  · rfl

theorem State.programEnds_outlook (b : Bool) : (s.programEnds b).outlook = s.outlook := by
  have passes (t : State) (op : ProgramOp) : (t.programPasses op).outlook = t.outlook :=
    (outlook_of_still (State.dequeue_still _ _)).trans rfl
  have fails (t : State) (op : ProgramOp) : (t.programFails op).outlook = t.outlook :=
    (foldl_outlook _ (fun u r => outlook_of_still (by simp)) _ _).trans rfl
  unfold State.programEnds; split
  · rfl
  · rw [State.runStore_outlook]; split
    · exact passes _ _
    · exact fails _ _

theorem State.eraseEnds_outlook (b : Bool) : (s.eraseEnds b).outlook = s.outlook := by
  unfold State.eraseEnds; repeat' split
  · rfl
  · rfl
  · rw [State.runStore_outlook]
    exact (outlook_of_still (State.clearStoreFull_still _)).trans rfl
  · exact State.runStore_outlook _

end

end Sys2Proof.Machine
end

section
/-! PROOFS. The peer channel table as a list: its order, and what an entry that takes its place does to it (R21, R22). -/

namespace Sys2Proof.Machine

/-! ## Keys and the order (R21) -/

/-- R21: the key of an entry. -/
def PeerEntry.key (e : PeerEntry) : Nat × Nat := (e.station, e.channel)

theorem PeerEntry.hasKey_iff {e : PeerEntry} {station channel : Nat} :
    e.hasKey station channel = true ↔ e.key = (station, channel) := by
  simp [PeerEntry.hasKey, PeerEntry.key]

theorem PeerEntry.hasKey_eq_false_iff {e : PeerEntry} {station channel : Nat} :
    e.hasKey station channel = false ↔ e.key ≠ (station, channel) := by
  rw [Ne, ← PeerEntry.hasKey_iff, Bool.not_eq_true]

/-- R21: entries of different keys stand one before the other. -/
theorem PeerEntry.before_of_not {a b : PeerEntry} (hk : a.key ≠ b.key) (h : a.before b = false) : b.before a = true := by
  unfold PeerEntry.key at hk
  unfold PeerEntry.before PeerEntry.meritKey MeritKey.lt at *
  cases ha : a.body <;> cases hb : b.body <;>
    simp only [ha, hb, decide_eq_false_iff_not, decide_eq_true_eq, Prod.mk.injEq, ne_eq, reduceCtorEq] at h hk ⊢
  all_goals omega

/-- R21: the order is transitive. -/
theorem PeerEntry.before_trans {a b c : PeerEntry} (h : a.before b = true) (k : b.before c = true) : a.before c = true := by
  unfold PeerEntry.before PeerEntry.meritKey MeritKey.lt at *
  cases ha : a.body <;> cases hb : b.body <;> cases hc : c.body <;>
    simp only [ha, hb, hc, decide_eq_true_eq, reduceCtorEq] at h k ⊢
  all_goals omega

/-! ## An entry takes its place -/

/-- R21, R22: the table with an entry in place of the one of its key. -/
def placed (e : PeerEntry) (l : List PeerEntry) : List PeerEntry :=
  insertPeer e (l.filter fun f => !f.hasKey e.station e.channel)

theorem State.placePeer_entries (s : State) (e : PeerEntry) : (s.placePeer e).picture.entries = placed e s.picture.entries :=
  rfl

theorem insertPeer_perm (e : PeerEntry) (l : List PeerEntry) : (insertPeer e l).Perm (e :: l) := by
  induction l with
  | nil => rfl
  | cons f l ih =>
    unfold insertPeer
    split
    · exact (ih.cons f).trans (List.Perm.swap e f l)
    · rfl

theorem mem_others {e f : PeerEntry} {l : List PeerEntry} :
    f ∈ l.filter (fun f => !f.hasKey e.station e.channel) ↔ f ∈ l ∧ f.key ≠ e.key := by
  rw [List.mem_filter, Bool.not_eq_true', PeerEntry.hasKey_eq_false_iff]
  rfl

theorem mem_placed {e f : PeerEntry} {l : List PeerEntry} : f ∈ placed e l ↔ f = e ∨ (f ∈ l ∧ f.key ≠ e.key) := by
  rw [placed, (insertPeer_perm _ _).mem_iff, List.mem_cons, mem_others]

/-- R21: an entry takes its place among those of other keys. -/
theorem insertPeer_pairwise {e : PeerEntry} {l : List PeerEntry} (h : l.Pairwise fun a b => a.before b = true)
    (hk : ∀ f ∈ l, f.key ≠ e.key) : (insertPeer e l).Pairwise fun a b => a.before b = true := by
  induction l with
  | nil => exact List.pairwise_singleton _ _
  | cons f l ih =>
    obtain ⟨hf, hl⟩ := List.pairwise_cons.1 h
    have hkf := hk f List.mem_cons_self
    have rest := ih hl fun x hx => hk x (List.mem_cons_of_mem _ hx)
    unfold insertPeer
    split
    · rename_i hb
      refine List.pairwise_cons.2 ⟨fun x hx => ?_, rest⟩
      rcases List.mem_cons.1 ((insertPeer_perm e l).mem_iff.1 hx) with rfl | hx
      · exact hb
      · exact hf x hx
    · rename_i hb
      have hef : e.before f = true := PeerEntry.before_of_not hkf (Bool.eq_false_iff.2 hb)
      refine List.pairwise_cons.2 ⟨fun x hx => ?_, h⟩
      rcases List.mem_cons.1 hx with rfl | hx
      · exact hef
      · exact PeerEntry.before_trans hef (hf x hx)

theorem placed_pairwise {l : List PeerEntry} (e : PeerEntry) (h : l.Pairwise fun a b => a.before b = true) :
    (placed e l).Pairwise fun a b => a.before b = true :=
  insertPeer_pairwise (h.sublist List.filter_sublist) fun _ hf => (mem_others.1 hf).2

theorem placed_nodup {l : List PeerEntry} (e : PeerEntry) (h : (l.map PeerEntry.key).Nodup) :
    ((placed e l).map PeerEntry.key).Nodup := by
  have perm := (insertPeer_perm e (l.filter fun f => !f.hasKey e.station e.channel)).map PeerEntry.key
  refine perm.nodup_iff.2 (List.nodup_cons.2 ⟨fun hm => ?_, h.sublist (List.filter_sublist.map _)⟩)
  obtain ⟨f, hf, hk⟩ := List.mem_map.1 hm
  exact (mem_others.1 hf).2 hk

/-- R24: an entry that replaces the one of its key takes no room. -/
theorem placed_length_le {l : List PeerEntry} {e : PeerEntry} {n : Nat} (h : l.length ≤ n)
    (hr : l.length < n ∨ ∃ f ∈ l, f.key = e.key) : (placed e l).length ≤ n := by
  have hlen : (placed e l).length = (l.filter fun f => !f.hasKey e.station e.channel).length + 1 :=
    (insertPeer_perm _ _).length_eq
  rcases hr with hr | ⟨f, hf, hk⟩
  · have := List.length_filter_le (fun f : PeerEntry => !f.hasKey e.station e.channel) l
    omega
  · have : (l.filter fun f => !f.hasKey e.station e.channel).length < l.length :=
      List.length_filter_lt_length_iff_exists.2 ⟨f, hf, by simp [PeerEntry.hasKey_iff.2 hk]⟩
    omega

/-! ## Finding an entry (R22) -/

theorem find_insertPeer_self {e : PeerEntry} {p : PeerEntry → Bool} {l : List PeerEntry} (he : p e = true)
    (hl : ∀ f ∈ l, p f = false) : (insertPeer e l).find? p = some e := by
  induction l with
  | nil => simp [insertPeer, he]
  | cons f l ih =>
    have hf := hl f List.mem_cons_self
    unfold insertPeer
    split
    · rw [List.find?_cons, hf]
      exact ih fun x hx => hl x (List.mem_cons_of_mem _ hx)
    · rw [List.find?_cons, he]

theorem find_insertPeer_other {e : PeerEntry} {p : PeerEntry → Bool} {l : List PeerEntry} (he : p e = false) :
    (insertPeer e l).find? p = l.find? p := by
  induction l with
  | nil => simp [insertPeer, he]
  | cons f l ih =>
    unfold insertPeer
    split
    · rw [List.find?_cons, List.find?_cons, ih]
    · rw [List.find?_cons, he]

/-- R22: entries of other keys are found as they were. -/
theorem find_others (l : List PeerEntry) {e : PeerEntry} {station channel : Nat} (h : (station, channel) ≠ e.key) :
    (l.filter fun f => !f.hasKey e.station e.channel).find? (·.hasKey station channel) =
      l.find? (·.hasKey station channel) := by
  rw [List.find?_filter]
  congr 1
  funext f
  by_cases hf : f.hasKey station channel = true
  · have : f.hasKey e.station e.channel = false :=
      PeerEntry.hasKey_eq_false_iff.2 fun k => h ((PeerEntry.hasKey_iff.1 hf).symm.trans k)
    simp [hf, this]
  · simp [hf]

section
variable {s : State} {e : PeerEntry} {station channel : Nat}

theorem State.findPeer_key (h : s.findPeer station channel = some e) : e.key = (station, channel) :=
  PeerEntry.hasKey_iff.1 (List.find?_some (p := fun f : PeerEntry => f.hasKey station channel) h)

theorem State.findPeer_mem (h : s.findPeer station channel = some e) : e ∈ s.picture.entries := List.mem_of_find?_eq_some h

theorem State.findPeer_of_entries {t : State} (h : t.picture.entries = s.picture.entries) (station channel : Nat) :
    t.findPeer station channel = s.findPeer station channel := by
  rw [State.findPeer, h]; rfl

/-- R22: an entry that has taken its place is the entry of its key. -/
theorem State.placePeer_findPeer_self (s : State) (e : PeerEntry) : (s.placePeer e).findPeer e.station e.channel = some e := by
  refine find_insertPeer_self (PeerEntry.hasKey_iff.2 rfl) fun f hf => ?_
  exact PeerEntry.hasKey_eq_false_iff.2 (mem_others.1 hf).2

theorem State.placePeer_findPeer_other (s : State) (h : (station, channel) ≠ e.key) :
    (s.placePeer e).findPeer station channel = s.findPeer station channel :=
  (find_insertPeer_other (PeerEntry.hasKey_eq_false_iff.2 (Ne.symm h))).trans (find_others _ h)

end

end Sys2Proof.Machine
end

section
/-! PROOFS. Every command and every step keeps the peer channel table legal and in order (R21, R24). -/

namespace Sys2Proof.Machine

/-! ## The table and the station's number -/

/-- R21: the peer channel table, with the configuration that gives the station's own number. -/
def State.peers (s : State) : List PeerEntry × Option Cfg := (s.picture.entries, s.cfg)

theorem peers_of_outlook {s t : State} (h : t.outlook = s.outlook) : t.peers = s.peers :=
  congrArg (fun o => (o.picture.entries, o.cfg)) h

theorem peers_of_still {s t : State} (h : t.still = s.still) : t.peers = s.peers := peers_of_outlook (outlook_of_still h)

theorem State.ownNumber_of_cfg {s t : State} (h : t.cfg = s.cfg) : t.ownNumber = s.ownNumber := by
  simp [State.ownNumber, h]

/-- Between two states the peer channel table stays legal and in order. -/
structure State.PictureSafe (s t : State) : Prop where
  legal : s.picture.legal → t.picture.legal
  sorted : s.pictureSorted → t.pictureSorted

namespace State.PictureSafe
variable {s t u : State}

theorem trans (h : s.PictureSafe t) (k : t.PictureSafe u) : s.PictureSafe u := ⟨k.legal ∘ h.legal, k.sorted ∘ h.sorted⟩

/-- What leaves some entries out keeps the table legal and in order. -/
theorem of_sublist (h : t.picture.entries.Sublist s.picture.entries) (hg : t.cfg = s.cfg) : s.PictureSafe t where
  legal := fun ⟨hl, hk⟩ => ⟨h.length_le.trans hl, hk.sublist (h.map _)⟩
  sorted := fun ⟨hp, ho⟩ => ⟨hp.sublist h, fun e he => State.ownNumber_of_cfg hg ▸ ho e (h.subset he)⟩

/-- What leaves the table alone keeps it legal and in order. -/
theorem of_peers (h : t.peers = s.peers) : s.PictureSafe t := by
  obtain ⟨he, hg⟩ := Prod.mk.inj h
  exact of_sublist (he ▸ List.Sublist.refl _) hg

theorem refl (s : State) : s.PictureSafe s := of_peers rfl

/-- What comes before and leaves the table alone makes no difference. -/
theorem after (h : t.peers = s.peers) (k : t.PictureSafe u) : s.PictureSafe u := (of_peers h).trans k

/-- R21: an empty table is legal and in order. -/
theorem of_empty (h : t.picture.entries = []) : s.PictureSafe t := by
  refine ⟨fun _ => ?_, fun _ => ?_⟩
  · rw [Picture.legal, h]; exact ⟨Nat.zero_le _, .nil⟩
  · rw [State.pictureSorted, h]; exact ⟨.nil, nofun⟩

end State.PictureSafe

/-! ## The floor picture's own work -/

/-- R21, R24: an entry of another station that finds room, or replaces the one of its key, takes its place. -/
theorem State.placePeer_safe {s : State} {e : PeerEntry}
    (hr : s.picture.entries.length < 48 ∨ ∃ f ∈ s.picture.entries, f.key = e.key)
    (ho : s.pictureSorted → e.station ≠ s.ownNumber) : s.PictureSafe (s.placePeer e) where
  legal := fun ⟨hl, hk⟩ => ⟨placed_length_le hl hr, placed_nodup e hk⟩
  sorted := fun hs => ⟨placed_pairwise e hs.1, fun f hf => by
    rcases mem_placed.1 hf with rfl | ⟨hf, -⟩
    · exact ho hs
    · exact hs.2 f hf⟩

section
variable (s : State)

/-- R28: when the loss hold ends, once it has been started or restarted. -/
def State.lossHoldAfter (s : State) : Option Nat :=
  match s.cfg with
  | none => s.picture.lossHoldDue
  | some g => if g.lossHold = 0 then s.picture.lossHoldDue else some (s.now + g.lossHold * 1000)

theorem State.startLossHold_eq : s.startLossHold = { s with picture := { s.picture with lossHoldDue := s.lossHoldAfter } } := by
  have same (h : s.lossHoldAfter = s.picture.lossHoldDue) :
      s = { s with picture := { s.picture with lossHoldDue := s.lossHoldAfter } } := by rw [h]
  unfold State.startLossHold
  split
  · rename_i h; exact same (by simp [State.lossHoldAfter, h])
  · rename_i g h
    split
    · rename_i h0; exact same (by simp [State.lossHoldAfter, h, h0])
    · rename_i h0; simp [State.lossHoldAfter, h, h0]

/-- R24, R27, R28: the picture without an entry that has been lost. -/
def State.pictureWithout (s : State) (e : PeerEntry) : Picture :=
  { s.picture with
    entries := s.picture.entries.filter fun f => !f.hasKey e.station e.channel
    counters := { s.picture.counters with entriesLost := up16 s.picture.counters.entriesLost }
    lossHoldDue := if e.isFeed then s.lossHoldAfter else s.picture.lossHoldDue }

/-- R27, R28: a removal changes the picture and asks the alarm unit. -/
theorem State.removePeer_frame (e : PeerEntry) :
    ∃ a, s.removePeer e = { s with picture := s.pictureWithout e, agenda := a } := by
  unfold State.removePeer
  extract_lets rest p s1 s2 s3
  have h3 : s3 = { s2 with picture := s.pictureWithout e } := by
    simp only [s3]; split
    · rename_i hf
      rw [State.startLossHold_eq, State.pictureWithout, if_pos hf]
      rfl
    · rename_i hf
      rw [State.pictureWithout, if_neg hf]
      rfl
  rw [h3]
  split <;> exact ⟨_, rfl⟩

theorem State.startLossHold_peers : s.startLossHold.peers = s.peers := by rw [State.startLossHold_eq]; rfl

/-- R24, R27: a removal leaves the other entries. -/
theorem State.removePeer_safe (e : PeerEntry) : s.PictureSafe (s.removePeer e) := by
  obtain ⟨a, h⟩ := s.removePeer_frame e
  rw [h]
  exact .of_sublist List.filter_sublist rfl

theorem State.createPeer_safe {e : PeerEntry} (ho : e.station ≠ s.ownNumber) : s.PictureSafe (s.createPeer e) := by
  unfold State.createPeer
  split
  · rename_i hr
    exact (State.placePeer_safe (.inl hr) fun _ => ho).trans (.of_peers rfl)
  · refine .of_peers ?_
    simp only; split <;> rfl

/-- R22 to R25: a notice of another station that is used. -/
theorem State.useNotice_safe {e : PeerEntry} (ho : e.station ≠ s.ownNumber) : s.PictureSafe (s.useNotice e) := by
  unfold State.useNotice
  split
  · exact s.createPeer_safe ho
  · rename_i old hold
    have replaced : s.PictureSafe (s.placePeer e) :=
      State.placePeer_safe (.inr ⟨old, State.findPeer_mem hold, State.findPeer_key hold⟩) fun _ => ho
    extract_lets s1
    have changed : s.PictureSafe s1 := replaced.trans (.of_peers rfl)
    split
    · exact replaced
    · split
      · exact changed.trans (.of_peers s1.startLossHold_peers)
      · exact changed

theorem State.signOfLife_peers (n : Nat) : (s.signOfLife n).peers = s.peers := by
  unfold State.signOfLife; simp only; repeat' split
  all_goals rfl

theorem State.restartRefresh_peers : s.restartRefresh.peers = s.peers := by
  unfold State.restartRefresh; repeat' split
  all_goals rfl

theorem State.considerOrder_peers (c : FiringOrder) (b : Bool) : (s.considerOrder c b).peers = s.peers := by
  have adopted : (s.adopt c b).peers = s.peers := by
    unfold State.adopt
    extract_lets p s1 s2 s3
    have h2 : s2.peers = s.peers := (peers_of_outlook (s1.append_outlook _ _ _ _ _)).trans rfl
    rw [State.restartRefresh_peers]
    simp only [s3]; split
    · exact h2
    · exact h2
  unfold State.considerOrder; split
  · exact adopted
  · rfl
  · rfl

theorem State.originate_peers : s.originate.peers = s.peers := by
  unfold State.originate; repeat' split
  · rfl
  · exact (peers_of_outlook (State.offer_outlook _ _)).trans (s.considerOrder_peers _ _)
  · rfl

theorem State.refreshOrder_peers : s.refreshOrder.peers = s.peers := by
  unfold State.refreshOrder; split
  · rfl
  · exact (State.restartRefresh_peers _).trans (peers_of_outlook (s.offer_outlook _))

/-- R7: a notice of another station handed on. -/
theorem State.handOn_safe {origin : Nat} (ho : origin ≠ s.ownNumber) (n : Notice) : s.PictureSafe (s.handOn origin n) := by
  cases n with
  | heat =>
    unfold State.handOn State.heatNotice; simp only; split
    · exact .of_peers rfl
    · exact s.useNotice_safe ho
  | air =>
    unfold State.handOn State.airNotice; simp only; split
    · exact .of_peers rfl
    · exact s.useNotice_safe ho
  | order =>
    refine .of_peers ?_
    unfold State.handOn State.orderNotice; simp only; split
    · rfl
    · exact s.considerOrder_peers _ _
  | alarm => exact .of_peers (peers_of_still (s.alarmNotice_still _ _ _ _ _ _))
  | ack => exact .of_peers (peers_of_still (s.ackNotice_still _ _ _ _ _))
  | mark => exact .of_peers (peers_of_outlook (s.markNotice_outlook _))
  | summary => exact .of_peers (peers_of_outlook (s.summaryNotice_outlook _ _))

theorem State.accept_safe {origin : Nat} (ho : origin ≠ s.ownNumber) (n : Notice) : s.PictureSafe (s.accept origin n) := by
  unfold State.accept
  extract_lets s1 l s2
  have heard : (s2.signOfLife origin).peers = s.peers := by
    rw [State.signOfLife_peers]
    simp only [s2]; split
    · exact (peers_of_outlook (State.clearSilence_outlook _)).trans rfl
    · rfl
  have own : (s2.signOfLife origin).ownNumber = s.ownNumber := State.ownNumber_of_cfg (Prod.mk.inj heard).2
  exact (State.PictureSafe.of_peers heard).trans (State.handOn_safe _ (own ▸ ho) n)

theorem State.checkFrame_safe (o k : Nat) (p : List Byte) (b : Bool) : s.PictureSafe (s.checkFrame o k p b) := by
  unfold State.checkFrame; repeat' split
  case h_2 => exact s.accept_safe ‹_› _
  case h_1 => exact .refl s
  case isFalse.isFalse.isFalse.isFalse.isTrue => exact .of_peers (peers_of_outlook s.ownOrigin_outlook)
  all_goals exact .of_peers rfl

theorem State.hearBurst_safe (burst : List Byte) : s.PictureSafe (s.hearBurst burst) := by
  have busy : s.PictureSafe s.mediumBusy := .of_peers (peers_of_outlook s.mediumBusy_outlook)
  unfold State.hearBurst; simp only; split
  · exact .refl s
  · split
    · exact busy
    · exact busy.trans (.of_peers rfl)
    · exact busy.trans (.of_peers rfl)
    · exact busy.trans (State.checkFrame_safe _ _ _ _ _)

theorem State.goAbsent_safe (n : Nat) : s.PictureSafe (s.goAbsent n) := by
  have removed (l : List PeerEntry) (t : State) : t.PictureSafe (l.foldl State.removePeer t) := by
    induction l generalizing t with
    | nil => exact .refl t
    | cons e l ih => exact (t.removePeer_safe e).trans (ih _)
  unfold State.goAbsent
  extract_lets mark p s1 s2
  have h1 : s.PictureSafe s1 := .of_peers rfl
  have h2 : s.PictureSafe s2 := h1.trans (removed _ s1)
  refine h2.trans (.of_peers (peers_of_still ?_))
  rw [State.orphan_still, State.settle_still]

/-! ## The control update, the entry to RUN and the inputs -/

theorem State.updateExpires_peers (n : Nat) : (s.updateExpires n).peers = s.peers := by
  have moved (t : State) : t.slew.updateEstimate.peers = t.peers := by
    unfold State.updateEstimate State.slew; repeat' split
    all_goals rfl
  exact (peers_of_outlook (State.control_outlook _)).trans (moved _)

theorem State.enterRun_peers : s.enterRun.peers = s.peers := by
  have entered (u : State) : (u.kickAccess.eachSlot State.slotToRun).endMarks.peers = u.peers := by
    refine peers_of_outlook ?_
    rw [State.endMarks_outlook]
    exact outlook_of_still (by rw [eachSlot_still State.slotToRun_still, State.kickAccess_still])
  unfold State.enterRun
  extract_lets p c s1 s3 s4 desk s5
  have h3 : s3.peers = s.peers := entered s1
  clear_value s3
  have h4 : s4.peers = s.peers := by
    simp only [s4]; split <;> exact h3
  clear_value s4
  have h5 : s5.peers = s.peers := by
    simp only [s5]; split
    · rw [State.refreshOrder_peers, h4]
    · exact h4
  split
  · rw [peers_of_outlook (State.firstShift_outlook _ _), h5]
  · exact h5

theorem State.inputLost_still (k : Fin 16) : (s.inputLost k).still = s.still := by
  unfold State.inputLost; repeat' split
  all_goals simp

theorem State.inputBack_still (k : Fin 16) : (s.inputBack k).still = s.still := by
  unfold State.inputBack; repeat' split
  all_goals simp

theorem State.takeWord_peers (k : Fin 16) (n : Nat) (b : Bool) : (s.takeWord k n b).peers = s.peers := by
  have sample : (s.takeSample k n).peers = s.peers := by
    unfold State.takeSample
    extract_lets c was s1 s2
    have h2 : s2.peers = s.peers := by simp only [s2]; split <;> rfl
    split
    · exact h2
    · exact (peers_of_still (s2.inputBack_still k)).trans h2
  have item : (s.takeItem k n).peers = s.peers := by
    unfold State.takeItem; simp only; split
    · rfl
    · exact (peers_of_still (State.itemWeighed_still _ _ _)).trans rfl
  unfold State.takeWord; repeat' split
  · rfl
  · exact item
  · exact sample
  · rfl

theorem State.holdExpires_peers (k : Fin 16) : (s.holdExpires k).peers = s.peers := by
  unfold State.holdExpires
  extract_lets x c first s1 s2
  have h2 : s2.peers = s.peers := by simp only [s2]; split <;> rfl
  exact (peers_of_still (s2.inputLost_still k)).trans h2

/-! ## The starts -/

theorem State.mapOutput_outlook (o : Fin 8) : (s.mapOutput o).outlook = s.outlook := by
  unfold State.mapOutput; simp only; split
  · rfl
  · exact (outlook_of_still (State.writeLatch_still _ _ _)).trans rfl

theorem State.readOtp_outlook (line : Bool) : (s.readOtp line).outlook = s.outlook :=
  (outlook_of_still (State.kickStream_still _)).trans rfl

theorem State.acceptImage_picture (img : List Byte) : (s.acceptImage img).picture = s.picture := by
  have mapped (u : State) : (outputList.foldl State.mapOutput u).picture = u.picture :=
    picture_of_outlook (foldl_outlook State.mapOutput State.mapOutput_outlook outputList u)
  unfold State.acceptImage
  extract_lets g slots heat fields chan s1 chan' s2 s3 s4
  have h3 : s3.picture = s.picture := mapped s2
  clear_value s3
  have h4 : s4.picture = s.picture := by
    simp only [s4]; split <;> exact h3
  clear_value s4
  exact (picture_of_still s4.settle_still).trans h4

theorem State.startScan_outlook : s.startScan.outlook = s.outlook := by
  have repaired (t : State) (e : Fin 32) : (t.repairChain e).outlook = t.outlook := by
    unfold State.repairChain; simp only; repeat' split
    all_goals rfl
  have orphaned (c : List (Fin 128)) (t : State) (g : Fin 128) : (State.orphanGranule c t g).outlook = t.outlook := by
    unfold State.orphanGranule; split <;> rfl
  have scanned (t : State) (e : Fin 32) : (t.scanFile e).outlook = t.outlook := by
    unfold State.scanFile; simp only; repeat' split
    all_goals rfl
  unfold State.startScan
  simp only
  rw [foldl_outlook _ scanned, foldl_outlook _ (orphaned _), foldl_outlook _ repaired]

theorem State.enterNext_entries : s.enterNext.picture.entries = s.picture.entries := by
  have ran (t : State) : t.runStore.picture = t.picture := picture_of_outlook t.runStore_outlook
  unfold State.enterNext; simp only; repeat' split
  · rw [ran]
  · rw [ran]
  · rw [ran]
    exact (congrArg Picture.entries (picture_of_outlook (foldl_outlook _ State.takeReport_outlook _ _))).trans rfl

/-- R38: a start leaves the picture empty. -/
theorem State.start_entries (line strap : Bool) : (s.start line strap).picture.entries = [] := by
  unfold State.start
  extract_lets s1 a s2 s3
  have read (u : State) : (u.readOtp line).picture = u.picture := picture_of_outlook (u.readOtp_outlook line)
  have h2 : s2.picture = {} := read _
  clear_value s2
  have h3 : s3.picture.entries = [] := by
    simp only [s3]; split
    · rw [h2]
    · rw [State.acceptImage_picture, h2]
  have scanned : s3.startScan.picture = s3.picture := picture_of_outlook s3.startScan_outlook
  have settled : s3.startScan.enterNext.settle.picture = _ := picture_of_still (State.settle_still _)
  rw [settled, State.enterNext_entries, scanned, h3]

end

/-! ## Every command -/

/-- R21: a command's meaning keeps the peer channel table legal and in order. -/
def KeepsPicture (c : Instr) : Prop := ∀ s : State, ∃ t, exec c s = .next t ∧ s.PictureSafe t

/-- A command that is an event. -/
theorem keepsPicture_of_event {c : Instr} {f : State → State} (hc : ∀ s, exec c s = .next (s.takeEvent f))
    (h : ∀ t : State, t.PictureSafe (f t)) : KeepsPicture c := by
  refine fun s => ⟨_, hc s, ?_⟩
  unfold State.takeEvent; split
  · refine .trans ?_ (.of_peers (peers_of_still (State.settle_still _)))
    exact .after (t := s.begun) rfl (h _)
  · exact .refl s

/-- A command that is an event which leaves the table alone. -/
theorem keepsPicture_of_peers {c : Instr} {f : State → State} (hc : ∀ s, exec c s = .next (s.takeEvent f))
    (h : ∀ t : State, (f t).peers = t.peers) : KeepsPicture c :=
  keepsPicture_of_event hc fun t => .of_peers (h t)

/-- A command that is an event which leaves the outlook alone. -/
theorem keepsPicture_of_outlook {c : Instr} {f : State → State} (hc : ∀ s, exec c s = .next (s.takeEvent f))
    (h : ∀ t : State, (f t).outlook = t.outlook) : KeepsPicture c :=
  keepsPicture_of_peers hc fun t => peers_of_outlook (h t)

/-! ### The starts -/

theorem keepsPicture_powerOnStart (b : Bool) : KeepsPicture (.powerOnStart b) :=
  fun _ => ⟨_, rfl, .of_empty (State.start_entries _ _ _)⟩

theorem keepsPicture_resetAsserted : KeepsPicture .resetAsserted := by
  refine fun s => ⟨_, rfl, ?_⟩
  split
  · exact .of_empty rfl
  · exact .refl s

theorem keepsPicture_lineRestart (b : Bool) : KeepsPicture (.lineRestart b) := by
  refine fun s => ⟨_, rfl, ?_⟩
  split
  · exact .of_empty (State.start_entries _ _ _)
  · exact .refl s

theorem keepsPicture_supplyFailure (w : Option Nat) : KeepsPicture (.supplyFailure w) := by
  refine fun s => ⟨_, rfl, ?_⟩
  split
  · exact .of_empty rfl
  · exact .refl s

theorem keepsPicture_listenTimerExpiry : KeepsPicture .listenTimerExpiry := by
  refine keepsPicture_of_peers (fun _ => rfl) fun t => ?_
  split
  · rfl
  · exact (State.enterRun_peers _).trans rfl

/-! ### The floor picture -/

theorem keepsPicture_staleTimeExpiry (n ch : Nat) : KeepsPicture (.staleTimeExpiry n ch) := by
  refine keepsPicture_of_event (fun _ => rfl) fun t => ?_
  split
  · rename_i e g he hg
    split
    · have reached : t.PictureSafe (t.reach (e.last + g.staleTime)) := .of_peers rfl
      have mem := State.findPeer_mem he
      exact reached.trans (State.placePeer_safe (.inr ⟨e, mem, rfl⟩) fun hs => hs.2 e mem)
    · exact .refl t
  · exact .refl t

theorem keepsPicture_lostTimeExpiry (n ch : Nat) : KeepsPicture (.lostTimeExpiry n ch) := by
  refine keepsPicture_of_event (fun _ => rfl) fun t => ?_
  split
  · exact .refl t
  · exact .after (t := t.reach _) rfl (State.removePeer_safe _ _)

theorem keepsPicture_lossHoldExpiry : KeepsPicture .lossHoldExpiry := by
  refine keepsPicture_of_peers (fun _ => rfl) fun t => ?_
  split <;> rfl

theorem keepsPicture_stationAbsent (n : Nat) : KeepsPicture (.stationAbsent n) := by
  refine keepsPicture_of_event (fun _ => rfl) fun t => ?_
  repeat' split
  · exact .refl t
  · exact .after (t := t.reach _) rfl (State.goAbsent_safe _ n)
  · exact .refl t

theorem keepsPicture_take : KeepsPicture .take := by
  refine keepsPicture_of_peers (fun _ => rfl) fun t => ?_
  repeat' split
  · rfl
  · exact t.originate_peers
  · rfl
  · rfl

theorem keepsPicture_refreshTimerExpiry : KeepsPicture .refreshTimerExpiry := by
  refine keepsPicture_of_peers (fun _ => rfl) fun t => ?_
  split
  · rfl
  · exact (State.refreshOrder_peers _).trans rfl

theorem keepsPicture_controlUpdate : KeepsPicture .controlUpdate := by
  refine keepsPicture_of_peers (fun _ => rfl) fun t => ?_
  split
  · rfl
  · exact State.updateExpires_peers _ _

/-! ### The timers and lines of the other blocks -/

theorem keepsPicture_duplicateTimerExpiry : KeepsPicture .duplicateTimerExpiry := by
  refine keepsPicture_of_peers (fun _ => rfl) fun t => ?_
  split <;> rfl

theorem keepsPicture_silenceTimerExpiry : KeepsPicture .silenceTimerExpiry := by
  refine keepsPicture_of_peers (fun _ => rfl) fun t => ?_
  split
  · rfl
  · exact (peers_of_outlook (State.setSilence_outlook _)).trans rfl

theorem keepsPicture_collision : KeepsPicture .collision := by
  refine keepsPicture_of_outlook (fun _ => rfl) fun t => ?_
  split
  · exact t.collide_outlook
  · rfl

theorem keepsPicture_sentCleanly : KeepsPicture .sentCleanly := by
  refine keepsPicture_of_outlook (fun _ => rfl) fun t => ?_
  split
  · exact t.sent_outlook
  · rfl

theorem keepsPicture_startTimerExpiry (i : Fin 4) : KeepsPicture (.startTimerExpiry i) := by
  refine keepsPicture_of_peers (fun _ => rfl) fun t => ?_
  unfold State.onCf; simp only; repeat' split
  · rfl
  · exact (peers_of_still (State.cfStop_still _ _ _ _)).trans rfl
  · rfl
  · rfl

theorem keepsPicture_freshTimeExpiry (k : Fin 16) : KeepsPicture (.freshTimeExpiry k) := by
  refine keepsPicture_of_peers (fun _ => rfl) fun t => ?_
  split <;> rfl

theorem keepsPicture_holdTimeExpiry (k : Fin 16) : KeepsPicture (.holdTimeExpiry k) := by
  refine keepsPicture_of_peers (fun _ => rfl) fun t => ?_
  split
  · rfl
  · exact (State.holdExpires_peers _ k).trans rfl

theorem keepsPicture_runPermitEdge (i : Fin 4) (b : Bool) : KeepsPicture (.runPermitEdge i b) := by
  refine keepsPicture_of_peers (fun _ => rfl) fun t => ?_
  simp only; repeat' split
  case h_2 => exact (peers_of_still (State.cfPermitFalls_still _ _ _)).trans rfl
  case h_3 => exact (peers_of_still (State.diPermitFalls_still _ _ _)).trans rfl
  case h_4 => exact (peers_of_still (State.caPermitFalls_still _ _ _)).trans rfl
  case h_5 => exact (peers_of_still (State.cgPermitFalls_still _ _ _)).trans rfl
  all_goals rfl

theorem keepsPicture_initialLevel (line : InputLine) (b : Bool) : KeepsPicture (.initialLevel line b) := by
  refine keepsPicture_of_peers (fun _ => rfl) fun t => ?_
  repeat' split
  case h_2 => exact peers_of_still (t.confirm_still _ _ _)
  all_goals rfl

theorem keepsPicture_driveWord : KeepsPicture .driveWord :=
  keepsPicture_of_peers (fun _ => rfl) fun _ => (peers_of_still (State.kickStream_still _)).trans rfl

theorem keepsPicture_driveRefreshTimerExpiry : KeepsPicture .driveRefreshTimerExpiry := by
  refine keepsPicture_of_peers (fun _ => rfl) fun t => ?_
  split
  · rfl
  · exact (peers_of_still (State.kickStream_still _)).trans rfl

theorem keepsPicture_phaseTimerExpiry (i : Fin 4) : KeepsPicture (.phaseTimerExpiry i) := by
  refine keepsPicture_of_peers (fun _ => rfl) fun t => ?_
  unfold State.onDi; simp only; repeat' split
  · rfl
  · exact (peers_of_still (State.gateJam_still _ _ _)).trans rfl
  · rfl

theorem keepsPicture_jamClear (i : Fin 4) : KeepsPicture (.jamClear i) := by
  refine keepsPicture_of_peers (fun _ => rfl) fun t => peers_of_still (onDi_still t i fun d => ?_)
  split <;> simp

theorem keepsPicture_divertTimerExpiry (i : Fin 4) : KeepsPicture (.divertTimerExpiry i) := by
  refine keepsPicture_of_peers (fun _ => rfl) fun t => ?_
  unfold State.onDi; simp only; repeat' split
  all_goals rfl

theorem keepsPicture_tripLineObserved (b : Bool) : KeepsPicture (.tripLineObserved b) := by
  have zeroed (u : State) : u.zeroFeeds.still = u.still :=
    foldl_still _ (fun t o => by split <;> simp) _ _
  have observed (u : State) :
      (if b then u.zeroFeeds.evalTrips.eachSlot State.interrupt else u.evalTrips).peers = u.peers := by
    refine peers_of_still ?_
    split
    · rw [eachSlot_still State.interrupt_still, State.evalTrips_still, zeroed]
    · exact u.evalTrips_still
  refine keepsPicture_of_peers (fun _ => rfl) fun t => ?_
  split
  · rfl
  · extract_lets a u v
    have hv : v.peers = t.peers := observed u
    clear_value v
    split <;> exact hv

theorem keepsPicture_silence : KeepsPicture .silence := by
  refine keepsPicture_of_peers (fun _ => rfl) fun t => ?_
  split <;> rfl

theorem keepsPicture_shiftTimerExpiry : KeepsPicture .shiftTimerExpiry := by
  refine keepsPicture_of_peers (fun _ => rfl) fun t => ?_
  split
  · rfl
  · exact (peers_of_outlook (State.closeByTimer_outlook _)).trans rfl

theorem keepsPicture_collationTimerExpiry : KeepsPicture .collationTimerExpiry := by
  refine keepsPicture_of_peers (fun _ => rfl) fun t => ?_
  split
  · rfl
  · exact (peers_of_outlook (State.endCollation_outlook _ _)).trans rfl

/-! ### Every command and every step -/

/-- R21: every command keeps the peer channel table legal and in order. -/
theorem exec_keepsPicture : ∀ c : Instr, KeepsPicture c
  | .powerOnStart b => keepsPicture_powerOnStart b
  | .resetAsserted => keepsPicture_resetAsserted
  | .lineRestart b => keepsPicture_lineRestart b
  | .listenTimerExpiry => keepsPicture_listenTimerExpiry
  | .frameReceived b => keepsPicture_of_event (fun _ => rfl) fun t => t.hearBurst_safe b
  | .frameCutShort b => keepsPicture_of_event (fun _ => rfl) fun t => t.hearBurst_safe b
  | .duplicateTimerExpiry => keepsPicture_duplicateTimerExpiry
  | .silenceTimerExpiry => keepsPicture_silenceTimerExpiry
  | .quietGap => keepsPicture_of_outlook (fun _ => rfl) fun t => t.mediumQuiet_outlook
  | .backoffSlot => keepsPicture_of_outlook (fun _ => rfl) fun t => t.countSlot_outlook
  | .defer => keepsPicture_of_outlook (fun _ => rfl) fun t => t.mediumBusy_outlook
  | .collision => keepsPicture_collision
  | .sentCleanly => keepsPicture_sentCleanly
  | .staleTimeExpiry n ch => keepsPicture_staleTimeExpiry n ch
  | .lostTimeExpiry n ch => keepsPicture_lostTimeExpiry n ch
  | .lossHoldExpiry => keepsPicture_lossHoldExpiry
  | .stationAbsent n => keepsPicture_stationAbsent n
  | .take => keepsPicture_take
  | .refreshTimerExpiry => keepsPicture_refreshTimerExpiry
  | .controlUpdate => keepsPicture_controlUpdate
  | .startTimerExpiry i => keepsPicture_startTimerExpiry i
  | .sampleWord k n b => keepsPicture_of_peers (fun _ => rfl) fun t => t.takeWord_peers k n.toNat b
  | .freshTimeExpiry k => keepsPicture_freshTimeExpiry k
  | .holdTimeExpiry k => keepsPicture_holdTimeExpiry k
  | .runPermitEdge i b => keepsPicture_runPermitEdge i b
  | .gateConfirmation i w b => keepsPicture_of_peers (fun _ => rfl) fun t => peers_of_still (t.confirm_still i w b)
  | .phaseTimerExpiry i => keepsPicture_phaseTimerExpiry i
  | .jamClear i => keepsPicture_jamClear i
  | .divertTimerExpiry i => keepsPicture_divertTimerExpiry i
  | .driveWord => keepsPicture_driveWord
  | .driveRefreshTimerExpiry => keepsPicture_driveRefreshTimerExpiry
  | .tripLineObserved b => keepsPicture_tripLineObserved b
  | .acknowledge => keepsPicture_of_peers (fun _ => rfl) fun t => peers_of_still t.panelAckAll_still
  | .silence => keepsPicture_silence
  | .shiftTimerExpiry => keepsPicture_shiftTimerExpiry
  | .collationTimerExpiry => keepsPicture_collationTimerExpiry
  | .programCompletion b => keepsPicture_of_outlook (fun _ => rfl) fun t => t.programEnds_outlook b
  | .eraseCompletion b => keepsPicture_of_outlook (fun _ => rfl) fun t => t.eraseEnds_outlook b
  | .status => keepsPicture_of_outlook (fun _ => rfl) fun _ => rfl
  | .ident => keepsPicture_of_outlook (fun _ => rfl) fun t => t.answer_outlook _
  | .dirEntry _ => keepsPicture_of_outlook (fun _ => rfl) fun t => t.answer_outlook _
  | .pictureEntry _ => keepsPicture_of_outlook (fun _ => rfl) fun t => t.answer_outlook _
  | .alarmEntry _ => keepsPicture_of_outlook (fun _ => rfl) fun t => t.answer_outlook _
  | .channelView _ => keepsPicture_of_outlook (fun _ => rfl) fun t => t.answer_outlook _
  | .window e m o => keepsPicture_of_outlook (fun _ => rfl) fun t => t.openWindow_outlook e m o
  | .stream n => keepsPicture_of_outlook (fun _ => rfl) fun t => t.streamUnits_outlook n
  | .prefetchReadDone => keepsPicture_of_outlook (fun _ => rfl) fun t => t.readEnds_outlook
  | .writeEnable => keepsPicture_of_outlook (fun _ => rfl) fun t => t.closeWindow_outlook
  | .configWrite _ _ _ => keepsPicture_of_outlook (fun _ => rfl) fun t => t.areaCommand_outlook _ _
  | .configErase => keepsPicture_of_outlook (fun _ => rfl) fun t => t.areaCommand_outlook _ _
  | .configOperationCompletion b => keepsPicture_of_outlook (fun _ => rfl) fun t => t.configCompletes_outlook b
  | .otpWrite _ _ _ => keepsPicture_of_outlook (fun _ => rfl) fun t => t.areaCommand_outlook _ _
  | .freeze => keepsPicture_of_outlook (fun _ => rfl) fun t => t.areaCommand_outlook _ _
  | .otpProgramCompletion b => keepsPicture_of_outlook (fun _ => rfl) fun t => t.otpCompletes_outlook b
  | .flush => keepsPicture_of_outlook (fun _ => rfl) fun t => t.flushQueue_outlook
  | .commandDiscarded => keepsPicture_of_outlook (fun _ => rfl) fun _ => rfl
  | .unknownCommand _ => keepsPicture_of_outlook (fun _ => rfl) fun _ => rfl
  | .supplyFailure w => keepsPicture_supplyFailure w
  | .initialLevel l b => keepsPicture_initialLevel l b

theorem exec_keepsPicture_after {s u : State} (h : u.peers = s.peers) (c : Instr) :
    ∃ t, exec c u = .next t ∧ s.PictureSafe t := by
  obtain ⟨t, ht, safe⟩ := exec_keepsPicture c u
  exact ⟨t, ht, .after h safe⟩

theorem idle_pictureSafe (s : State) : ∃ t, idle s = .next t ∧ s.PictureSafe t := by
  unfold idle
  repeat' split
  · exact ⟨_, rfl, .of_peers rfl⟩
  · exact exec_keepsPicture _ s
  · exact exec_keepsPicture_after (s := s) (u := s.useFree 1) rfl _
  · exact ⟨_, rfl, .refl s⟩

/-- R21: every step keeps the peer channel table legal and in order. -/
theorem step_pictureSafe {s t : State} (h : step s = .next t) : s.PictureSafe t := by
  have steps : ∃ t, step s = .next t ∧ s.PictureSafe t := by
    unfold step
    split
    · rename_i c rest _
      exact exec_keepsPicture_after (s := s) (u := { s with pending := rest }) rfl c
    · exact idle_pictureSafe s
  obtain ⟨u, hu, safe⟩ := steps
  cases hu.symm.trans h
  exact safe

/-- Settles O10: every command keeps the table, and so does a step, which is a command or lets time pass. -/
theorem pictureStaysLegal : Obligations.PictureStaysLegal :=
  ⟨fun _ _ hs h => (step_pictureSafe h).legal hs, fun _ _ hs h => (step_pictureSafe h).sorted hs⟩

end Sys2Proof.Machine
end

section
/-! PROOFS. Silence on the floor: entries that go STALE and are lost, the loss hold, and stations that go ABSENT (R26 to
R31). -/

namespace Sys2Proof.Machine

/-! ## Entries that go STALE (R26, R29) -/

theorem exec_staleTimeExpiry {s : State} {station channel : Nat} {e : PeerEntry} {g : Cfg} (h : s.calm)
    (hg : s.cfg = some g) (he : s.findPeer station channel = some e) (ha : e.age = .fresh) :
    exec (.staleTimeExpiry station channel) s =
      .next ((s.begun.reach (e.last + g.staleTime)).placePeer { e with age := .stale }) := by
  have found : s.begun.findPeer station channel = some e := he
  have taken : s.begun.cfg = some g := hg
  simp only [exec, execStaleTimeExpiry]
  rw [s.takeEvent_calm _ h] <;> simp only [found, taken, ha, if_true]
  exact h.2

/-- Settles O28: the entry takes its place again, STALE. -/
theorem silentEntriesGoStale : Obligations.SilentEntriesGoStale := by
  intro s station channel e g h hg he ha
  obtain ⟨rfl, rfl⟩ := Prod.mk.inj (State.findPeer_key he)
  let u := s.begun.reach (e.last + g.staleTime)
  refine ⟨_, exec_staleTimeExpiry h hg he ha, u.placePeer_findPeer_self { e with age := .stale }, ?_,
    fun st ch hk => u.placePeer_findPeer_other hk, rfl, rfl, rfl⟩
  have stale : { e with age := .stale } ∈ (u.placePeer { e with age := .stale }).picture.entries := mem_placed.2 (.inl rfl)
  rw [State.pictureHold, List.any_eq_true.2 ⟨_, stale, rfl⟩, Bool.true_or]

/-! ## Entries that are lost (R27, R28) -/

theorem State.lossHoldAfter_of_cfg {s : State} {g : Cfg} (hg : s.cfg = some g) :
    s.lossHoldAfter = if g.lossHold = 0 then s.picture.lossHoldDue else some (s.now + g.lossHold * 1000) := by
  simp [State.lossHoldAfter, hg]

theorem State.pictureWithout_lossHoldDue {s : State} {g : Cfg} (hg : s.cfg = some g) (e : PeerEntry) :
    (s.pictureWithout e).lossHoldDue =
      if e.isFeed = true ∧ g.lossHold ≠ 0 then some (s.now + g.lossHold * 1000) else s.picture.lossHoldDue := by
  simp only [State.pictureWithout, State.lossHoldAfter_of_cfg hg]
  by_cases hf : e.isFeed = true <;> by_cases h0 : g.lossHold = 0 <;> simp [hf, h0]

theorem exec_lostTimeExpiry {s : State} {station channel : Nat} {e : PeerEntry} {g : Cfg} (h : s.calm)
    (hg : s.cfg = some g) (he : s.findPeer station channel = some e) :
    exec (.lostTimeExpiry station channel) s = .next ((s.begun.reach (e.last + g.lostTime)).removePeer e).settle := by
  have found : s.begun.findPeer station channel = some e := he
  have lost : s.begun.lostTime = g.lostTime := by simp [State.lostTime, State.begun, hg]
  simp only [exec, execLostTimeExpiry]
  rw [s.takeEvent_live _ h.1]
  change Host.Outcome.next (State.settle (match s.begun.findPeer station channel with
    | none => s.begun
    | some e => (s.begun.reach (e.last + s.begun.lostTime)).removePeer e)) = _
  rw [found, ← lost]

theorem exec_lossHoldExpiry {s : State} {due : Nat} (h : s.calm) (hd : s.picture.lossHoldDue = some due) :
    exec .lossHoldExpiry s =
      .next { s.begun with now := max s.now due, picture := { s.picture with lossHoldDue := none } } := by
  have runs : s.begun.picture.lossHoldDue = some due := hd
  simp only [exec, execLossHoldExpiry]
  rw [s.takeEvent_calm _ h] <;> simp only [runs]
  · rfl
  · exact h.2

/-- Settles O29: a lost entry leaves the table, and the requests settled after it leave the picture alone. -/
theorem silentEntriesAreLost : Obligations.SilentEntriesAreLost := by
  refine ⟨fun s station channel e g h hg he => ?_, fun s due h hd => exec_lossHoldExpiry h hd⟩
  obtain ⟨rfl, rfl⟩ := Prod.mk.inj (State.findPeer_key he)
  let u := s.begun.reach (e.last + g.lostTime)
  obtain ⟨a, removed⟩ := u.removePeer_frame e
  have still := (u.removePeer e).settle_still
  have picture : (u.removePeer e).settle.picture = u.pictureWithout e := by
    rw [picture_of_still still, removed]
  have now : (u.removePeer e).settle.now = max s.now (e.last + g.lostTime) :=
    (congrArg Still.now still).trans (by rw [removed]; rfl)
  refine ⟨_, exec_lostTimeExpiry h hg he, ?_, now, fun st ch hk => ?_, ?_, ?_, ?_, ?_, ?_⟩
  · rw [State.findPeer, picture, List.find?_eq_none]
    exact fun f hf => Bool.not_eq_true _ ▸ PeerEntry.hasKey_eq_false_iff.2 (mem_others.1 hf).2
  · rw [State.findPeer, picture]
    exact find_others _ hk
  · rw [picture]; rfl
  · rw [picture, now]; exact State.pictureWithout_lossHoldDue (s := u) hg e
  · rw [picture]; rfl
  · exact (congrArg Still.fields still).trans (by rw [removed]; rfl)
  · exact (congrArg Still.nv still).trans (by rw [removed]; rfl)

/-! ## Stations that go ABSENT (R31) -/

/-- R27, R28: the picture without some entries that have been lost. -/
def State.pictureWithoutAll (s : State) (l : List PeerEntry) : Picture :=
  { s.picture with
    entries := s.picture.entries.filter fun e => l.all fun f => !e.hasKey f.station f.channel
    counters := { s.picture.counters with entriesLost := l.foldl (fun lost _ => up16 lost) s.picture.counters.entriesLost }
    lossHoldDue := if l.any PeerEntry.isFeed then s.lossHoldAfter else s.picture.lossHoldDue }

/-- R28: a start of the loss hold is none where it is configured as 0, and does not depend on the picture otherwise. -/
theorem State.lossHoldAfter_cases (s : State) :
    (∀ p a, State.lossHoldAfter { s with picture := p, agenda := a } = p.lossHoldDue) ∨
      ∀ p a, State.lossHoldAfter { s with picture := p, agenda := a } = s.lossHoldAfter := by
  unfold State.lossHoldAfter
  cases s.cfg with
  | none => exact .inl fun _ _ => rfl
  | some g =>
    by_cases h : g.lossHold = 0
    · exact .inl fun _ _ => by simp [h]
    · exact .inr fun _ _ => by simp [h]

/-- R27, R28: a removal and the removals after it. -/
theorem State.pictureWithoutAll_cons (s : State) (e : PeerEntry) (l : List PeerEntry) (a : List AlarmRequest) :
    State.pictureWithoutAll { s with picture := s.pictureWithout e, agenda := a } l = s.pictureWithoutAll (e :: l) := by
  have hold : (if l.any PeerEntry.isFeed then State.lossHoldAfter { s with picture := s.pictureWithout e, agenda := a }
        else (s.pictureWithout e).lossHoldDue) =
      if (e :: l).any PeerEntry.isFeed then s.lossHoldAfter else s.picture.lossHoldDue := by
    have same : (s.pictureWithout e).lossHoldDue = if e.isFeed then s.lossHoldAfter else s.picture.lossHoldDue := rfl
    rw [same, List.any_cons]
    rcases s.lossHoldAfter_cases with h | h
    · rw [h, same, show s.lossHoldAfter = s.picture.lossHoldDue from h s.picture s.agenda]
      simp only [ite_self]
    · rw [h]
      by_cases hf : e.isFeed = true <;> simp [hf]
  have left : (s.pictureWithout e).entries.filter (fun f => l.all fun k => !f.hasKey k.station k.channel) =
      s.picture.entries.filter fun f => (e :: l).all fun k => !f.hasKey k.station k.channel := by
    rw [State.pictureWithout, List.filter_filter]
    exact List.filter_congr fun f _ => by rw [List.all_cons, Bool.and_comm]
  rw [State.pictureWithoutAll, State.pictureWithoutAll, hold, left]
  rfl

/-- R27, R28: one removal after another. -/
theorem foldl_removePeer_frame (l : List PeerEntry) (s : State) :
    ∃ a, l.foldl State.removePeer s = { s with picture := s.pictureWithoutAll l, agenda := a } := by
  induction l generalizing s with
  | nil => exact ⟨s.agenda, by simp [State.pictureWithoutAll]⟩
  | cons e l ih =>
    obtain ⟨a, removed⟩ := s.removePeer_frame e
    obtain ⟨b, rest⟩ := ih { s with picture := s.pictureWithout e, agenda := a }
    exact ⟨b, by rw [List.foldl_cons, removed, rest, State.pictureWithoutAll_cons]⟩

/-- R31: the entries of a station. -/
def Picture.entriesOf (p : Picture) (station : Nat) : List PeerEntry := p.entries.filter fun e => e.station == station

/-- R31: an entry of the station list, as its station goes ABSENT. -/
def PeerStation.absent (station : Nat) (p : PeerStation) : PeerStation :=
  if p.station = station then { p with present := false } else p

@[simp] theorem PeerStation.absent_station (station : Nat) (p : PeerStation) : (p.absent station).station = p.station := by
  unfold PeerStation.absent; split <;> rfl

/-- R31: the picture as a station goes ABSENT. -/
def State.pictureAbsent (s : State) (station : Nat) : Picture :=
  { s.pictureWithoutAll (s.picture.entriesOf station) with
    stations := s.picture.stations.map (PeerStation.absent station)
    counters := { (s.pictureWithoutAll (s.picture.entriesOf station)).counters with
      absences := up16 s.picture.counters.absences } }

/-- R31: a station's passage to ABSENT; the requests and the orphans of its alarms leave the picture alone. -/
theorem State.goAbsent_still (s : State) (station : Nat) :
    (s.goAbsent station).still = { s.still with picture := s.pictureAbsent station } := by
  unfold State.goAbsent
  extract_lets mark p s1 s2
  obtain ⟨a, removed⟩ := foldl_removePeer_frame (s1.picture.entriesOf station) s1
  have h2 : s2 = { s1 with picture := s1.pictureWithoutAll (s1.picture.entriesOf station), agenda := a } := removed
  have picture : s1.pictureWithoutAll (s1.picture.entriesOf station) = s.pictureAbsent station := rfl
  rw [State.orphan_still, State.settle_still, h2, picture]
  rfl

/-- R31: entries of other stations alone are left. -/
theorem State.pictureAbsent_entries (s : State) (station : Nat) :
    (s.pictureAbsent station).entries = s.picture.entries.filter fun e => e.station != station := by
  refine List.filter_congr fun e he => ?_
  by_cases hs : e.station = station
  · have mem : e ∈ s.picture.entriesOf station := List.mem_filter.2 ⟨he, by simp [hs]⟩
    have : ((s.picture.entriesOf station).all fun f => !e.hasKey f.station f.channel) = false :=
      List.all_eq_false.2 ⟨e, mem, by simp [PeerEntry.hasKey]⟩
    rw [this]; simp [hs]
  · have : ((s.picture.entriesOf station).all fun f => !e.hasKey f.station f.channel) = true := by
      refine List.all_eq_true.2 fun f hf => ?_
      have := (List.mem_filter.1 hf).2
      simp only [beq_iff_eq] at this
      simp [PeerEntry.hasKey, this, hs]
    rw [this]; simp [hs]

theorem State.pictureAbsent_lossHoldDue {s : State} {g : Cfg} (hg : s.cfg = some g) (station : Nat) :
    (s.pictureAbsent station).lossHoldDue =
      if (∃ e ∈ s.picture.entries, e.station = station ∧ e.isFeed = true) ∧ g.lossHold ≠ 0
      then some (s.now + g.lossHold * 1000) else s.picture.lossHoldDue := by
  have feeds : (s.picture.entriesOf station).any PeerEntry.isFeed = true ↔
      ∃ e ∈ s.picture.entries, e.station = station ∧ e.isFeed = true := by
    simp only [Picture.entriesOf, List.any_eq_true, List.mem_filter, beq_iff_eq, and_assoc]
  change (if (s.picture.entriesOf station).any PeerEntry.isFeed = true then s.lossHoldAfter else s.picture.lossHoldDue) = _
  rw [State.lossHoldAfter_of_cfg hg]
  simp only [feeds]
  by_cases hf : ∃ e ∈ s.picture.entries, e.station = station ∧ e.isFeed = true
  · by_cases h0 : g.lossHold = 0 <;> simp [hf, h0]
  · simp [hf]

/-- R31: what the station list shows of a station, once one of them has gone ABSENT. -/
theorem find_absent (l : List PeerStation) (station other : Nat) :
    (l.map (PeerStation.absent station)).find? (·.station == other) =
      (l.find? (·.station == other)).map (PeerStation.absent station) := by
  rw [List.find?_map]
  congr 2
  funext p
  simp

theorem exec_stationAbsent {s : State} {station : Nat} {p : PeerStation} (h : s.calm)
    (hp : s.findStation station = some p) (present : p.present = true) :
    exec (.stationAbsent station) s = .next ((s.begun.reach (p.last + s.lostTime)).goAbsent station).settle := by
  have found : s.begun.findStation station = some p := hp
  simp only [exec, execStationAbsent]
  rw [s.takeEvent_live _ h.1]
  change Host.Outcome.next (State.settle (match s.begun.findStation station with
    | none => s.begun
    | some p => if p.present then (s.begun.reach (p.last + s.lostTime)).goAbsent station else s.begun)) = _
  rw [found]
  simp only [present, if_true]

/-- Settles O30: a station's passage to ABSENT changes the picture alone of the still parts. -/
theorem silentStationsGoAbsent : Obligations.SilentStationsGoAbsent := by
  intro s station p h hp present
  have key : p.station = station := by simpa using List.find?_some hp
  have taken := exec_stationAbsent h hp present
  have still := (State.settle_still _).trans ((s.begun.reach (p.last + s.lostTime)).goAbsent_still station)
  generalize hu : s.begun.reach (p.last + s.lostTime) = u at taken still
  generalize (u.goAbsent station).settle = t at taken still
  have picture : t.picture = u.pictureAbsent station := congrArg Still.picture still
  have now : t.now = max s.now (p.last + s.lostTime) := (congrArg Still.now still).trans (hu ▸ rfl)
  have before : u.picture = s.picture := hu ▸ rfl
  have clock : u.now = max s.now (p.last + s.lostTime) := hu ▸ rfl
  have fields : t.fields = s.fields := (congrArg Still.fields still).trans (hu ▸ rfl)
  have nv : t.nv = s.nv := (congrArg Still.nv still).trans (hu ▸ rfl)
  have cfg : u.cfg = s.cfg := hu ▸ rfl
  have entries : t.picture.entries = s.picture.entries.filter fun e => e.station != station := by
    rw [picture, State.pictureAbsent_entries, before]
  have stations (other : Nat) : t.findStation other = (s.findStation other).map (PeerStation.absent station) := by
    rw [State.findStation, State.findStation, picture, ← before]; exact find_absent _ _ _
  refine ⟨t, taken, now, fun e he => ?_, fun e he => ?_, fun st ch hne => ?_, ?_, fun other hne => ?_,
    fun q hq hs => ?_, ?_, ?_, fun g hg => ?_, ?_, fields, nv⟩
  · rw [entries] at he
    simpa using (List.mem_filter.1 he).2
  · rw [entries, List.mem_filter]
    simp [he]
  · rw [State.findPeer, entries, List.find?_filter]
    congr 1
    funext f
    by_cases hk : f.station = st
    · simp [PeerEntry.hasKey, hk, hne, beq_eq_decide]
    · simp [PeerEntry.hasKey, hk]
  · rw [stations, hp, Option.map_some, PeerStation.absent, if_pos key]
  · rw [stations]
    cases ho : s.findStation other with
    | none => rfl
    | some q =>
      have : q.station = other := by simpa using List.find?_some ho
      rw [Option.map_some, PeerStation.absent, if_neg (this ▸ hne)]
  · rw [picture] at hq
    obtain ⟨q, -, rfl⟩ := List.mem_map.1 hq
    rw [PeerStation.absent_station] at hs
    rw [PeerStation.absent, if_pos hs]
  · rw [picture, ← before]; rfl
  · rw [picture, ← before]; rfl
  · rw [picture, now, ← clock, ← before]; exact State.pictureAbsent_lossHoldDue (cfg.trans hg) station
  · rw [picture, ← before]; rfl

end Sys2Proof.Machine
end

section
/-! PROOFS. What a notice of a peer does to the picture: heat and air notices (R22 to R25, R185), and the comparison of firing
orders (R32). -/

namespace Sys2Proof.Machine

/-! ## A valid frame, as the picture stands when its notice is handed on (R7, R30) -/

/-- R30: a picture, as a station has given a sign of life that may be a return. -/
def Picture.withLife (p : Picture) (station now returns : Nat) : Picture :=
  { p with stations := heardStations station now p.stations, counters := { p.counters with returns := returns } }

/-- R30: what a sign of life shows. -/
theorem State.signOfLife_outlook {s : State} {g : Cfg} (hg : s.cfg = some g) (station : Nat) : ∃ r,
    (s.signOfLife station).outlook = { s.outlook with picture := s.picture.withLife station s.now r } := by
  unfold State.signOfLife
  rw [if_neg (by simp [hg])]
  extract_lets returned l s1
  split
  · exact ⟨up16 s.picture.counters.returns, rfl⟩
  · exact ⟨s.picture.counters.returns, rfl⟩

/-- R7, R30: what an accepted frame shows as its notice is handed on. -/
theorem State.accept_outlook {s : State} {g : Cfg} (hg : s.cfg = some g) (origin : Nat) (n : Notice) :
    ∃ (u : State) (r : Nat),
    u.outlook = { s.outlook with picture := s.picture.withLife origin s.now r } ∧ s.accept origin n = u.handOn origin n := by
  unfold State.accept
  extract_lets l s1 l1 s2
  have h2 : s2.outlook = s.outlook := by
    simp only [s2]; split
    · exact (State.clearSilence_outlook _).trans rfl
    · rfl
  have picture : s2.picture = s.picture := picture_of_outlook h2
  have now : s2.now = s.now := congrArg Outlook.now h2
  have cfg : s2.cfg = some g := (congrArg Outlook.cfg h2).trans hg
  clear_value s2
  obtain ⟨r, hr⟩ := State.signOfLife_outlook cfg origin
  exact ⟨_, r, by rw [hr, h2, picture, now], rfl⟩

section
variable {s : State} {burst : List Byte} {origin : Nat} {n : Notice}

/-- R3 to R7: what a valid frame shows as its notice is handed on. -/
theorem State.hears.listened (h : s.hears burst origin n) : ∃ (u : State) (r : Nat),
    u.outlook = { s.outlook with picture := s.picture.withLife origin s.now r } ∧
      exec (.frameReceived burst) s = .next (u.handOn origin n).settle := by
  obtain ⟨hs, hd, hlo, hhi, ⟨g, hg, hne⟩, kind, payload, ha, hk1, hk7, hfits, hparse⟩ := h
  have busy : s.begun.mediumBusy.outlook = s.outlook := (State.mediumBusy_outlook _).trans rfl
  have heard : s.begun.hearBurst burst = _ := State.hearBurst_frame (s := s.begun) hd ha
  rw [exec_frameReceived hs, heard]
  generalize s.begun.mediumBusy = b at busy
  have picture : b.picture = s.picture := picture_of_outlook busy
  have now : b.now = s.now := congrArg Outlook.now busy
  have cfg : b.cfg = some g := (congrArg Outlook.cfg busy).trans hg
  have own : b.ownNumber = g.station := by simp [State.ownNumber, cfg]
  obtain ⟨u, r, hu, taken⟩ := State.accept_outlook cfg origin n
  have checked : b.checkFrame origin kind payload true = b.accept origin n := by
    unfold State.checkFrame
    rw [if_neg (by simp), if_neg (by omega), if_neg (by omega), if_neg (by simp [hfits]), own, if_neg hne, hparse]
  exact ⟨u, r, by rw [hu, busy, picture, now], by rw [checked, taken]⟩

/-- R6, R7: a valid frame of another station leaves the fields and the nonvolatile memories as they are. -/
theorem State.hears.keeps {t : State} (h : s.hears burst origin n) (ht : exec (.frameReceived burst) s = .next t) :
    t.fields = s.fields ∧ t.nv = s.nv := by
  obtain ⟨u, g, heard, -, taken⟩ := h.taken
  obtain rfl : (u.handOn origin n).settle = t := by rw [taken] at ht; exact Host.Outcome.next.inj ht
  obtain ⟨-, -, -, -, fields, nv⟩ := heard.settled n
  exact ⟨fields, nv⟩

end

/-! ## The entry that a notice makes (R22 to R25) -/

section
variable {s : State} {e old : PeerEntry}

theorem State.useNotice_room (h : s.findPeer e.station e.channel = none) (room : s.picture.entries.length < 48) :
    (s.useNotice e).picture = (s.placePeer e).picture := by
  rw [State.useNotice, h]
  simp only [State.createPeer, Config.pictureSize, room, if_true]
  rfl

theorem State.useNotice_full (h : s.findPeer e.station e.channel = none) (full : 48 ≤ s.picture.entries.length) :
    (s.useNotice e).picture = (s.countPicture fun c => { c with fullRefusals := up16 c.fullRefusals }).picture := by
  rw [State.useNotice, h]
  simp only [State.createPeer, Config.pictureSize, Nat.not_lt.2 full, if_false]
  split <;> rfl

theorem State.useNotice_same (h : s.findPeer e.station e.channel = some old) (kind : old.isFeed = e.isFeed) :
    s.useNotice e = s.placePeer e := by
  rw [State.useNotice, h]
  exact if_pos kind

/-- R25, R28: an entry of one kind replaced by one of the other. -/
theorem State.useNotice_changed (h : s.findPeer e.station e.channel = some old) (kind : old.isFeed ≠ e.isFeed) :
    (s.useNotice e).picture = { (s.placePeer e).picture with
      counters := { s.picture.counters with kindChanges := up16 s.picture.counters.kindChanges }
      lossHoldDue := if old.isFeed then s.lossHoldAfter else s.picture.lossHoldDue } := by
  rw [State.useNotice, h]
  simp only
  rw [if_neg kind]
  split
  · rw [State.startLossHold_eq]; rfl
  · rfl

/-- R22 to R25: a notice that finds room, or an entry of its key, takes its place. -/
theorem State.useNotice_entries
    (h : s.picture.entries.length < 48 ∨ (s.findPeer e.station e.channel).isSome = true) :
    (s.useNotice e).picture.entries = (s.placePeer e).picture.entries := by
  cases found : s.findPeer e.station e.channel with
  | none => rw [State.useNotice_room found (h.resolve_right (by simp [found]))]
  | some old =>
    by_cases kind : old.isFeed = e.isFeed
    · rw [State.useNotice_same found kind]
    · rw [State.useNotice_changed found kind]

/-- R22 to R25: a notice that finds room, or an entry of its key, is the entry of its key, and the others stay. -/
theorem State.useNotice_findPeer
    (h : s.picture.entries.length < 48 ∨ (s.findPeer e.station e.channel).isSome = true) :
    (s.useNotice e).findPeer e.station e.channel = some e ∧
      ∀ st ch, (st, ch) ≠ (e.station, e.channel) → (s.useNotice e).findPeer st ch = s.findPeer st ch := by
  have entries := State.useNotice_entries h
  exact ⟨(State.findPeer_of_entries entries _ _).trans (s.placePeer_findPeer_self e),
    fun st ch hk => (State.findPeer_of_entries entries st ch).trans (s.placePeer_findPeer_other hk)⟩

end

section
variable {s : State} {origin channel : Nat}

/-- R22: the entry that a heat notice makes. -/
def heatEntry (now origin channel rank fuel state actual commanded : Nat) (held starved : Bool) : PeerEntry :=
  { station := origin, channel := channel, state := state, age := .fresh, last := now,
    body := .feed (min 400000 actual) (min 400000 commanded) fuel rank held starved }

/-- R185: the entry that an air notice makes. -/
def airEntry (now origin channel role recovered flow clinker state : Nat) (recup flush : Bool) : PeerEntry :=
  { station := origin, channel := channel, state := state, age := .fresh, last := now,
    body := .air role recup (min 400000 recovered) flow clinker flush }

theorem State.handOn_heat {g : Cfg} {rank fuel : Nat} (hg : s.cfg = some g) (hc : channel ≤ 3) (h1 : 1 ≤ rank)
    (h15 : rank ≤ 15) (h7 : fuel ≤ 7) (state actual commanded : Nat) (held starved : Bool) :
    s.handOn origin (.heat channel rank fuel state actual commanded held starved) =
      s.useNotice (heatEntry s.now origin channel rank fuel state actual commanded held starved) := by
  refine if_neg ?_
  rw [hg]; simp; omega

theorem State.handOn_air {g : Cfg} {role : Nat} (hg : s.cfg = some g) (hc : channel ≤ 3) (h1 : role ≤ 1)
    (recup flush : Bool) (state recovered flow clinker : Nat) :
    s.handOn origin (.air channel role recup flush state recovered flow clinker) =
      s.useNotice (airEntry s.now origin channel role recovered flow clinker state recup flush) := by
  refine if_neg ?_
  rw [hg]; simp; omega

/-- R22: a heat notice outside its ranges. -/
theorem State.handOn_heat_refused {rank fuel : Nat} (h : 3 < channel ∨ rank = 0 ∨ 15 < rank ∨ 7 < fuel)
    (state actual commanded : Nat) (held starved : Bool) :
    s.handOn origin (.heat channel rank fuel state actual commanded held starved) = s.refuseNotice := if_pos (.inr h)

/-- R22: an air notice outside its ranges. -/
theorem State.handOn_air_refused {role : Nat} (h : 3 < channel ∨ 1 < role) (recup flush : Bool)
    (state recovered flow clinker : Nat) :
    s.handOn origin (.air channel role recup flush state recovered flow clinker) = s.refuseNotice := if_pos (.inr h)

end

/-! ## Notices in the picture, clause by clause (R22 to R25, R185) -/

section
variable {s : State} {burst : List Byte} {origin : Nat} {n : Notice}

/-- R22 to R25: a notice that the picture uses: what stands after it is what `useNotice` makes of a picture with the table
of before. -/
theorem State.hears.uses {g : Cfg} (h : s.hears burst origin n) (hg : s.cfg = some g) {e : PeerEntry}
    (used : ∀ u : State, u.cfg = some g → u.now = s.now → u.handOn origin n = u.useNotice e) :
    ∃ t u : State, exec (.frameReceived burst) s = .next t ∧ t.picture = (u.useNotice e).picture ∧
      u.picture.entries = s.picture.entries ∧ u.picture.lossHoldDue = s.picture.lossHoldDue ∧
      u.lossHoldAfter = s.lossHoldAfter ∧
      u.picture.counters.fullRefusals = s.picture.counters.fullRefusals ∧
      u.picture.counters.kindChanges = s.picture.counters.kindChanges := by
  obtain ⟨u, r, hu, taken⟩ := h.listened
  have picture : u.picture = s.picture.withLife origin s.now r := congrArg Outlook.picture hu
  have now : u.now = s.now := congrArg Outlook.now hu
  have cfg : u.cfg = s.cfg := congrArg Outlook.cfg hu
  rw [used u (cfg.trans hg) now] at taken
  refine ⟨_, u, taken, picture_of_still (State.settle_still _), ?_, ?_, ?_, ?_, ?_⟩
  · rw [picture]; rfl
  · rw [picture]; rfl
  · simp only [State.lossHoldAfter, cfg, now, picture]; rfl
  · rw [picture]; rfl
  · rw [picture]; rfl

theorem State.hears.entered {g : Cfg} (h : s.hears burst origin n) (hg : s.cfg = some g) {e : PeerEntry}
    (used : ∀ u : State, u.cfg = some g → u.now = s.now → u.handOn origin n = u.useNotice e)
    (room : s.picture.entries.length < 48 ∨ (s.findPeer e.station e.channel).isSome = true) :
    ∃ t, exec (.frameReceived burst) s = .next t ∧ t.findPeer e.station e.channel = some e ∧
      ∀ st ch, (st, ch) ≠ (e.station, e.channel) → t.findPeer st ch = s.findPeer st ch := by
  obtain ⟨t, u, taken, picture, entries, -⟩ := h.uses hg used
  have same := State.findPeer_of_entries entries
  have after := State.findPeer_of_entries (congrArg Picture.entries picture)
  obtain ⟨self, others⟩ := State.useNotice_findPeer (s := u) (e := e) (by rw [entries, same]; exact room)
  exact ⟨t, taken, (after _ _).trans self, fun st ch hk => ((after st ch).trans (others st ch hk)).trans (same st ch)⟩

theorem State.hears.refused (h : s.hears burst origin n) (refused : ∀ u : State, u.handOn origin n = u.refuseNotice) :
    ∃ t, exec (.frameReceived burst) s = .next t ∧ t.picture.entries = s.picture.entries ∧
      t.picture.counters.refusedNotices = up16 s.picture.counters.refusedNotices := by
  obtain ⟨u, r, hu, taken⟩ := h.listened
  have picture : u.picture = s.picture.withLife origin s.now r := congrArg Outlook.picture hu
  rw [refused u] at taken
  have after : u.refuseNotice.settle.picture = u.refuseNotice.picture := picture_of_still (State.settle_still _)
  have entries : u.picture.entries = s.picture.entries := by rw [picture]; rfl
  have refusals : u.picture.counters.refusedNotices = s.picture.counters.refusedNotices := by rw [picture]; rfl
  refine ⟨_, taken, ?_, ?_⟩
  · rw [after]; exact entries
  · rw [after]; exact congrArg up16 refusals

/-- R24, R25: a notice within its ranges, as the entry it makes. -/
theorem Notice.entry_of_ranges {channel : Nat} (s : State) (origin : Nat) (g : Cfg) (hc : channel ≤ 3)
    (hn : (∃ rank fuel state actual commanded held starved, n = .heat channel rank fuel state actual commanded held starved ∧
        1 ≤ rank ∧ rank ≤ 15 ∧ fuel ≤ 7) ∨
      ∃ role recup flush state recovered flow clinker, n = .air channel role recup flush state recovered flow clinker ∧
        role ≤ 1) :
    ∃ e : PeerEntry, e.station = origin ∧ e.channel = channel ∧ (e.isFeed = true ↔ n.kind ≠ 2) ∧
      ∀ u : State, u.cfg = some g → u.now = s.now → u.handOn origin n = u.useNotice e := by
  obtain ⟨rank, fuel, state, actual, commanded, held, starved, rfl, h1, h15, h7⟩ |
    ⟨role, recup, flush, state, recovered, flow, clinker, rfl, h1⟩ := hn
  · exact ⟨heatEntry s.now origin channel rank fuel state actual commanded held starved, rfl, rfl,
      by simp [heatEntry, PeerEntry.isFeed, PeerEntry.meritKey, Notice.kind],
      fun u hu now => now ▸ State.handOn_heat hu hc h1 h15 h7 _ _ _ _ _⟩
  · exact ⟨airEntry s.now origin channel role recovered flow clinker state recup flush, rfl, rfl,
      by simp [airEntry, PeerEntry.isFeed, PeerEntry.meritKey, Notice.kind],
      fun u hu now => now ▸ State.handOn_air hu hc h1 _ _ _ _ _ _⟩

end

/-- Settles O22: what a notice makes of the picture is what `useNotice` makes of the table. -/
theorem heatNoticesFillThePicture : Obligations.HeatNoticesFillThePicture := by
  refine ⟨?_, ?_, ?_, ?_⟩
  · intro s burst payload origin channel rank fuel state actual commanded held starved g h hd hg ha h1 h31 hf hne hp hc hr1
      hr15 h7 room
    have heard : s.hears burst origin (.heat channel rank fuel state actual commanded held starved) :=
      ⟨h, hd, h1, h31, ⟨g, hg, hne⟩, 1, payload, ha, by omega, by omega, hf, hp⟩
    exact heard.entered hg (e := heatEntry s.now origin channel rank fuel state actual commanded held starved)
      (fun u hu now => now ▸ State.handOn_heat hu hc hr1 hr15 h7 _ _ _ _ _) room
  · intro s burst payload origin channel rank fuel state actual commanded held starved g h hd hg ha h1 h31 hf hne hp hr
    have heard : s.hears burst origin (.heat channel rank fuel state actual commanded held starved) :=
      ⟨h, hd, h1, h31, ⟨g, hg, hne⟩, 1, payload, ha, by omega, by omega, hf, hp⟩
    exact heard.refused fun u => State.handOn_heat_refused hr _ _ _ _ _
  · intro s burst origin channel role state recovered flow clinker recup flush heard
    have ⟨_, _, _, _, ⟨g, hg, _⟩, _⟩ := heard
    exact ⟨fun hc h1 room => heard.entered hg
      (e := airEntry s.now origin channel role recovered flow clinker state recup flush)
      (fun u hu now => now ▸ State.handOn_air hu hc h1 _ _ _ _ _ _) room,
      fun hr => heard.refused fun u => State.handOn_air_refused hr _ _ _ _ _ _⟩
  · intro s burst origin channel n heard hc hn
    have ⟨_, _, _, _, ⟨g, hg, _⟩, _⟩ := heard
    obtain ⟨e, rfl, rfl, kind, used⟩ := Notice.entry_of_ranges s origin g hc hn
    obtain ⟨t, u, taken, picture, entries, due, hold, refusals, changes⟩ := heard.uses hg used
    have same := State.findPeer_of_entries entries e.station e.channel
    refine ⟨fun full none => ⟨t, taken, ?_⟩, fun old g' found hg' change => ⟨t, taken, ?_⟩⟩
    · rw [picture, State.useNotice_full (same.trans none) (entries ▸ full)]
      exact ⟨entries, congrArg up16 refusals⟩
    · obtain rfl : g = g' := by rw [hg] at hg'; exact Option.some.inj hg'
      have differ : old.isFeed ≠ e.isFeed := fun eq => by
        rw [eq] at change
        rw [change] at kind
        exact iff_not_self kind
      rw [picture, State.useNotice_changed (same.trans found) differ]
      refine ⟨congrArg up16 changes, ?_⟩
      change (if old.isFeed then u.lossHoldAfter else u.picture.lossHoldDue) = _
      rw [hold, due, State.lossHoldAfter_of_cfg hg]
      by_cases hf : old.isFeed = true <;> by_cases h0 : g.lossHold = 0 <;> simp [hf, h0]

/-! ## Firing orders (R32) -/

theorem newer_irrefl (e : Serial) : newer e e = false := by simp [newer]

theorem newer_asymm {e c : Serial} (h : newer e c = true) : newer c e = false := by
  simp only [newer, Bool.and_eq_true, Bool.and_eq_false_iff, decide_eq_true_eq, decide_eq_false_iff_not] at *
  bv_omega

theorem newer_half (e : Serial) : newer (e + 32768) e = false := by
  simp [newer]

theorem newer_ne {e c : Serial} (h : newer e c = true) : e ≠ c := by
  rintro rfl
  simp [newer_irrefl] at h

/-- R32: the verdict on a candidate where an order stands. -/
theorem compareOrder_some (a c : FiringOrder) : compareOrder (some a) c =
    if newer c.epoch a.epoch = true ∨ (c.epoch = a.epoch ∧ c.target ≠ a.target ∧ c.origin < a.origin) then .adopted
    else if c = a then .confirmed else .refused := by
  simp only [compareOrder]
  by_cases h : newer c.epoch a.epoch = true <;> simp [h]

theorem compareOrder_refused {a c : FiringOrder} (hn : newer c.epoch a.epoch = false)
    (hl : ¬(c.epoch = a.epoch ∧ c.target ≠ a.target ∧ c.origin < a.origin)) (hne : c ≠ a) :
    compareOrder (some a) c = .refused := by
  rw [compareOrder_some, if_neg (by simp only [hn, Bool.false_eq_true, false_or]; exact hl), if_neg hne]

/-- R35: a desk's refresh timer may start. -/
theorem State.restartRefresh_outlook (s : State) : ∃ r, s.restartRefresh.outlook =
    { s.outlook with picture := { s.picture with refreshDue := r } } := by
  unfold State.restartRefresh; repeat' split
  · exact ⟨s.picture.refreshDue, rfl⟩
  · exact ⟨_, rfl⟩
  · exact ⟨s.picture.refreshDue, rfl⟩

/-- R33, R35: what an adoption shows: the order, its count, and a refresh timer that may start. -/
theorem State.adopt_outlook (s : State) (c : FiringOrder) (b : Bool) : ∃ r,
    (s.adopt c b).outlook = { s.outlook with picture := { s.picture with
      order := some c
      counters := { s.picture.counters with ordersAdopted := up16 s.picture.counters.ordersAdopted }
      refreshDue := r } } := by
  unfold State.adopt
  extract_lets p s1 s2 s3
  have h3 : s3.outlook = s1.outlook := by
    have h2 : s2.outlook = s1.outlook := s1.append_outlook _ _ _ _ _
    simp only [s3]; split
    · exact h2
    · exact h2
  have picture : s3.picture = s1.picture := picture_of_outlook h3
  clear_value s3
  obtain ⟨r, hr⟩ := s3.restartRefresh_outlook
  exact ⟨r, by rw [hr, h3, picture]; rfl⟩

/-- R32: what a candidate shows, by the verdict on it. -/
theorem State.considerOrder_adopted {s : State} {c : FiringOrder} (b : Bool)
    (h : compareOrder s.picture.order c = .adopted) : s.considerOrder c b = s.adopt c b := by
  rw [State.considerOrder, h]

theorem State.considerOrder_confirmed {s : State} {c : FiringOrder} (b : Bool)
    (h : compareOrder s.picture.order c = .confirmed) :
    s.considerOrder c b = s.countPicture fun k => { k with ordersConfirmed := up16 k.ordersConfirmed } := by
  rw [State.considerOrder, h]

theorem State.considerOrder_refused {s : State} {c : FiringOrder} (b : Bool)
    (h : compareOrder s.picture.order c = .refused) :
    s.considerOrder c b = s.countPicture fun k => { k with ordersRefused := up16 k.ordersRefused } := by
  rw [State.considerOrder, h]

/-- R32: a candidate is adopted whole or changes nothing of the picture but one counter. -/
theorem State.considerOrder_picture (s : State) (c : FiringOrder) (b : Bool) : ∃ r, (s.considerOrder c b).picture =
    { s.picture with
      order := if compareOrder s.picture.order c = .adopted then some c else s.picture.order
      refreshDue := r
      counters := { s.picture.counters with
        ordersAdopted := if compareOrder s.picture.order c = .adopted then
          up16 s.picture.counters.ordersAdopted else s.picture.counters.ordersAdopted
        ordersConfirmed := if compareOrder s.picture.order c = .confirmed then
          up16 s.picture.counters.ordersConfirmed else s.picture.counters.ordersConfirmed
        ordersRefused := if compareOrder s.picture.order c = .refused then
          up16 s.picture.counters.ordersRefused else s.picture.counters.ordersRefused } } := by
  cases verdict : compareOrder s.picture.order c with
  | adopted =>
    obtain ⟨r, hr⟩ := s.adopt_outlook c b
    exact ⟨r, by rw [State.considerOrder_adopted b verdict]; exact congrArg Outlook.picture hr⟩
  | confirmed => exact ⟨s.picture.refreshDue, by rw [State.considerOrder_confirmed b verdict]; rfl⟩
  | refused => exact ⟨s.picture.refreshDue, by rw [State.considerOrder_refused b verdict]; rfl⟩

/-- Settles O32: a heard order is a candidate, and the comparison is by epoch, target and origin. -/
theorem ordersAreComparedByEpoch : Obligations.OrdersAreComparedByEpoch := by
  refine ⟨?_, fun a c => ⟨rfl, fun hn => ?_, fun he ht ho => ?_, fun h => ?_, fun hn => ?_, fun he => ?_,
    fun he hne hw => ?_⟩⟩
  · intro s burst payload origin target epoch g c h hd hg ha h1 h31 hf hne hp hc
    have heard : s.hears burst origin (.order epoch target) :=
      ⟨h, hd, h1, h31, ⟨g, hg, hne⟩, 3, payload, ha, by omega, by omega, hf, hp⟩
    obtain ⟨u, r, hu, taken⟩ := heard.listened
    have life : u.picture = s.picture.withLife origin s.now r := congrArg Outlook.picture hu
    have cfg : u.cfg = some g := (congrArg Outlook.cfg hu).trans hg
    have candidate : u.handOn origin (.order epoch target) = u.considerOrder c false := by
      rw [hc]; exact if_neg (by simp [cfg])
    obtain ⟨fields, nv⟩ := heard.keeps taken
    obtain ⟨q, considered⟩ := u.considerOrder_picture c false
    rw [candidate] at taken fields nv
    have picture := (picture_of_still (u.considerOrder c false).settle_still).trans considered
    have same : u.picture.order = s.picture.order := by rw [life]; rfl
    rw [same, life] at picture
    refine ⟨_, taken, ?_, ?_, ?_, ?_, ?_, ?_, fields, nv⟩ <;> rw [picture] <;> rfl
  · rw [compareOrder_some, if_pos (.inl hn)]
  · rw [compareOrder_some, if_pos (.inr ⟨he, ht, ho⟩)]
  · subst h
    rw [compareOrder_some, if_neg (by simp [newer_irrefl]), if_pos rfl]
  · exact compareOrder_refused (newer_asymm hn) (fun h => newer_ne hn h.1.symm) (fun h => newer_ne hn (h ▸ rfl))
  · have half : c.epoch ≠ a.epoch := fun h => by rw [he] at h; bv_omega
    exact compareOrder_refused (he ▸ newer_half _) (fun h => half h.1) (fun h => half (h ▸ rfl))
  · exact compareOrder_refused (he ▸ newer_irrefl _) (fun ⟨_, ht, ho⟩ => by omega) hne

end Sys2Proof.Machine
end

section
/-! PROOFS. A take at a desk and the refresh of the adopted order (R34, R35), and the entry to RUN (R37, R160). -/

namespace Sys2Proof.Machine

/-! ## An offered order (R8, R9) -/

theorem State.enterBackoff_frame (s : State) : ∃ l f, s.enterBackoff = { s with link := l, free := f } := by
  unfold State.enterBackoff; split
  · exact ⟨_, _, rfl⟩
  · simp only; split <;> exact ⟨_, _, rfl⟩

theorem State.kickAccess_frame (s : State) : ∃ l f, s.kickAccess = { s with link := l, free := f } := by
  unfold State.kickAccess
  repeat' split
  case h_1.isFalse.isTrue => exact s.enterBackoff_frame
  case h_2.isTrue => exact s.enterBackoff_frame
  all_goals exact ⟨_, _, rfl⟩

/-- R8, R13: an offered notice of a class below A changes the link alone, and the free values drawn for it. -/
theorem State.offer_plain {n : Notice} (s : State) (h : n.cls ≠ 0) :
    ∃ l f, s.offer n = { s with link := l, free := f } := by
  unfold State.offer
  simp only [State.handBack_plain h]
  repeat' split
  case isFalse.isTrue.isTrue.isFalse => exact (State.enterBackoff_frame _)
  case isFalse.isTrue.isFalse => exact (State.kickAccess_frame _)
  all_goals exact ⟨_, _, rfl⟩

/-- R9: an order coalesces with an order that is not committed. -/
theorem Notice.order_coalescesWith {epoch : Serial} {target : Nat} {f : QFrame} (hc : f.committed = false)
    (hk : f.notice.kind = 3) : (Notice.order epoch target).coalescesWith f = true := by
  cases hn : f.notice with
  | order => simp [Notice.coalescesWith, hc, hn]
  | _ => simp [hn, Notice.kind] at hk

/-- R9: an order that has been offered stands in the queue where that has room or an order that is not committed. -/
theorem Link.tookOffer_order {l m : Link} {epoch : Serial} {target : Nat} (h : l.tookOffer m (.order epoch target))
    (room : l.queue.length < 12 ∨ ∃ f ∈ l.queue, f.committed = false ∧ f.notice.kind = 3) :
    ∃ f ∈ m.queue, f.notice = .order epoch target :=
  Link.tookOffer_mem h (room.imp_right fun ⟨f, hf, hc, hk⟩ => ⟨f, hf, Notice.order_coalescesWith hc hk⟩)

/-! ## A take (R34) -/

theorem newer_succ (e : Serial) : newer (e + 1) e = true := by simp [newer]

/-- R32, R34: an order of the next epoch is adopted. -/
theorem compareOrder_nextEpoch (order : Option FiringOrder) (target origin : Nat) :
    compareOrder order { epoch := nextEpoch order, target := target, origin := origin } = .adopted := by
  cases order with
  | none => rfl
  | some a => rw [compareOrder_some, if_pos (.inl (newer_succ a.epoch))]

/-- R34: the order that a take makes of a setpoint. -/
def State.nextOrder (s : State) (k : Fin 16) : FiringOrder :=
  { epoch := nextEpoch s.picture.order, target := clampHeat (s.input k).value, origin := s.ownNumber }

section
variable {s : State} {k : Fin 16}

theorem State.originate_fresh (hk : s.stationInput .firing = some k) (hf : s.inputFresh k = true) :
    s.originate = (s.adopt (s.nextOrder k) true).offer (.order (s.nextOrder k).epoch (s.nextOrder k).target) := by
  have adopted : s.considerOrder (s.nextOrder k) true = s.adopt (s.nextOrder k) true :=
    State.considerOrder_adopted true (compareOrder_nextEpoch _ _ _)
  rw [← adopted, State.originate, hk]
  exact if_pos hf

theorem State.originate_refused (h : s.stationInput .firing = none ∨
    ∃ k, s.stationInput .firing = some k ∧ s.inputFresh k = false) : s.originate = s.refuseTake := by
  rcases h with hk | ⟨k, hk, hf⟩
  · rw [State.originate, hk]
  · rw [State.originate, hk]
    exact if_neg (by simp [hf])

/-- R33, R34: what a take shows. -/
theorem State.originate_outlook (hk : s.stationInput .firing = some k) (hf : s.inputFresh k = true) : ∃ r,
    s.originate.outlook = { s.outlook with picture := { s.picture with
      order := some (s.nextOrder k)
      counters := { s.picture.counters with ordersAdopted := up16 s.picture.counters.ordersAdopted }
      refreshDue := r } } := by
  obtain ⟨r, hr⟩ := s.adopt_outlook (s.nextOrder k) true
  exact ⟨r, by rw [State.originate_fresh hk hf, State.offer_outlook, hr]⟩

theorem State.originate_tookOffer (hr : s.station = .run) (hk : s.stationInput .firing = some k)
    (hf : s.inputFresh k = true) :
    s.link.tookOffer s.originate.link (.order (s.nextOrder k).epoch (s.nextOrder k).target) := by
  obtain ⟨r, shown⟩ := s.adopt_outlook (s.nextOrder k) true
  have run : (s.adopt (s.nextOrder k) true).station = .run := (congrArg Outlook.station shown).trans hr
  rw [State.originate_fresh hk hf, ← State.adopt_link s (s.nextOrder k) true]
  exact State.offer_tookOffer _ _ (by simp [run]) (by simp [run])

end

section
variable {s : State} {g : Cfg}

theorem exec_take_desk (h : s.calm) (hg : s.cfg = some g) (hd : g.desk = true) (hr : s.station = .run) :
    exec .take s = .next s.begun.originate.settle := by
  have taken : s.begun.cfg = some g := hg
  have run : s.begun.station = .run := hr
  simp only [exec, execTake]
  rw [s.takeEvent_live _ h.1]
  change Host.Outcome.next (State.settle (match s.begun.cfg with
    | none => s.begun.refuseTake
    | some g => if g.desk then (if s.begun.station = .run then s.begun.originate else s.begun.refuseTake) else s.begun)) = _
  rw [taken]
  simp only [hd, run, if_true]

theorem exec_take_refused (h : s.calm) (hg : s.cfg = some g) (hd : g.desk = true)
    (hr : s.station ≠ .run ∨ s.begun.originate = s.begun.refuseTake) : exec .take s = .next s.begun.refuseTake := by
  have taken : s.begun.cfg = some g := hg
  have refused : (if s.begun.station = .run then s.begun.originate else s.begun.refuseTake) = s.begun.refuseTake := by
    split
    · rename_i run; exact hr.resolve_left (fun ne => ne run)
    · rfl
  simp only [exec, execTake]
  rw [s.takeEvent_calm _ h] <;> simp only [taken, hd, if_true, refused]
  exact h.2

theorem exec_take_noDesk (h : s.calm) (hg : s.cfg = some g) (hd : g.desk = false) : exec .take s = .next s.begun := by
  have taken : s.begun.cfg = some g := hg
  simp only [exec, execTake]
  rw [s.takeEvent_calm _ h] <;> simp only [taken, hd, Bool.false_eq_true, if_false]
  exact h.2

theorem exec_refreshTimerExpiry {due : Nat} {a : FiringOrder} (h : s.calm) (hd : s.picture.refreshDue = some due)
    (ha : s.picture.order = some a) :
    exec .refreshTimerExpiry s =
      .next ((s.begun.reach due).offer (.order a.epoch a.target)).restartRefresh := by
  have runs : s.begun.picture.refreshDue = some due := hd
  have offered : (s.begun.reach due).refreshOrder = ((s.begun.reach due).offer (.order a.epoch a.target)).restartRefresh := by
    have adopted : (s.begun.reach due).picture.order = some a := ha
    rw [State.refreshOrder, adopted]
  obtain ⟨l, f, plain⟩ := (s.begun.reach due).offer_plain (n := .order a.epoch a.target) (by simp [Notice.cls])
  have quiet (u : State) : u.restartRefresh.agenda = u.agenda := by
    unfold State.restartRefresh; repeat' split
    all_goals rfl
  simp only [exec, execRefreshTimerExpiry]
  rw [s.takeEvent_calm _ h] <;> simp only [runs, offered]
  rw [quiet, plain]
  exact h.2

end

/-- R35: the refresh timer of a desk in RUN runs at its full length. -/
theorem State.restartRefresh_desk {s : State} {g : Cfg} (hg : s.cfg = some g) (hd : g.desk = true) (hr : s.station = .run) :
    s.restartRefresh = { s with picture := { s.picture with refreshDue := some (s.now + g.firingRefresh * 1000) } } := by
  rw [State.restartRefresh, hg]
  exact if_pos ⟨hd, hr⟩

/-- Settles O31: a take's order is of the next epoch, so it is adopted; the requests are settled after its offer. -/
theorem takesAndRefreshes : Obligations.TakesAndRefreshes := by
  refine ⟨fun s g h hg => ⟨fun hd => exec_take_noDesk h hg hd, fun k c hd hr hk hf hc => ?_, fun hd hw => ?_⟩,
    fun s due g a h hg hd hr hdue ha => ?_⟩
  · have order : s.begun.nextOrder k = c := by
      simp only [hc, State.nextOrder, State.ownNumber, State.begun, hg]
      rfl
    obtain ⟨r, shown⟩ := State.originate_outlook (s := s.begun) hk hf
    have offered := State.originate_tookOffer (s := s.begun) hr hk hf
    have kept := s.begun.originate_keptNv
    have taken := exec_take_desk h hg hd hr
    rw [order] at shown offered
    generalize s.begun.originate = u at shown offered kept taken
    have after := outlook_of_still u.settle_still
    have picture : u.settle.picture = u.picture := picture_of_outlook after
    have made : u.picture = { s.picture with
        order := some c
        counters := { s.picture.counters with ordersAdopted := up16 s.picture.counters.ordersAdopted }
        refreshDue := r } := congrArg Outlook.picture shown
    have nv : u.settle.nv = u.nv := congrArg Still.nv u.settle_still
    refine ⟨u.settle, u, taken, rfl, offered, Link.tookOffer_order offered, ?_, ?_, ?_, ?_,
      (congrArg Outlook.fields after).trans (congrArg Outlook.fields shown), nv.trans (congrArg (·.2) kept)⟩
    all_goals rw [picture, made]
  · refine exec_take_refused h hg hd (or_iff_not_imp_left.2 fun run => ?_)
    exact State.originate_refused (s := s.begun) (hw.resolve_left run)
  · let u := s.begun.reach due
    obtain ⟨l, f, plain⟩ := u.offer_plain (n := .order a.epoch a.target) (by simp [Notice.cls])
    have offered : u.link.tookOffer (u.offer (.order a.epoch a.target)).link (.order a.epoch a.target) :=
      u.offer_tookOffer _ (by simp [u, State.begun, hr]) (by simp [u, State.begun, hr])
    have timer := State.restartRefresh_desk (s := u.offer (.order a.epoch a.target)) (by rw [plain]; exact hg) hd
      (by rw [plain]; exact hr)
    have same := State.restartRefresh_link (u.offer (.order a.epoch a.target))
    refine ⟨_, exec_refreshTimerExpiry h hdue ha, ?_, ?_, ?_, fun room => ?_, ?_, ?_⟩
    · rw [timer, plain]; rfl
    · rw [timer, plain]; rfl
    · rw [same]; exact offered
    · rw [same]; exact Link.tookOffer_order offered room
    · rw [timer, plain]; rfl
    · rw [timer, plain]; rfl

/-! ## The entry to RUN (R37, R160) -/

/-- R37: what the entry to RUN shows: the station stands in RUN, the listen timer has stopped, and a desk's refresh timer may
run. -/
theorem State.enterRun_outlook (s : State) : ∃ r, s.enterRun.outlook =
    { s.outlook with station := .run, picture := { s.picture with listenDue := none, refreshDue := r } } := by
  have entered (u : State) : (u.kickAccess.eachSlot State.slotToRun).endMarks.outlook = u.outlook := by
    rw [State.endMarks_outlook]
    exact outlook_of_still (by rw [eachSlot_still State.slotToRun_still, State.kickAccess_still])
  have refreshed (u : State) : ∃ r, u.refreshOrder.outlook =
      { u.outlook with picture := { u.picture with refreshDue := r } } := by
    unfold State.refreshOrder; split
    · exact ⟨u.picture.refreshDue, rfl⟩
    · rename_i a _
      have offered : (u.offer (.order a.epoch a.target)).outlook = u.outlook := State.offer_outlook _ _
      obtain ⟨r, restarted⟩ := (u.offer (.order a.epoch a.target)).restartRefresh_outlook
      exact ⟨r, by rw [restarted, offered, picture_of_outlook offered]⟩
  unfold State.enterRun
  extract_lets p c s1 s3 s4 desk s5
  have h3 : s3.outlook = s1.outlook := entered s1
  clear_value s3
  have h4 : s4.outlook = s1.outlook := by
    simp only [s4]; split <;> exact h3
  clear_value s4
  have h5 : ∃ r, s5.outlook = { s1.outlook with picture := { s1.picture with refreshDue := r } } := by
    simp only [s5]; split
    · obtain ⟨r, hr⟩ := refreshed s4
      exact ⟨r, by rw [hr, h4, picture_of_outlook h4]⟩
    · exact ⟨s1.picture.refreshDue, h4⟩
  clear_value s5
  obtain ⟨r, hr⟩ := h5
  refine ⟨r, ?_⟩
  split
  · rw [State.firstShift_outlook, hr]; rfl
  · rw [hr]; rfl

/-- R155, R160: the first shift of a station has the number that it takes. -/
theorem State.firstShift_shift (s : State) (n : Serial) : (s.firstShift n).accountant.shift = some n := by
  have opened (u : State) : (u.openShiftFile n).accountant.shift = u.accountant.shift :=
    congrArg Still.shift (u.openFile_still n)
  have restarted (u : State) : (u.offerRestart false).accountant.shift = u.accountant.shift := by
    unfold State.offerRestart; simp only; split
    · exact congrArg Still.shift (State.append_still _ _ _ _ _ _)
    · rfl
  rw [State.firstShift, restarted, opened]
  rfl

/-- R160: a station that enters RUN without a shift number takes one. -/
theorem State.enterRun_shift (s : State) : s.enterRun.accountant.shift.isSome = true := by
  unfold State.enterRun
  extract_lets p c s1 s3 s4 desk s5
  clear_value s5
  split
  · exact congrArg Option.isSome (State.firstShift_shift s5 _)
  · rename_i h
    simpa [Option.isSome_iff_ne_none] using h

theorem exec_listenTimerExpiry {s : State} {due : Nat} (h : s.calm) (hd : s.picture.listenDue = some due) :
    exec .listenTimerExpiry s = .next (s.begun.reach due).enterRun.settle := by
  have runs : s.begun.picture.listenDue = some due := hd
  simp only [exec, execListenTimerExpiry]
  rw [s.takeEvent_live _ h.1]
  change Host.Outcome.next (State.settle (match s.begun.picture.listenDue with
    | none => s.begun
    | some due => (s.begun.reach due).enterRun)) = _
  rw [runs]

/-- Settles O19: the requests settled after the entry to RUN leave it as it stands. -/
theorem listenPeriodEndsInRun : Obligations.ListenPeriodEndsInRun := by
  intro s due h hd
  let u := s.begun.reach due
  obtain ⟨r, shown⟩ := u.enterRun_outlook
  have shift := u.enterRun_shift
  have kept := u.enterRun_keptNv
  refine ⟨_, exec_listenTimerExpiry h hd, ?_⟩
  change u.enterRun.settle.station = .run ∧ _
  generalize u.enterRun = v at shown shift kept
  have still := v.settle_still
  have after := (outlook_of_still still).trans shown
  exact ⟨congrArg Outlook.station after, congrArg (·.picture.listenDue) after, congrArg Outlook.now after,
    (congrArg (·.shift.isSome) still).trans shift, congrArg (·.picture.entries) after, congrArg (·.picture.order) after,
    congrArg Outlook.fields after, (congrArg Still.nv still).trans (congrArg (·.2) kept)⟩

end Sys2Proof.Machine
end

section
/-! PROOFS. What the operations of a slot do to the slots, the link and the fields: a slot enters a state and tells of it
(R87, R88, R105, R116, R120, R123). -/

namespace Sys2Proof.Machine

/-! ## A unit put in its slot -/

/-- A state in which one slot holds another unit; the link, the station's state and the fields are as they were. -/
structure State.Puts (s t : State) (i : Fin 4) (u : SlotUnit) : Prop where
  channels : t.channels = (s.setSlot i u).channels
  link : t.link = s.link
  station : t.station = s.station
  fields : t.fields = s.fields

section
variable {s t v : State} {i j : Fin 4} {u : SlotUnit}

theorem State.slot_of_channels (h : t.channels = s.channels) (j : Fin 4) : t.slot j = s.slot j := by
  rw [State.slot, h]; rfl

theorem State.setSlot_puts (s : State) (i : Fin 4) (u : SlotUnit) : s.Puts (s.setSlot i u) i u := ⟨rfl, rfl, rfl, rfl⟩

namespace State.Puts

theorem ask (h : s.Puts t i u) (r : AlarmRequest) : s.Puts (t.ask r) i u := ⟨h.channels, h.link, h.station, h.fields⟩

theorem postFlush (h : s.Puts t i u) (k : Fin 4) : s.Puts (t.postFlush k) i u := ⟨h.channels, h.link, h.station, h.fields⟩

theorem takeCount (h : s.Puts t i u) (o : Fin 8) (n : Nat) : s.Puts (t.takeCount o n) i u where
  channels := (t.takeCount_slots o n).trans h.channels
  link := (link_of_wire (t.takeCount_wire o n)).trans h.link
  station := (congrArg Still.station (t.takeCount_still o n)).trans h.station
  fields := (congrArg Still.fields (t.takeCount_still o n)).trans h.fields

theorem handTarget (h : s.Puts t i u) (o : Fin 8) (x f : Nat) : s.Puts (t.handTarget o x f) i u := h.takeCount _ _

theorem clearStarved (h : s.Puts t i u) (k : Fin 4) : s.Puts (t.clearStarved k) i u := by
  unfold State.clearStarved; split
  · exact h.ask _
  · exact h

theorem caHand (h : s.Puts t i u) (a : CaSlot) : s.Puts (t.caHand a) i u := by
  unfold State.caHand; split
  · exact h.takeCount _ _
  · exact h.takeCount _ _

theorem cgHand (h : s.Puts t i u) (g : CgSlot) : s.Puts (t.cgHand g) i u := by
  unfold State.cgHand; split
  · exact h.takeCount _ _
  · exact h.takeCount _ _

theorem slot_self (h : s.Puts t i u) : t.slot i = u := (State.slot_of_channels h.channels i).trans (by simp)

theorem slot_ne (h : s.Puts t i u) (hj : j ≠ i) : t.slot j = s.slot j :=
  (State.slot_of_channels h.channels j).trans (State.setSlot_slot_ne s i j u hj)

end State.Puts

/-- R87, R88: what a slot tells of a change changes the marks and the link alone. -/
theorem State.noteChange_frame (s : State) (i : Fin 4) : ∃ l f, s.noteChange i =
    { s with
      link := l
      free := f
      channels := { s.channels with
        noticed := if s.channels.updating = true then s.channels.noticed.set i true else s.channels.noticed } } := by
  obtain ⟨l, f, h⟩ := (s.markNoticed i).publish_frame i
  refine ⟨l, f, ?_⟩
  rw [State.noteChange, h, State.markNoticed]
  by_cases hu : s.channels.updating = true
  · rw [if_pos hu, if_pos hu]
  · rw [if_neg hu, if_neg hu]

@[simp] theorem State.noteChange_fields (s : State) (i : Fin 4) : (s.noteChange i).fields = s.fields := by
  obtain ⟨l, f, h⟩ := s.noteChange_frame i; rw [h]

@[simp] theorem State.noteChange_station (s : State) (i : Fin 4) : (s.noteChange i).station = s.station := by
  obtain ⟨l, f, h⟩ := s.noteChange_frame i; rw [h]

/-- R88: a used slot that enters a state tells of it. -/
theorem State.Puts.announces (h : s.Puts t i u) (ho : s.offers) (hu : u ≠ .unused) : s.announces (t.noteChange i) i :=
  State.noteChange_announces h.link h.station ho (h.slot_self ▸ hu)

theorem State.Puts.noteChange_slot_self (h : s.Puts t i u) : (t.noteChange i).slot i = u :=
  (noteChange_slot t i i).trans h.slot_self

theorem State.Puts.noteChange_slot_ne (h : s.Puts t i u) (hj : j ≠ i) : (t.noteChange i).slot j = s.slot j :=
  (noteChange_slot t i j).trans (h.slot_ne hj)

@[simp] theorem State.markLeft_slot (s : State) (i j : Fin 4) : (s.markLeft i).slot j = s.slot j := rfl

@[simp] theorem State.markLeft_leftOff (s : State) (i : Fin 4) : (s.markLeft i).channels.leftOff[i] = true := by
  simp [State.markLeft]

/-- R88: the mark of a passage out of OFF leaves what the slot has told. -/
theorem State.markLeft_announces (h : s.announces t i) : s.announces (t.markLeft i) i := h

end

/-! ## The fan slot enters a state (R116 to R118) -/

section
variable {s : State} {i j : Fin 4} {a : CaSlot} {g : CgSlot}

theorem State.onCa_ca (h : s.slot i = .ca a) (f : CaSlot → State) : s.onCa i f = f a := by rw [State.onCa, h]

theorem State.onCg_cg (h : s.slot i = .cg g) (f : CgSlot → State) : s.onCg i f = f g := by rw [State.onCg, h]

/-- R116 to R118: a fan slot as it enters a state. -/
def CaSlot.entered (a : CaSlot) (st : CaState) : CaSlot :=
  { a with state := st, deviated := false, raiseRun := none, clearRun := none,
           responseRun := if st = .running ∨ st = .forced then a.responseRun else none }

@[simp] theorem CaSlot.entered_par (a : CaSlot) (st : CaState) : (a.entered st).par = a.par := rfl
@[simp] theorem CaSlot.entered_state (a : CaSlot) (st : CaState) : (a.entered st).state = st := rfl

theorem State.caEnter_puts (s : State) (i : Fin 4) (a : CaSlot) (st : CaState) :
    ∃ t, s.Puts t i (.ca (a.entered st)) ∧ s.caEnter i a st = t.noteChange i := by
  unfold State.caEnter
  extract_lets run a1 s1 s2
  have put : s.Puts s1 i (.ca (a.entered st)) := s.setSlot_puts i _
  clear_value s1
  refine ⟨s2.caHand a1, State.Puts.caHand ?_ _, rfl⟩
  simp only [s2]
  repeat' split
  · exact put
  · exact put.ask _
  · exact put.ask _
  · exact put

theorem State.caEnter_slot_self (s : State) (i : Fin 4) (a : CaSlot) (st : CaState) :
    (s.caEnter i a st).slot i = .ca (a.entered st) := by
  obtain ⟨t, put, entered⟩ := s.caEnter_puts i a st
  rw [entered, put.noteChange_slot_self]

theorem State.caEnter_slot_ne (a : CaSlot) (st : CaState) (hj : j ≠ i) : (s.caEnter i a st).slot j = s.slot j := by
  obtain ⟨t, put, entered⟩ := s.caEnter_puts i a st
  rw [entered, put.noteChange_slot_ne hj]

/-! ## The grate slot enters a state (R120, R123, R124) -/

/-- R120, R124: the grate slot as it enters STOPPED, RUNNING or FAULT. -/
def CgSlot.entered (g : CgSlot) (st : CgState) : CgSlot :=
  { g with state := st, calmRun := none, rising := if st = .running then g.rising else [] }

/-- R123: the grate slot as it enters FLUSH. -/
def CgSlot.flushing (g : CgSlot) : CgSlot :=
  { g with state := .flush, rate := g.par.maxSpeed, rising := [], calmRun := none }

theorem State.cgEnter_puts (s : State) (i : Fin 4) (g : CgSlot) (st : CgState) :
    ∃ t, s.Puts t i (.cg (g.entered st)) ∧ s.cgEnter i g st =
      if g.state = .flush then (t.noteChange i).eachSlot State.caRelease else t.noteChange i := by
  have put := (s.setSlot_puts i (.cg (g.entered st))).cgHand (g.entered st)
  unfold State.cgEnter
  simp only
  split
  · exact ⟨_, put.ask _, rfl⟩
  · exact ⟨_, put, rfl⟩

theorem State.cgFlush_puts (s : State) (i : Fin 4) (g : CgSlot) :
    ∃ t, s.Puts t i (.cg g.flushing) ∧ s.cgFlush i g = (t.noteChange i).eachSlot State.caForce :=
  ⟨_, (((s.setSlot_puts i (.cg g.flushing)).cgHand g.flushing).ask _).postFlush i, rfl⟩

/-! ## What a flush forces and its end releases (R116) -/

/-- An operation that leaves alone every slot but its own, carried over every slot, is met by each slot as it was. -/
theorem eachSlot_meets {f : State → Fin 4 → State} {Q : State → Prop}
    (keeps : ∀ (t : State) (i : Fin 4), Q t → Q (f t i))
    (only : ∀ (t : State) (i : Fin 4), t.onlySlot i (f t i)) {s : State} (h : Q s) (j : Fin 4) :
    ∃ t, Q t ∧ t.slot j = s.slot j ∧ (s.eachSlot f).slot j = (f t j).slot j := by
  have only' (t : State) (i : Fin 4) {j : Fin 4} (hj : j ≠ i) : (f t i).slot j = t.slot j := only t i j hj
  match j with
  | 0 => exact ⟨s, h, rfl, by simp only [State.eachSlot, only', ne_eq, Fin.reduceEq, not_false_eq_true]⟩
  | 1 =>
    exact ⟨f s 0, keeps _ _ h, only' _ _ (by decide), by
      simp only [State.eachSlot, only', ne_eq, Fin.reduceEq, not_false_eq_true]⟩
  | 2 =>
    exact ⟨f (f s 0) 1, keeps _ _ (keeps _ _ h), by simp only [only', ne_eq, Fin.reduceEq, not_false_eq_true], by
      simp only [State.eachSlot, only', ne_eq, Fin.reduceEq, not_false_eq_true]⟩
  | 3 =>
    exact ⟨f (f (f s 0) 1) 2, keeps _ _ (keeps _ _ (keeps _ _ h)), by
      simp only [only', ne_eq, Fin.reduceEq, not_false_eq_true], rfl⟩

/-- An operation that does nothing to any slot, carried over every slot. -/
theorem eachSlot_id {f : State → Fin 4 → State} {s : State} (h : ∀ i, f s i = s) : s.eachSlot f = s := by
  simp only [State.eachSlot, h]

theorem State.caForce_running (h : s.slot i = .ca a) (hr : a.state = .running) : s.caForce i = s.caEnter i a .forced := by
  rw [State.caForce, State.onCa_ca h, if_pos hr]

theorem State.caForce_other (h : ∀ a, s.slot i = .ca a → a.state ≠ .running) : s.caForce i = s := by
  unfold State.caForce State.onCa; split
  · rename_i a ha; exact if_neg (h a ha)
  · rfl

theorem State.caRelease_forced (h : s.slot i = .ca a) (hf : a.state = .forced) (hc : s.caForced a = false) :
    s.caRelease i = s.caEnter i a .running := by
  rw [State.caRelease, State.onCa_ca h, if_pos ⟨hf, hc⟩]

theorem State.caRelease_other (h : ∀ a, s.slot i = .ca a → a.state = .forced → s.caForced a = true) :
    s.caRelease i = s := by
  unfold State.caRelease State.onCa; split
  · rename_i a ha
    exact if_neg fun ⟨hf, hc⟩ => by rw [h a ha hf] at hc; exact Bool.noConfusion hc
  · rfl

theorem State.caForce_cases (s : State) (i : Fin 4) : s.caForce i = s ∨
    ∃ a, s.slot i = .ca a ∧ s.caForce i = s.caEnter i a .forced := by
  by_cases h : ∃ a, s.slot i = .ca a ∧ a.state = .running
  · obtain ⟨a, ha, hr⟩ := h
    exact .inr ⟨a, ha, State.caForce_running ha hr⟩
  · exact .inl (State.caForce_other fun a ha hr => h ⟨a, ha, hr⟩)

theorem State.caRelease_cases (s : State) (i : Fin 4) : s.caRelease i = s ∨
    ∃ a, s.slot i = .ca a ∧ s.caRelease i = s.caEnter i a .running := by
  by_cases h : ∃ a, s.slot i = .ca a ∧ a.state = .forced ∧ s.caForced a = false
  · obtain ⟨a, ha, hf, hc⟩ := h
    exact .inr ⟨a, ha, State.caRelease_forced ha hf hc⟩
  · refine .inl (State.caRelease_other fun a ha hf => ?_)
    by_contra hc
    exact h ⟨a, ha, hf, by simpa using hc⟩

theorem State.caForce_only (s : State) (i : Fin 4) : s.onlySlot i (s.caForce i) := by
  intro j hj
  rcases s.caForce_cases i with h | ⟨a, -, h⟩
  · rw [h]
  · rw [h, State.caEnter_slot_ne a _ hj]

theorem State.caRelease_only (s : State) (i : Fin 4) : s.onlySlot i (s.caRelease i) := by
  intro j hj
  rcases s.caRelease_cases i with h | ⟨a, -, h⟩
  · rw [h]
  · rw [h, State.caEnter_slot_ne a _ hj]

/-- R123: the fans are forced: each running fan enters FORCED, and every other unit stays. -/
theorem State.eachForce_running (h : s.slot j = .ca a) (hr : a.state = .running) :
    (s.eachSlot State.caForce).slot j = .ca (a.entered .forced) := by
  obtain ⟨t, -, same, met⟩ :=
    eachSlot_meets (Q := fun _ => True) (fun _ _ _ => trivial) State.caForce_only (s := s) trivial j
  rw [met, State.caForce_running (same.trans h) hr, State.caEnter_slot_self]

theorem State.eachForce_other (h : ∀ a, s.slot j = .ca a → a.state ≠ .running) :
    (s.eachSlot State.caForce).slot j = s.slot j := by
  obtain ⟨t, -, same, met⟩ :=
    eachSlot_meets (Q := fun _ => True) (fun _ _ _ => trivial) State.caForce_only (s := s) trivial j
  rw [met, State.caForce_other (fun a ha => h a (same ▸ ha)), same]

theorem State.localFlush_eq_false : s.localFlush = false ↔ ∀ k, (s.slot k).inFlush = false := by
  simp only [State.localFlush, List.any_eq_false, Bool.not_eq_true]
  exact ⟨fun h k => h k (by fin_cases k <;> simp [slotList]), fun h k _ => h k⟩

/-- R116: a fan that is released leaves the fields, and puts no grate in FLUSH. -/
theorem State.caRelease_calm (s : State) (i : Fin 4) {fields : Fields} (h : s.localFlush = false ∧ s.fields = fields) :
    (s.caRelease i).localFlush = false ∧ (s.caRelease i).fields = fields := by
  refine ⟨State.localFlush_eq_false.2 fun k => ?_, (congrArg Still.fields (s.caRelease_still i)).trans h.2⟩
  have before := State.localFlush_eq_false.1 h.1 k
  rcases s.caRelease_cases i with h | ⟨a, -, h⟩
  · rw [h]; exact before
  · rw [h]
    by_cases hk : k = i
    · subst hk; rw [State.caEnter_slot_self]; rfl
    · rw [State.caEnter_slot_ne a _ hk]; exact before

/-- R124: with no flush left, each forced fan whose flow input serves enters RUNNING. -/
theorem State.eachRelease_forced (h : s.slot j = .ca a) (hf : a.state = .forced) (hl : s.localFlush = false)
    (hi : s.inputFailed a.par.flowInput = false) : (s.eachSlot State.caRelease).slot j = .ca (a.entered .running) := by
  obtain ⟨t, ⟨calm, fields⟩, same, met⟩ := eachSlot_meets (Q := fun t => t.localFlush = false ∧ t.fields = s.fields)
    (fun t i ht => t.caRelease_calm i ht) State.caRelease_only (s := s) ⟨hl, rfl⟩ j
  have free : t.caForced a = false := by
    have serves : t.inputFailed a.par.flowInput = s.inputFailed a.par.flowInput := by
      simp [State.inputFailed, State.input, fields]
    simp [State.caForced, calm, serves, hi]
  rw [met, State.caRelease_forced (same.trans h) hf free, State.caEnter_slot_self]

theorem State.eachRelease_other (h : ∀ a, s.slot j ≠ .ca a) : (s.eachSlot State.caRelease).slot j = s.slot j := by
  obtain ⟨t, -, same, met⟩ :=
    eachSlot_meets (Q := fun _ => True) (fun _ _ _ => trivial) State.caRelease_only (s := s) trivial j
  rw [met, State.caRelease_other (fun a ha => absurd (same ▸ ha) (h a)), same]

end

end Sys2Proof.Machine
end

section
/-! PROOFS. The steps of target and estimate, the target air, the boost, the recovered heat, and what a fan and a grate do at an
update (R36, R112 to R124). -/

namespace Sys2Proof.Machine

/-! ## Steps and limits -/

theorem slewTarget_within {t adopted step : Nat} (h : adopted ≤ t + step) (k : t ≤ adopted + step) :
    slewTarget t adopted step = adopted := by
  unfold slewTarget; split <;> omega

theorem slewTarget_up {t adopted step : Nat} (h : t + step < adopted) : slewTarget t adopted step = t + step := by
  rw [slewTarget, if_pos (by omega)]; omega

theorem slewTarget_down {t adopted step : Nat} (h : adopted + step < t) : slewTarget t adopted step = t - step := by
  rw [slewTarget, if_neg (by omega)]; omega

theorem moveEstimate_rise {cr raw : Nat} (h : cr ≤ raw) (step : Nat) : moveEstimate cr raw step = raw := if_pos h

theorem moveEstimate_fall {cr raw : Nat} (h : raw < cr) (step : Nat) : moveEstimate cr raw step = max raw (cr - step) :=
  if_neg (Nat.not_le.2 h)

theorem le_moveEstimate_add (cr raw step : Nat) : cr ≤ moveEstimate cr raw step + step := by
  unfold moveEstimate; split <;> omega

/-- R114: a positive whole number is the nearest one to a fraction where the fraction lies within a half of it. -/
theorem roundRatio_toNat_eq {num : Int} {v : Nat} (hv : 0 < v) :
    (roundRatio num 100000).toNat = v ↔
      100000 * (2 * (v : Int) - 1) ≤ 2 * num ∧ 2 * num < 100000 * (2 * (v : Int) + 1) := by
  unfold roundRatio; omega

theorem targetAir_bounds {least most : Nat} (h : least ≤ most) (cr spec pct : Nat) :
    least ≤ targetAir cr spec pct least most ∧ targetAir cr spec pct least most ≤ most := by
  unfold targetAir; omega

theorem targetAir_eq {least most v : Nat} (hl : least < v) (hm : v < most) (cr spec pct : Nat) :
    targetAir cr spec pct least most = v ↔
      100000 * (2 * (v : Int) - 1) ≤ 2 * (cr * spec * (100 + pct)) ∧
        2 * (cr * spec * (100 + pct)) < 100000 * (2 * v + 1) := by
  have num : (cr : Int) * spec * (100 + pct) = ((cr * spec * (100 + pct) : Nat) : Int) := by push_cast; rfl
  have nearest := roundRatio_toNat_eq (num := (cr : Int) * spec * (100 + pct)) (by omega : 0 < v)
  rw [num] at nearest ⊢
  rw [targetAir, num]
  omega

theorem boostFor_none {t : Int} {limit : Nat} (h : t < limit + 10) (step most : Nat) : boostFor t limit step most = 0 := by
  have : (t - limit).toNat / 10 = 0 := by omega
  rw [boostFor, this]
  simp

theorem boostFor_steps {t : Int} {limit k : Nat} (h : limit + 10 * k ≤ t) (h' : t < limit + 10 * (k + 1))
    (step most : Nat) : boostFor t limit step most = min most (step * k) := by
  have tens : (t - limit).toNat / 10 = k := by omega
  unfold boostFor
  split
  · rw [show k = 0 by omega]; simp
  · rw [tens]

section
variable {r sp band step least most : Nat} {p : Int}

theorem strokeAfter_up (h : (sp : Int) + band < p) (hl : least ≤ r) (hm : r ≤ most) :
    strokeAfter r p sp band step least most = min most (r + step) := by
  rw [strokeAfter, if_pos h]; omega

theorem strokeAfter_down (h : p < (sp : Int) - band) (hm : r ≤ most) :
    strokeAfter r p sp band step least most = max least (r - step) := by
  rw [strokeAfter, if_neg (by omega), if_pos h]; omega

theorem strokeAfter_band (h : (sp : Int) - band ≤ p) (h' : p ≤ (sp : Int) + band) (hl : least ≤ r) (hm : r ≤ most) :
    strokeAfter r p sp band step least most = r := by
  rw [strokeAfter, if_neg (by omega), if_neg (by omega)]; omega

end

/-! ## The fan at an update (R114 to R117) -/

section
variable {s : State} {i j : Fin 4} {a : CaSlot} {g : CgSlot}

theorem State.setSlot_same {u : SlotUnit} (h : s.slot i = u) : s.setSlot i u = s := by
  have : s.channels.slots.set i u = s.channels.slots := by rw [← h]; exact Vector.set_getElem_self _
  rw [State.setSlot, this]

theorem State.caForm_eq (h : s.slot i = .ca a) : s.caForm i = s.setSlot i (.ca { a with
    boost := s.caBoost a
    target := targetAir s.channels.estimate a.par.specAir (s.caBoost a) a.par.minAir a.par.maxAir }) :=
  State.onCa_ca h _

theorem State.caPassage_leaves (h : s.slot i = .ca a) (ho : a.state = .off) (hr : s.station = .run)
    (hp : s.permit i = true) : s.caPassage i =
      (s.caEnter i { a with publish := 0 } (if s.caForced a then .forced else .running)).markLeft i := by
  rw [State.caPassage, State.onCa_ca h]
  exact if_pos ⟨ho, hr, hp⟩

theorem State.caPassage_stays (h : s.slot i = .ca a) (hn : a.state ≠ .off ∨ s.station ≠ .run ∨ s.permit i = false) :
    s.caPassage i = s := by
  rw [State.caPassage, State.onCa_ca h]
  refine if_neg fun ⟨ho, hr, hp⟩ => ?_
  rcases hn with h | h | h
  · exact h ho
  · exact h hr
  · simp [hp] at h

/-- R117: the response test of a running or forced fan. -/
def State.caSilent (s : State) (a : CaSlot) (x : Nat) : Bool := s.inputFresh a.par.flowInput && fanSilent (s.caFlow a) x

theorem State.caSilent_eq_false {x : Nat} (h : s.inputFresh a.par.flowInput = false ∨ 20 * x ≤ s.caFlow a * 100) :
    s.caSilent a x = false := by
  rcases h with h | h
  · simp [State.caSilent, h]
  · simp [State.caSilent, fanSilent, h]

theorem State.caSilent_eq_true {x : Nat} (h : s.inputFresh a.par.flowInput = true) (k : s.caFlow a * 100 < 20 * x) :
    s.caSilent a x = true := by
  simp [State.caSilent, fanSilent, h, k]

/-- R117: the response run of a fan that hands a target. -/
theorem State.caRespond_eq (h : s.slot i = .ca a) {x : Nat}
    (hx : (a.state = .running ∧ x = a.target) ∨ (a.state = .forced ∧ x = a.par.maxAir)) :
    s.caRespond i =
      if ranFor s.now (a.par.devTime * 1000) (nextRun (s.caSilent a x) s.now a.responseRun) = true then s.caEnter i a .fault
      else s.setSlot i (.ca { a with responseRun := nextRun (s.caSilent a x) s.now a.responseRun }) := by
  have state : a.state = .running ∨ a.state = .forced := hx.imp And.left And.left
  have handed : a.handed.getD 0 = x := by
    rcases hx with ⟨h, rfl⟩ | ⟨h, rfl⟩ <;> rw [CaSlot.handed, h] <;> rfl
  rw [State.caRespond, State.onCa_ca h, if_pos state, handed]
  rfl

theorem State.caRespond_responds (h : s.slot i = .ca a) {x : Nat}
    (hx : (a.state = .running ∧ x = a.target) ∨ (a.state = .forced ∧ x = a.par.maxAir))
    (hs : s.inputFresh a.par.flowInput = false ∨ 20 * x ≤ s.caFlow a * 100) :
    s.caRespond i = s.setSlot i (.ca { a with responseRun := none }) := by
  rw [State.caRespond_eq h hx, State.caSilent_eq_false hs]
  rfl

theorem State.caRespond_runs (h : s.slot i = .ca a) {x since : Nat}
    (hx : (a.state = .running ∧ x = a.target) ∨ (a.state = .forced ∧ x = a.par.maxAir))
    (hf : s.inputFresh a.par.flowInput = true) (hs : s.caFlow a * 100 < 20 * x) (hr : a.responseRun = some since)
    (early : s.now < since + a.par.devTime * 1000) : s.caRespond i = s := by
  rw [State.caRespond_eq h hx, State.caSilent_eq_true hf hs, hr]
  have : ranFor s.now (a.par.devTime * 1000) (nextRun true s.now (some since)) = false := by
    simpa [ranFor, nextRun] using early
  rw [this]
  have same : { a with responseRun := nextRun true s.now (some since) } = a := by
    cases a; cases hr; rfl
  exact State.setSlot_same (h.trans (congrArg SlotUnit.ca same.symm))

theorem State.caRespond_fault (h : s.slot i = .ca a) {x since : Nat}
    (hx : (a.state = .running ∧ x = a.target) ∨ (a.state = .forced ∧ x = a.par.maxAir))
    (hf : s.inputFresh a.par.flowInput = true) (hs : s.caFlow a * 100 < 20 * x) (hr : a.responseRun = some since)
    (late : since + a.par.devTime * 1000 ≤ s.now) : s.caRespond i = s.caEnter i a .fault := by
  rw [State.caRespond_eq h hx, State.caSilent_eq_true hf hs, hr]
  exact if_pos (by simpa [ranFor, nextRun] using late)

/-! ## The grate at an update (R120 to R124) -/

theorem risenBy_eq_false {p : Int} {rise : Nat} {l : List (Nat × Int)} (h : ∀ x ∈ l.head?, p - x.2 < rise) :
    risenBy p rise l = false := by
  cases l with
  | nil => rfl
  | cons x l => simpa [risenBy] using h x rfl

theorem risenBy_eq_true {p : Int} {rise : Nat} {l : List (Nat × Int)} {x : Nat × Int} (hx : x ∈ l.head?)
    (h : (rise : Int) ≤ p - x.2) : risenBy p rise l = true := by
  cases l with
  | nil => simp at hx
  | cons y l =>
    obtain rfl : y = x := by simpa using hx
    simpa [risenBy] using h

theorem State.cgPassage_leaves (h : s.slot i = .cg g) (hs : g.state = .stopped) (hr : s.station = .run)
    (hp : s.permit i = true) : s.cgPassage i =
      (s.cgEnter i { g with publish := 0 } (if s.inputFailed g.par.input then .fault else .running)).markLeft i := by
  rw [State.cgPassage, State.onCg_cg h]
  exact if_pos ⟨hs, hr, hp⟩

theorem State.cgAct_running (h : s.slot i = .cg g) (hr : g.state = .running) (hi : s.inputFailed g.par.input = false) :
    s.cgAct i = s.cgRunning i g (s.input g.par.input).value := by
  rw [State.cgAct, State.onCg_cg h]
  simp only [hr, hi, Bool.false_eq_true, if_false]

theorem State.cgAct_flush (h : s.slot i = .cg g) (hf : g.state = .flush) : s.cgAct i = s.cgFlushing i g
    (!s.inputFailed g.par.input && decide ((s.input g.par.input).value < (g.par.setpoint : Int) + g.par.band)) := by
  rw [State.cgAct, State.onCg_cg h]
  simp only [hf]

/-- R123: a flush forces every running fan, and leaves the grate in FLUSH. -/
theorem State.cgFlush_slot_self (s : State) (i : Fin 4) (g : CgSlot) : (s.cgFlush i g).slot i = .cg g.flushing := by
  obtain ⟨t, put, flushed⟩ := s.cgFlush_puts i g
  have self : (t.noteChange i).slot i = .cg g.flushing := put.noteChange_slot_self
  rw [flushed, State.eachForce_other (fun a ha => by rw [self] at ha; cases ha), self]

theorem State.cgFlush_forces (h : s.slot i = .cg g) (g' : CgSlot) (ha : s.slot j = .ca a) (hr : a.state = .running) :
    (s.cgFlush i g').slot j = .ca (a.entered .forced) := by
  have hj : j ≠ i := fun e => by rw [e, h] at ha; cases ha
  obtain ⟨t, put, flushed⟩ := s.cgFlush_puts i g'
  rw [flushed]
  exact State.eachForce_running ((put.noteChange_slot_ne hj).trans ha) hr

/-- R124: the end of a flush releases the forced fans, and leaves the grate in its state. -/
theorem State.cgEnter_slot_self (s : State) (i : Fin 4) (g : CgSlot) (st : CgState) :
    (s.cgEnter i g st).slot i = .cg (g.entered st) := by
  obtain ⟨t, put, entered⟩ := s.cgEnter_puts i g st
  have self : (t.noteChange i).slot i = .cg (g.entered st) := put.noteChange_slot_self
  rw [entered]
  split
  · rw [State.eachRelease_other (fun a ha => by rw [self] at ha; cases ha), self]
  · exact self

theorem State.cgEnter_releases (h : s.slot i = .cg g) {g' : CgSlot} (hf : g'.state = .flush) {st : CgState}
    (hst : st ≠ .flush)
    (ha : s.slot j = .ca a) (hr : a.state = .forced) (hi : s.inputFailed a.par.flowInput = false)
    (others : ∀ k, k ≠ i → (s.slot k).inFlush = false) : (s.cgEnter i g' st).slot j = .ca (a.entered .running) := by
  have hj : j ≠ i := fun e => by rw [e, h] at ha; cases ha
  obtain ⟨t, put, entered⟩ := s.cgEnter_puts i g' st
  rw [entered, if_pos hf]
  refine State.eachRelease_forced ((put.noteChange_slot_ne hj).trans ha) hr (State.localFlush_eq_false.2 fun k => ?_) ?_
  · by_cases hk : k = i
    · subst hk
      rw [put.noteChange_slot_self]
      simpa [SlotUnit.inFlush, CgSlot.entered] using hst
    · rw [put.noteChange_slot_ne hk]; exact others k hk
  · rw [State.inputFailed, State.input, State.noteChange_fields, put.fields]; exact hi

/-- R124: the grate in FLUSH, by its calm run. -/
theorem State.cgFlushing_restless (s : State) (i : Fin 4) (g : CgSlot) :
    s.cgFlushing i g false = s.setSlot i (.cg { g with rate := g.par.maxSpeed, calmRun := none }) := rfl

theorem State.cgFlushing_runs {since : Nat} (hr : g.calmRun = some since)
    (early : s.now < since + g.par.flushEnd * 1000) :
    s.cgFlushing i g true = s.setSlot i (.cg { g with rate := g.par.maxSpeed }) := by
  have : ranFor s.now (g.par.flushEnd * 1000) (nextRun true s.now (some since)) = false := by
    simpa [ranFor, nextRun] using early
  simp only [State.cgFlushing, hr, this, Bool.false_eq_true, if_false]
  rfl

theorem State.cgFlushing_ends {since : Nat} (hr : g.calmRun = some since)
    (late : since + g.par.flushEnd * 1000 ≤ s.now) :
    s.cgFlushing i g true = s.cgEnter i { g with rate := g.par.maxSpeed } .running := by
  rw [State.cgFlushing, hr]
  exact if_pos (by simpa [ranFor, nextRun] using late)

theorem State.cgAct_restless (h : s.slot i = .cg g) (hf : g.state = .flush)
    (hw : s.inputFailed g.par.input = true ∨ (g.par.setpoint : Int) + g.par.band ≤ (s.input g.par.input).value) :
    s.cgAct i = s.setSlot i (.cg { g with rate := g.par.maxSpeed, calmRun := none }) := by
  rw [← State.cgFlushing_restless s i g, State.cgAct_flush h hf]
  rcases hw with hi | hw
  · simp [hi]
  · rw [decide_eq_false (not_lt.2 hw), Bool.and_false]

theorem State.cgAct_calm (h : s.slot i = .cg g) (hf : g.state = .flush) (hi : s.inputFailed g.par.input = false)
    (calm : (s.input g.par.input).value < (g.par.setpoint : Int) + g.par.band) : s.cgAct i = s.cgFlushing i g true := by
  rw [State.cgAct_flush h hf]
  simp [hi, calm]

/-! ## The recovered heat (R115) -/

theorem State.recoveredHeat_none (h : a.par.tempInput = none ∨ (s.input a.par.flowInput).freshness = .failed ∨
    ∃ k, a.par.tempInput = some k ∧ (s.input k).freshness = .failed) : s.recoveredHeat a = 0 := by
  unfold State.recoveredHeat
  split
  · rfl
  · rename_i k hk
    refine if_pos ?_
    rcases h with h | h | ⟨m, hm, h⟩
    · simp [hk] at h
    · simp [State.inputFailed, h]
    · obtain rfl : k = m := by rw [hk] at hm; exact Option.some.inj hm
      simp [State.inputFailed, h]

theorem State.ambient_eq (s : State) : s.ambient = match s.stationInput .ambient with
    | none => 20
    | some m => if (s.input m).freshness = .failed then 20 else (s.input m).value := by
  unfold State.ambient State.inputFailed
  cases s.stationInput .ambient with
  | none => rfl
  | some m => simp

theorem State.recoveredHeat_eq {k : Fin 16} (hk : a.par.tempInput = some k)
    (hf : (s.input a.par.flowInput).freshness ≠ .failed) (ht : (s.input k).freshness ≠ .failed) :
    s.recoveredHeat a =
      min 400000 ((s.input a.par.flowInput).value.toNat * 130 * ((s.input k).value - s.ambient).toNat / 10000) := by
  have flow : s.inputFailed a.par.flowInput = false := by simpa [State.inputFailed] using hf
  have temp : s.inputFailed k = false := by simpa [State.inputFailed] using ht
  rw [State.recoveredHeat, hk]
  simp only [flow, temp, Bool.or_false, Bool.false_eq_true, if_false, State.caFlow]
  rfl

end

/-- Settles O34: the arithmetic of the steps, and the slots as each operation leaves them. -/
theorem targetAndEstimateMoveByTheirSteps : Obligations.TargetAndEstimateMoveByTheirSteps := by
  refine ⟨fun t adopted step => ⟨slewTarget_within, slewTarget_up, slewTarget_down⟩,
    fun cr raw step => ⟨fun h => moveEstimate_rise h step, fun h => moveEstimate_fall h step,
      le_moveEstimate_add cr raw step⟩,
    fun cr spec pct least most h => ⟨(targetAir_bounds h cr spec pct).1, (targetAir_bounds h cr spec pct).2,
      fun v hl hm => targetAir_eq hl hm cr spec pct⟩,
    fun t limit step most => ⟨fun h => boostFor_none h step most, fun k h h' => boostFor_steps h h' step most⟩,
    fun r p sp band step least most hl hm => ⟨fun h => strokeAfter_up h hl hm,
      fun h => strokeAfter_down h hm, fun h h' => strokeAfter_band h h' hl hm⟩,
    fun s i a h => ⟨State.caForm_eq h, fun ho hr hp => ?_, State.caPassage_stays h, fun x hx =>
      ⟨fun hs _ => State.caRespond_responds h hx hs, fun since hf hs hr =>
        ⟨State.caRespond_runs h hx hf hs hr, fun late => ?_⟩⟩⟩,
    fun s i g p h hp => ⟨fun hr hi kept hk => ⟨fun calm => ?_, fun x hx rise => ⟨?_, fun j a ha har => ?_⟩⟩,
      fun hf => ⟨fun hw => ?_, fun since hi calm hr => ⟨fun early => ?_, fun late =>
        ⟨?_, fun j a ha haf hai others => ?_⟩⟩⟩⟩,
    fun s a => ⟨State.recoveredHeat_none, fun k ambient hk hf ht ha => ?_⟩⟩
  · rw [State.caPassage_leaves h ho hr hp, State.markLeft_slot, State.caEnter_slot_self]
    exact ⟨_, rfl, rfl, by simp [State.caForced]⟩
  · rw [State.caRespond_fault h hx hf hs hr late, State.caEnter_slot_self]
    exact ⟨_, rfl, rfl, rfl⟩
  · subst hp hk
    rw [State.cgAct_running h hr hi, State.cgRunning]
    simp only [risenBy_eq_false calm, Bool.false_eq_true, if_false]
  · subst hp hk
    rw [State.cgAct_running h hr hi, State.cgRunning, if_pos (risenBy_eq_true hx rise), State.cgFlush_slot_self]
    exact ⟨_, rfl, rfl, rfl, rfl, rfl⟩
  · subst hp hk
    rw [State.cgAct_running h hr hi, State.cgRunning, if_pos (risenBy_eq_true hx rise), State.cgFlush_forces h _ ha har]
    exact ⟨_, rfl, rfl, rfl⟩
  · subst hp
    rw [State.cgAct_restless h hf hw]
  · subst hp
    rw [State.cgAct_calm h hf hi calm, State.cgFlushing_runs hr early]
  · subst hp
    rw [State.cgAct_calm h hf hi calm, State.cgFlushing_ends hr late, State.cgEnter_slot_self]
    exact ⟨_, rfl, rfl, rfl, rfl⟩
  · subst hp
    rw [State.cgAct_calm h hf hi calm, State.cgFlushing_ends hr late,
      State.cgEnter_releases (g' := { g with rate := g.par.maxSpeed }) (st := .running) h hf (by decide) ha haf hai others]
    exact ⟨_, rfl, rfl, rfl⟩
  · have served : ambient = s.ambient := ha.trans s.ambient_eq.symm
    rw [State.recoveredHeat_eq hk hf ht, served]

end Sys2Proof.Machine
end

section
/-! PROOFS. The control update: its clock, target and estimate, the publications at its end, and the notice of each change of
a slot's state (R36, R39, R87, R88, R105, R108, R111, R112, R116, R120, R126). -/

namespace Sys2Proof.Machine

/-! ## The publications at the end of an update (R88, R108, R126) -/

theorem SlotUnit.withPublish_publishCount {u : SlotUnit} (h : u ≠ .unused) (n : Nat) :
    (u.withPublish n).publishCount = n := by
  cases u with
  | unused => exact absurd rfl h
  | _ => rfl

theorem SlotUnit.withPublish_inFlush (u : SlotUnit) (n : Nat) : (u.withPublish n).inFlush = u.inFlush := by cases u <;> rfl

theorem SlotUnit.withPublish_ne_unused {u : SlotUnit} (h : u ≠ .unused) (n : Nat) : u.withPublish n ≠ .unused := by
  cases u with
  | unused => exact absurd rfl h
  | _ => simp [SlotUnit.withPublish]

section
variable (s : State) (i j : Fin 4)

/-- R88: a state in which a slot has another publish count. -/
def State.setPublish (s : State) (i : Fin 4) (n : Nat) : State := s.setSlot i ((s.slot i).withPublish n)

theorem State.setPublish_slot_self (n : Nat) : (s.setPublish i n).slot i = (s.slot i).withPublish n :=
  State.setSlot_slot_self s i _

theorem State.setPublish_slot_ne {s : State} {i j : Fin 4} (h : j ≠ i) (n : Nat) : (s.setPublish i n).slot j = s.slot j :=
  State.setSlot_slot_ne s i j _ h

theorem State.setPublish_localFlush (n : Nat) : (s.setPublish i n).localFlush = s.localFlush := by
  have same (k : Fin 4) : ((s.setPublish i n).slot k).inFlush = (s.slot k).inFlush := by
    by_cases h : k = i
    · rw [h, State.setPublish_slot_self, SlotUnit.withPublish_inFlush]
    · rw [State.setPublish_slot_ne h]
  simp only [State.localFlush, same]

/-- R87, R108, R126: a notice does not carry a publish count. -/
theorem State.setPublish_slotNotice (n : Nat) : (s.setPublish i n).slotNotice j = s.slotNotice j := by
  have flush := s.setPublish_localFlush i n
  unfold State.slotNotice
  rw [flush]
  by_cases h : j = i
  · subst h
    rw [State.setPublish_slot_self]
    cases s.slot j <;> rfl
  · rw [State.setPublish_slot_ne h]
    cases s.slot j <;> rfl

theorem State.slotNotice_unused {s : State} {i : Fin 4} (h : s.slot i = .unused) : s.slotNotice i = none := by
  rw [State.slotNotice, h]

/-- R88: the publish count of a slot after an update in RUN. -/
def State.countAfter (s : State) (left : Vector Bool 4) (i : Fin 4) : Nat :=
  (publishAfter (s.slot i).publishCount s.divisor left[i]).1

/-- R88: a slot's publication changes its count and the link alone. -/
theorem State.slotPublish_frame (noticed left : Vector Bool 4) : ∃ l f,
    State.slotPublish noticed left s i = { s.setPublish i (s.countAfter left i) with link := l, free := f } := by
  unfold State.slotPublish
  simp only
  split
  · rename_i h
    have same : s.setPublish i (s.countAfter left i) = s := State.setSlot_same (by rw [h]; rfl)
    rw [same]
    exact ⟨_, _, rfl⟩
  · split
    · exact State.publish_frame (s.setPublish i (s.countAfter left i)) i
    · exact ⟨_, _, rfl⟩

theorem State.slotPublish_only (noticed left : Vector Bool 4) : s.onlySlot i (State.slotPublish noticed left s i) := by
  intro j hj
  obtain ⟨l, f, h⟩ := s.slotPublish_frame i noticed left
  rw [h]
  exact State.setPublish_slot_ne hj _

/-- R88: a slot offers where its interval is over, unless it has offered at this update. -/
theorem State.slotPublish_offers {noticed left : Vector Bool 4} {s : State} {i : Fin 4} (ho : s.offers)
    (hl : left[i] = false) (hc : s.divisor ≤ (s.slot i).publishCount + 1) (hn : noticed[i] = false) {n : Notice}
    (h : s.slotNotice i = some n) : s.link.tookOffer (State.slotPublish noticed left s i).link n := by
  have used : s.slot i ≠ .unused := fun hu => by rw [State.slotNotice_unused hu] at h; cases h
  have ended : publishAfter (s.slot i).publishCount s.divisor left[i] = (0, true) := by simp [publishAfter, hl, hc]
  have offered : State.slotPublish noticed left s i = (s.setPublish i 0).offer n := by
    have notice : (s.setPublish i 0).slotNotice i = some n := (s.setPublish_slotNotice i i 0).trans h
    have published : (s.setPublish i 0).publish i = (s.setPublish i 0).offer n := by rw [State.publish_eq, notice]
    rw [← published, State.slotPublish, if_neg used, ended, hn]
    rfl
  rw [offered]
  exact State.offer_tookOffer (s.setPublish i 0) n ho.1 ho.2

theorem State.slotPublish_link {noticed left : Vector Bool 4} {s : State} {i : Fin 4}
    (h : ¬(left[i] = false ∧ s.divisor ≤ (s.slot i).publishCount + 1 ∧ noticed[i] = false)) :
    (State.slotPublish noticed left s i).link = s.link := by
  unfold State.slotPublish
  simp only
  split
  · rfl
  · split
    · rename_i hr
      exfalso
      apply h
      unfold publishAfter at hr
      cases hl : left[i] <;> simp [hl] at hr ⊢
      split at hr <;> simp_all
    · rfl

/-- R88: before the slots from number `k` on have published. -/
structure State.Publishing (s p : State) (k : Nat) : Prop where
  cfg : p.cfg = s.cfg
  station : p.station = s.station
  notices : ∀ i, p.slotNotice i = s.slotNotice i
  slots : ∀ i : Fin 4, k ≤ i.val → p.slot i = s.slot i

theorem State.Publishing.next {s p : State} {i : Fin 4} (h : s.Publishing p i.val) (noticed left : Vector Bool 4) :
    s.Publishing (State.slotPublish noticed left p i) (i.val + 1) := by
  obtain ⟨l, f, published⟩ := p.slotPublish_frame i noticed left
  rw [published]
  refine ⟨h.cfg, h.station, fun j => (p.setPublish_slotNotice i j _).trans (h.notices j), fun j hj => ?_⟩
  have ne : j ≠ i := fun e => by subst e; omega
  exact (State.setPublish_slot_ne ne _).trans (h.slots j (by omega))

/-- R88: the states between the publications of the slots, in the order of their numbers. -/
def State.published (s : State) : Fin 5 → State :=
  let f := State.slotPublish s.channels.noticed s.channels.leftOff
  fun
  | 0 => s.endMarks
  | 1 => f s.endMarks 0
  | 2 => f (f s.endMarks 0) 1
  | 3 => f (f (f s.endMarks 0) 1) 2
  | 4 => f (f (f (f s.endMarks 0) 1) 2) 3

theorem State.published_succ : s.published i.succ =
    State.slotPublish s.channels.noticed s.channels.leftOff (s.published i.castSucc) i := by
  match i with
  | 0 => rfl
  | 1 => rfl
  | 2 => rfl
  | 3 => rfl

theorem State.published_publishing : s.Publishing (s.published i.castSucc) i.val := by
  have start : s.Publishing (s.published 0) 0 := ⟨rfl, rfl, fun _ => rfl, fun _ _ => rfl⟩
  match i with
  | 0 => exact start
  | 1 => exact start.next _ _
  | 2 => exact (start.next _ _).next _ _
  | 3 => exact ((start.next _ _).next _ _).next _ _

theorem State.divisor_of_cfg {s : State} {g : Cfg} (h : s.cfg = some g) : s.divisor = g.divisor := by
  rw [State.divisor, h]

/-- R88: each slot after the publications. -/
theorem State.publishAll_slot {s : State} {g : Cfg} (hg : s.cfg = some g) (i : Fin 4) :
    s.publishAll.slot i = (s.slot i).withPublish
      (if s.channels.leftOff[i] = true ∨ g.divisor ≤ (s.slot i).publishCount + 1 then 0
      else (s.slot i).publishCount + 1) := by
  obtain ⟨t, cfg, same, met⟩ := eachSlot_meets (Q := fun t => t.cfg = some g) (s := s.endMarks)
    (f := State.slotPublish s.channels.noticed s.channels.leftOff)
    (fun t i ht => by obtain ⟨l, f, h⟩ := t.slotPublish_frame i s.channels.noticed s.channels.leftOff; rw [h]; exact ht)
    (fun t i => t.slotPublish_only i _ _) hg i
  have before : t.slot i = s.slot i := same
  have count : t.countAfter s.channels.leftOff i =
      if s.channels.leftOff[i] = true ∨ g.divisor ≤ (s.slot i).publishCount + 1 then 0
      else (s.slot i).publishCount + 1 := by
    rw [State.countAfter, before, State.divisor_of_cfg cfg, publishAfter]
    cases s.channels.leftOff[i] <;> simp
    split <;> rfl
  obtain ⟨l, f, h⟩ := t.slotPublish_frame i s.channels.noticed s.channels.leftOff
  rw [State.publishAll, met, h, ← count, ← before]
  exact t.setPublish_slot_self i _

end

/-- R88: what each slot publishes, as one link after another. -/
theorem State.publishAll_links {s : State} {g : Cfg} (hg : s.cfg = some g) (ho : s.offers) :
    ∃ l : Fin 5 → Link, l 0 = s.link ∧ l 4 = s.publishAll.link ∧ ∀ i : Fin 4,
      if s.channels.leftOff[i] = false ∧ g.divisor ≤ (s.slot i).publishCount + 1 ∧ s.channels.noticed[i] = false
      then ∀ n, s.slotNotice i = some n → (l i.castSucc).tookOffer (l i.succ) n
      else l i.succ = l i.castSucc := by
  refine ⟨fun k => (s.published k).link, rfl, rfl, fun i => ?_⟩
  have stage := s.published_publishing i
  have slot := stage.slots i le_rfl
  have divisor := State.divisor_of_cfg (stage.cfg.trans hg)
  simp only [State.published_succ]
  split
  · rename_i h
    intro n hn
    refine State.slotPublish_offers ?_ h.1 ?_ h.2.2 ((stage.notices i).trans hn)
    · unfold State.offers; rw [stage.station]; exact ho
    · rw [divisor, slot]; exact h.2.1
  · rename_i h
    exact State.slotPublish_link (by rw [divisor, slot]; exact h)

/-! ## The notice of a change of state (R87, R88, R105, R116, R120) -/

section
variable {s t : State} {i : Fin 4} {u : SlotUnit}

theorem State.cfStop_puts (s : State) (i : Fin 4) (c : CfSlot) (st : CfState) :
    ∃ t, s.Puts t i (.cf (c.stopped st)) ∧ s.cfStop i c st = t.noteChange i := by
  have put := (s.setSlot_puts i (.cf (c.stopped st))).handTarget c.par.output 0 c.par.massScale
  refine ⟨_, ?_, rfl⟩
  split
  · exact put.ask _
  · exact put

/-- R105: a DI slot as it enters OFF, TRIPPED or FAULT. -/
def DiSlot.stopped (d : DiSlot) (st : DiState) : DiSlot :=
  { d with state := st, debt := 0, call := false, alloc := { d.alloc with share := 0, heat := 0 } }

theorem State.diStop_puts (s : State) (i : Fin 4) (d : DiSlot) (st : DiState) :
    ∃ t, s.Puts t i (.di (d.stopped st)) ∧ s.diStop i d st = t.noteChange i :=
  ⟨_, (s.setSlot_puts i (.di (d.stopped st))).clearStarved i, rfl⟩

theorem State.cfStop_announces (ho : s.offers) (c : CfSlot) (st : CfState) : s.announces (s.cfStop i c st) i := by
  obtain ⟨t, put, stopped⟩ := s.cfStop_puts i c st
  rw [stopped]
  exact put.announces ho (by simp)

theorem State.diStop_announces (ho : s.offers) (d : DiSlot) (st : DiState) : s.announces (s.diStop i d st) i := by
  obtain ⟨t, put, stopped⟩ := s.diStop_puts i d st
  rw [stopped]
  exact put.announces ho (by simp)

theorem State.caEnter_announces (ho : s.offers) (a : CaSlot) (st : CaState) : s.announces (s.caEnter i a st) i := by
  obtain ⟨t, put, entered⟩ := s.caEnter_puts i a st
  rw [entered]
  exact put.announces ho (by simp)

/-- R124: the end of a flush that no fan waits for is the grate's own change. -/
theorem State.cgEnter_announces (ho : s.offers) (g : CgSlot) (st : CgState)
    (h : g.state = .flush → ∀ j a, s.slot j = .ca a → a.state ≠ .forced) : s.announces (s.cgEnter i g st) i := by
  obtain ⟨t, put, entered⟩ := s.cgEnter_puts i g st
  have told := put.announces ho (by simp)
  rw [entered]
  split
  · rename_i hf
    have still (j : Fin 4) : (t.noteChange i).caRelease j = t.noteChange i := State.caRelease_other fun a ha hr => by
      by_cases hj : j = i
      · rw [hj, put.noteChange_slot_self] at ha; cases ha
      · rw [put.noteChange_slot_ne hj] at ha; exact absurd hr (h hf j a ha)
    rw [eachSlot_id still]
    exact told
  · exact told

/-- R123: a flush that forces no fan is the grate's own change. -/
theorem State.cgFlush_announces (ho : s.offers) (g : CgSlot) (h : ∀ j a, s.slot j = .ca a → a.state ≠ .running) :
    s.announces (s.cgFlush i g) i := by
  obtain ⟨t, put, flushed⟩ := s.cgFlush_puts i g
  have still (j : Fin 4) : (t.noteChange i).caForce j = t.noteChange i := State.caForce_other fun a ha => by
    by_cases hj : j = i
    · rw [hj, put.noteChange_slot_self] at ha; cases ha
    · rw [put.noteChange_slot_ne hj] at ha; exact h j a ha
  rw [flushed, eachSlot_id still]
  exact put.announces ho (by simp)

theorem State.cfPassage_announces (ho : s.offers) {c : CfSlot} (hc : c.state = .off) (hm : s.cfMayStart i c = true) :
    s.announces (s.cfPassage i c) i ∧ (s.cfPassage i c).channels.leftOff[i] = true := by
  rw [State.cfPassage, if_pos ⟨hc, hm⟩]
  exact ⟨State.markLeft_announces ((s.setSlot_puts i _).announces ho (by simp)), State.markLeft_leftOff _ _⟩

theorem State.cfStartTest_announces (ho : s.offers) {c : CfSlot} (hm : 0 < c.alloc.mass)
    (ht : c.alloc.mass ≤ 2 * s.cfMeasured c) : s.announces (s.cfStartTest i c) i := by
  rw [State.cfStartTest, if_neg (by omega), if_pos (by omega)]
  exact (s.setSlot_puts i _).announces ho (by simp)

theorem State.cfVerdict_announces (ho : s.offers) {c : CfSlot}
    (h : (c.state = .dosing ∧ c.alloc.held = true) ∨ (c.state = .hold ∧ c.alloc.held = false)) :
    s.announces (s.cfVerdict i c) i := by
  rcases h with h | h
  · rw [State.cfVerdict, if_pos h]
    exact (s.setSlot_puts i _).announces ho (by simp)
  · rw [State.cfVerdict, if_neg (by simp [h.1]), if_pos h]
    exact (s.setSlot_puts i _).announces ho (by simp)

theorem State.diPassage_silent {d : DiSlot} (hd : d.state = .off) (hm : s.diMayStart i d = true) :
    (s.diPassage i d).link = s.link ∧ (s.diPassage i d).channels.leftOff[i] = true := by
  rw [State.diPassage, if_pos ⟨hd, hm⟩]
  exact ⟨rfl, State.markLeft_leftOff _ _⟩

theorem State.diVerdict_announces (ho : s.offers) {d : DiSlot} (hs : s.slot i = .di d)
    (h : (d.state = .dosing ∧ d.alloc.held = true) ∨ (d.state = .hold ∧ d.alloc.held = false) ∨
      ((d.state = .dosing ∨ d.state = .hold) ∧ s.channels.leftOff[i] = true)) : s.announces (s.diVerdict i d) i := by
  unfold State.diVerdict
  split
  · exact (s.setSlot_puts i _).announces ho (by simp)
  · rename_i h1
    split
    · exact (s.setSlot_puts i _).announces ho (by simp)
    · rename_i h2
      obtain ⟨state, left⟩ := (h.resolve_left h1).resolve_left h2
      rw [if_pos ⟨by simpa [DiSlot.runs] using state, left⟩]
      exact State.noteChange_announces rfl rfl ho (by simp [hs])

/-- R84, R106: what becomes of a slot that may stand in FAULT at the entry to RUN. -/
theorem State.faultAtRun_cases (s : State) (i : Fin 4) : s.faultAtRun i = s ∨
    ∃ t u, s.Puts t i u ∧ u ≠ .unused ∧ s.faultAtRun i = t.noteChange i := by
  unfold State.faultAtRun State.cfInputFailed
  repeat' split
  case h_1.isTrue.isTrue =>
    obtain ⟨t, put, stopped⟩ := s.cfStop_puts i ‹_› .fault
    exact .inr ⟨t, _, put, by simp, stopped⟩
  case h_2.isTrue =>
    obtain ⟨t, put, stopped⟩ := s.diStop_puts i ‹_› .fault
    exact .inr ⟨t, _, put, by simp, stopped⟩
  all_goals exact .inl rfl

/-- R87, R88: at the entry to RUN a used slot offers one notice, and its count is 0. -/
theorem State.slotToRun_announces (ho : s.offers) (hu : s.slot i ≠ .unused) (hm : s.channels.updating = true)
    (hn : s.channels.noticed[i] = false) :
    s.announces (s.slotToRun i) i ∧ ((s.slotToRun i).slot i).publishCount = 0 := by
  have notice (v : State) : v.firstNotice i =
      if (v.setPublish i 0).channels.noticed[i] = true then v.setPublish i 0 else (v.setPublish i 0).publish i := rfl
  have zero {v : State} (hv : v.slot i ≠ .unused) : ((v.setPublish i 0).slot i).publishCount = 0 := by
    rw [State.setPublish_slot_self, SlotUnit.withPublish_publishCount hv]
  rw [State.slotToRun, notice]
  rcases s.faultAtRun_cases i with h | ⟨t, u, put, used, h⟩
  · have quiet : (s.setPublish i 0).channels.noticed[i] = false := hn
    rw [h, if_neg (by simp [quiet])]
    have used : (s.setPublish i 0).slot i ≠ .unused := by
      rw [State.setPublish_slot_self]; exact SlotUnit.withPublish_ne_unused hu 0
    obtain ⟨l, f, published⟩ := (s.setPublish i 0).publish_frame i
    refine ⟨State.publish_announces (s.setPublish i 0) i ho used, ?_⟩
    rw [published]
    exact zero hu
  · have marked : ((t.noteChange i).setPublish i 0).channels.noticed[i] = true := by
      have updating : t.channels.updating = true := by rw [put.channels]; exact hm
      obtain ⟨l, f, noted⟩ := t.noteChange_frame i
      have : (t.noteChange i).channels.noticed = t.channels.noticed.set i true := by
        rw [noted]; exact if_pos updating
      change (t.noteChange i).channels.noticed[i] = true
      rw [this]
      simp
    rw [h, if_pos marked]
    obtain ⟨n, notice, offered⟩ := put.announces ho used
    exact ⟨⟨n, ((t.noteChange i).setPublish_slotNotice i i 0).trans notice, offered⟩,
      zero (by rw [put.noteChange_slot_self]; exact used)⟩

theorem State.noteChange_noticed (s : State) (i : Fin 4) : (s.noteChange i).channels.noticed =
    if s.channels.updating = true then s.channels.noticed.set i true else s.channels.noticed := by
  obtain ⟨l, f, h⟩ := s.noteChange_frame i
  rw [h]

end

end Sys2Proof.Machine
end

section
/-! PROOFS. What a control update leaves: its clock, target and estimate, and its publications (R36, R39, R88, R111, R112). -/

namespace Sys2Proof.Machine

/-! ## The requests and the marks at the end of an update -/

/-- The requests that are left over and the mark of an update. -/
def State.repose (s : State) : List AlarmRequest × Bool := (s.agenda, s.channels.updating)

theorem eachSlot_repose {f : State → Fin 4 → State} (h : ∀ s i, (f s i).repose = s.repose) (s : State) :
    (s.eachSlot f).repose = s.repose := by
  simp [State.eachSlot, h]

section
variable (s : State)

theorem State.slotPublish_repose (noticed left : Vector Bool 4) (i : Fin 4) :
    (State.slotPublish noticed left s i).repose = s.repose := by
  obtain ⟨l, f, h⟩ := s.slotPublish_frame i noticed left
  rw [h]; rfl

@[simp] theorem State.setSlot_repose (i : Fin 4) (u : SlotUnit) : (s.setSlot i u).repose = s.repose := rfl
@[simp] theorem State.postMass_repose (i : Fin 4) (n : Nat) : (s.postMass i n).repose = s.repose := rfl
@[simp] theorem State.postHeat_repose (i : Fin 4) (n : Nat) : (s.postHeat i n).repose = s.repose := rfl
@[simp] theorem State.postRunning_repose (i : Fin 4) (n : Nat) : (s.postRunning i n).repose = s.repose := rfl
@[simp] theorem State.postTripped_repose (i : Fin 4) (n : Nat) : (s.postTripped i n).repose = s.repose := rfl
@[simp] theorem State.postAir_repose (i : Fin 4) (n : Nat) : (s.postAir i n).repose = s.repose := rfl
@[simp] theorem State.postRecovered_repose (i : Fin 4) (n : Nat) : (s.postRecovered i n).repose = s.repose := rfl
@[simp] theorem State.postForced_repose (i : Fin 4) (n : Nat) : (s.postForced i n).repose = s.repose := rfl
@[simp] theorem State.postStrokes_repose (i : Fin 4) (n : Nat) : (s.postStrokes i n).repose = s.repose := rfl
@[simp] theorem State.postFlushSeconds_repose (i : Fin 4) (n : Nat) : (s.postFlushSeconds i n).repose = s.repose := rfl

@[simp] theorem State.cfPostAmounts_repose (i : Fin 4) : (s.cfPostAmounts i).repose = s.repose := by
  unfold State.cfPostAmounts State.onCf; split <;> simp

@[simp] theorem State.cfPostTime_repose (i : Fin 4) (a : CfState) : (s.cfPostTime i a).repose = s.repose := by
  unfold State.cfPostTime State.onCf; repeat' split
  all_goals simp

theorem State.slotPost_repose (arrived : Vector SlotUnit 4) (i : Fin 4) : (State.slotPost arrived s i).repose = s.repose := by
  unfold State.slotPost; split
  · simp
  · unfold State.diPostTime State.onDi; repeat' split
    all_goals simp
  · unfold State.caPost State.onCa; simp only; repeat' split
    all_goals simp
  · unfold State.cgPost State.onCg; simp only; repeat' split
    all_goals simp
  · rfl

theorem State.postCooler_repose : s.postCooler.repose = s.repose := by
  unfold State.postCooler; split <;> rfl

theorem State.postAlarmTime_repose (b : Bool) : (s.postAlarmTime b).repose = s.repose := by
  unfold State.postAlarmTime; split <;> rfl

/-- R88: the publications and postings send no request, and end the marks of the update. -/
theorem State.controlAccounts_repose (arrived : Vector SlotUnit 4) (b : Bool) :
    (s.controlAccounts arrived b).repose = (s.agenda, false) := by
  unfold State.controlAccounts; split
  · rw [State.postAlarmTime_repose, State.postCooler_repose, eachSlot_repose fun t i => t.slotPost_repose arrived i,
      State.publishAll, eachSlot_repose fun t i => t.slotPublish_repose _ _ i]
    rfl
  · rfl

theorem State.controlAccounts_link (arrived : Vector SlotUnit 4) (b : Bool) : (s.controlAccounts arrived b).link =
    if s.station = .run then s.publishAll.link else s.link := by
  unfold State.controlAccounts; split
  · rw [State.postAlarmTime_link, State.postCooler_link, eachSlot_link fun t i => t.slotPost_link arrived i]
  · rfl

theorem State.control_repose : s.control.repose = ([], false) := State.controlAccounts_repose _ _ _

theorem State.control_link : s.control.link =
    if s.station = .run then s.controlSlots.fireSupervision.settle.publishAll.link
    else s.controlSlots.fireSupervision.settle.link := by
  have shown : s.controlSlots.fireSupervision.settle.outlook = s.slew.updateEstimate.outlook := by
    rw [State.settle_outlook, State.fireSupervision_outlook, State.controlSlots_outlook]
  have moved : s.slew.updateEstimate.station = s.station := by
    unfold State.updateEstimate State.slew; repeat' split
    all_goals rfl
  rw [State.control, State.controlAccounts_link]
  generalize s.controlSlots.fireSupervision.settle = w at shown
  generalize s.slew.updateEstimate = v at shown moved
  have station : w.station = v.station := congrArg Outlook.station shown
  rw [station, moved]

end

/-! ## Target and estimate at an update (R36, R111, R112) -/

/-- R36: the target after it has moved. -/
def Picture.slewedTarget (p : Picture) (step : Nat) : Nat :=
  match p.order with
  | none => p.target
  | some a => slewTarget p.target a.target step

section
variable {s : State} {g : Cfg}

theorem State.slew_eq (hg : s.cfg = some g) : s.slew =
    { s with picture := { s.picture with target := s.picture.slewedTarget (slewStep g.targetSlew g.period) } } := by
  unfold State.slew
  split
  · rename_i g' a hg' ha
    obtain rfl : g = g' := Option.some.inj (hg.symm.trans hg')
    have moved : s.picture.slewedTarget (slewStep g.targetSlew g.period) =
        slewTarget s.picture.target a.target (slewStep g.targetSlew g.period) := by rw [Picture.slewedTarget, ha]
    rw [moved]
  · rename_i none
    have stays : s.picture.slewedTarget (slewStep g.targetSlew g.period) = s.picture.target := by
      unfold Picture.slewedTarget; split
      · rfl
      · exact absurd ‹_› (none g _ hg)
    rw [stays]

theorem State.updateEstimate_outlook (hg : s.cfg = some g) : s.updateEstimate.outlook = { s.outlook with
    estimate := if s.hasCooler then
        moveEstimate s.channels.estimate (rawRate s.totalHeat g.shc) (decayStep s.channels.estimate g.decayPm g.period)
      else s.channels.estimate } := by
  unfold State.updateEstimate
  split
  · rename_i none; rw [hg] at none; cases none
  · rename_i g' hg'
    obtain rfl : g = g' := Option.some.inj (hg.symm.trans hg')
    split <;> rfl

/-- R36, R112: what an update shows. -/
theorem State.control_shown (hg : s.cfg = some g) : s.control.outlook = { s.outlook with
    picture := { s.picture with target := s.picture.slewedTarget (slewStep g.targetSlew g.period) }
    estimate := if s.hasCooler then
        moveEstimate s.channels.estimate (rawRate s.totalHeat g.shc) (decayStep s.channels.estimate g.decayPm g.period)
      else s.channels.estimate } := by
  rw [State.control_outlook, State.slew_eq hg]
  exact (State.updateEstimate_outlook (g := g) (s := { s with picture :=
    { s.picture with target := s.picture.slewedTarget (slewStep g.targetSlew g.period) } }) hg).trans rfl

end

theorem agenda_of_repose {s : State} {b : Bool} (h : s.repose = ([], b)) : s.agenda = [] := congrArg Prod.fst h

/-- R39: the state in which an update begins: the update timer runs again from its expiry. -/
def State.updateBegun (s : State) (due : Nat) (g : Cfg) : State :=
  { s.begun.reach due with heat := { s.heat with updateDue := some (due + g.period) } }

theorem exec_controlUpdate {s : State} {due : Nat} {g : Cfg} (h : s.calm) (hg : s.cfg = some g)
    (hd : s.heat.updateDue = some due) : exec .controlUpdate s = .next (s.updateBegun due g).control := by
  have runs : s.begun.heat.updateDue = some due := hd
  have period : (s.begun.reach due).period = g.period := by
    have : (s.begun.reach due).cfg = some g := hg
    rw [State.period, this]
  have begins : s.begun.updateExpires due = (s.updateBegun due g).control := by
    have begun : { s.begun.reach due with heat := { (s.begun.reach due).heat with
        updateDue := some (due + (s.begun.reach due).period) } } = s.updateBegun due g := by rw [period]; rfl
    exact congrArg State.control begun
  simp only [exec, execControlUpdate]
  rw [s.takeEvent_calm _ h] <;> simp only [runs, begins]
  exact agenda_of_repose (State.control_repose _)

/-- Settles O33: an update leaves what the moved target and estimate show, and ends with the publications; each change of a
slot's state is told by `noteChange`. -/
theorem controlUpdatesMoveTargetAndEstimate : Obligations.ControlUpdatesMoveTargetAndEstimate := by
  refine ⟨fun s due g h hg hd => ?_, fun s g hg ho => ⟨fun i => ?_, State.publishAll_links hg ho⟩,
    fun s i ho => ⟨fun hu => ?_, fun c hs => ?_, fun d hs => ?_, fun a hs => ?_, fun g hs => ?_⟩, by decide⟩
  · have taken := exec_controlUpdate h hg hd
    have shown := State.control_shown (s := s.updateBegun due g) hg
    have repose := (s.updateBegun due g).control_repose
    have kept := (s.updateBegun due g).control_keptNv
    have link := (s.updateBegun due g).control_link
    generalize (s.updateBegun due g).control = t at taken shown repose kept link
    exact ⟨t, taken, congrArg Outlook.now shown, congrArg Outlook.updateDue shown, congrArg Outlook.picture shown,
      congrArg Outlook.estimate shown, congrArg Prod.snd repose, congrArg Outlook.fields shown, congrArg (·.2) kept,
      congrArg Outlook.station shown, fun w hw => hw ▸ link⟩
  · have slot := State.publishAll_slot hg i
    generalize s.publishAll.slot i = u at slot
    subst slot
    by_cases hu : s.slot i = .unused
    · rw [hu]; exact ⟨rfl, fun h => absurd rfl h⟩
    · rw [SlotUnit.withPublish_publishCount hu]
      exact ⟨rfl, fun _ => rfl⟩
  · exact ⟨State.publish_announces s i ho hu, State.noteChange_announces rfl rfl ho hu, s.noteChange_noticed i,
      fun hm hn => State.slotToRun_announces ho hu hm hn⟩
  · exact ⟨fun st => State.cfStop_announces ho c st, State.cfPassage_announces ho, State.cfStartTest_announces ho,
      State.cfVerdict_announces ho⟩
  · exact ⟨fun st => State.diStop_announces ho d st, State.diPassage_silent, State.diVerdict_announces ho hs⟩
  · refine ⟨fun st => State.caEnter_announces ho a st, fun hf hr hp => ?_, fun hr => ?_, fun hf hc => ?_⟩
    · rw [State.caPassage_leaves hs hf hr hp]
      exact ⟨State.markLeft_announces (State.caEnter_announces ho _ _), State.markLeft_leftOff _ _⟩
    · rw [State.caForce_running hs hr]
      exact State.caEnter_announces ho _ _
    · rw [State.caRelease_forced hs hf hc]
      exact State.caEnter_announces ho _ _
  · refine ⟨fun st => State.cgEnter_announces ho g st, fun hst hr hp => ?_, State.cgFlush_announces ho g⟩
    rw [State.cgPassage_leaves hs hst hr hp]
    exact ⟨State.markLeft_announces (State.cgEnter_announces ho _ _ fun hf => by simp [hst] at hf),
      State.markLeft_leftOff _ _⟩

end Sys2Proof.Machine
end

section
/-! PROOFS. The credit and its cap (R43). -/

namespace Sys2Proof.Machine

theorem effectiveCredit_zero_cap (c t : Nat) : effectiveCredit c t 0 = 0 := by simp [effectiveCredit, creditCap]

theorem effectiveCredit_zero_target (c p : Nat) : effectiveCredit c 0 p = 0 := by simp [effectiveCredit, creditCap]

/-- R43: a cap of at most `most` per cent keeps the effective credit within `most` per cent of the target. -/
theorem effectiveCredit_within {p most : Nat} (h : p ≤ most) (c t : Nat) : effectiveCredit c t p * 100 ≤ t * most :=
  calc effectiveCredit c t p * 100
    _ ≤ t * p / 100 * 100 := Nat.mul_le_mul_right _ (Nat.min_le_right _ _)
    _ ≤ t * p := Nat.div_mul_le_self _ _
    _ ≤ t * most := Nat.mul_le_mul_left _ h

theorem State.required_le_target (s : State) : s.required ≤ s.picture.target := Nat.sub_le _ _

/-- R178: an image of which one field is changed has a count of clamped fields. -/
theorem clampedCount_pos {img : List Byte} {p : Pair} (hp : p ∈ imagePairs img) (h : p.1 ≠ p.2) : 0 < clampedCount img := by
  have : 0 < changedFields (imagePairs img) := List.countP_pos_iff.2 ⟨p, hp, by simpa using h⟩
  unfold clampedCount
  omega

theorem stationPairs_subset (img : List Byte) : stationPairs img (takeCfg img) ⊆ imagePairs img := fun _ h =>
  List.mem_append_left _ (List.mem_append_left _ (List.mem_append_left _ h))

theorem takeCfg_capPct (img : List Byte) : (takeCfg img).capPct = min 60 (at1 img 20) := Nat.zero_max _

theorem clampedCount_of_capPct {img : List Byte} (h : 60 < at1 img 20) : 0 < clampedCount img := by
  refine clampedCount_pos (p := pair (at1 img 20) (takeCfg img).capPct) (stationPairs_subset img ?_) ?_
  · simp [stationPairs]
  · rw [takeCfg_capPct]
    simp only [pair]
    omega

/-- Settles O35: the cap bounds the effective credit, and a cap of at most 60 per cent leaves at least 40 per cent to fire. -/
theorem creditIsCapped : Obligations.CreditIsCapped := by
  refine ⟨fun img => ⟨takeCfg_capPct img, clampedCount_of_capPct⟩,
    fun s => ⟨rfl, rfl, s.required_le_target, fun h => ?_, fun h => ?_, fun h => ?_⟩⟩
  · rw [State.required, h, effectiveCredit_zero_cap, Nat.sub_zero]
  · rw [State.required, h, effectiveCredit_zero_target]
    exact ⟨rfl, rfl⟩
  · have := effectiveCredit_within h s.credit s.picture.target
    unfold State.required
    omega

end Sys2Proof.Machine
end

section
/-! PROOFS. The share, the ramp, and the passages and the deviation of a CF slot at an update (R46, R48, R77 to R81, R85). -/

namespace Sys2Proof.Machine

/-! ## Share and ramp (R46, R48) -/

section
variable {a : Int} {least most : Nat}

theorem shareOf_nothing (h : a ≤ 0) : shareOf a least most = 0 := if_pos h

theorem shareOf_least (h : 0 < a) (k : a < least) : shareOf a least most = least := by
  rw [shareOf, if_neg (by omega), if_pos k]

theorem shareOf_remainder (h : 0 < a) (k : least ≤ a) : (shareOf a least most : Int) = min a most := by
  rw [shareOf, if_neg (by omega), if_neg (by omega)]
  omega

theorem shareOf_le_most (h : least ≤ most) : shareOf a least most ≤ most := by
  unfold shareOf; split_ifs <;> omega

end

section
variable {h share up down most : Nat} {held : Bool}

theorem rampHeat_reached (e : share = h) : rampHeat h share up down held = h := if_pos e

theorem rampHeat_rise (lt : h < share) :
    rampHeat h share up down held = if held = true then h else if share - h ≤ up then share else h + up := by
  rw [rampHeat, if_neg (by omega), if_pos lt]

theorem rampHeat_fall (lt : share < h) :
    rampHeat h share up down held = if h - share ≤ down then share else h - down := by
  rw [rampHeat, if_neg (by omega), if_neg (by omega)]

theorem rampHeat_held_le (e : held = true) : rampHeat h share up down held ≤ h := by
  unfold rampHeat; split_ifs <;> omega

theorem rampHeat_le_most (hm : h ≤ most) (sm : share ≤ most) : rampHeat h share up down held ≤ most := by
  unfold rampHeat; split_ifs <;> omega

end

/-! ## The passages of a CF slot (R77 to R81) -/

section
variable {s : State} {i : Fin 4} {c : CfSlot}

theorem State.cfMayStart_iff : s.cfMayStart i c = true ↔ s.station = .run ∧ s.permit i = true ∧
    s.picture.order.isSome = true ∧ s.alarms.observed = false ∧ s.classTrip i = false ∧
    s.inputFailed c.par.input = false := by
  simp [State.cfMayStart, State.tripCause, and_assoc]

/-- A slot that tells of a change holds the unit that was put in it. -/
theorem State.setSlot_noteChange_slot (s : State) (i : Fin 4) (u : SlotUnit) : ((s.setSlot i u).noteChange i).slot i = u :=
  (s.setSlot_puts i u).noteChange_slot_self

theorem State.cfPassage_leaves (hc : c.state = .off) (hm : s.cfMayStart i c = true) :
    (s.cfPassage i c).slot i = .cf { c with
      state := .starting, startDue := some (s.now + c.par.startTime * 1000), publish := 0 } := by
  rw [State.cfPassage, if_pos ⟨hc, hm⟩, State.markLeft_slot, State.setSlot_noteChange_slot]

theorem State.cfPassage_stays (h : c.state ≠ .off ∨ s.cfMayStart i c = false) : s.cfPassage i c = s := by
  refine if_neg fun ⟨hc, hm⟩ => ?_
  rcases h with h | h
  · exact h hc
  · rw [hm] at h; cases h

theorem State.cfStartTest_waits (h : c.alloc.mass = 0) :
    s.cfStartTest i c = s.setSlot i (.cf { c with startDue := some (s.now + c.par.startTime * 1000) }) := if_pos h

theorem State.cfStartTest_ends (h : 0 < c.alloc.mass) (k : c.alloc.mass ≤ 2 * s.cfMeasured c) :
    (s.cfStartTest i c).slot i = .cf { c with
      state := if c.alloc.held = true then .hold else .dosing, startDue := none, deviated := false, raiseRun := none,
      clearRun := none } := by
  rw [State.cfStartTest, if_neg (by omega), if_pos (by omega), State.setSlot_noteChange_slot]

theorem State.cfStartTest_goes_on (h : 2 * s.cfMeasured c < c.alloc.mass) : s.cfStartTest i c = s := by
  rw [State.cfStartTest, if_neg (by omega), if_neg (by omega)]

theorem State.cfVerdict_holds (h : c.state = .dosing) (k : c.alloc.held = true) :
    (s.cfVerdict i c).slot i = .cf { c with state := .hold } := by
  rw [State.cfVerdict, if_pos ⟨h, k⟩, State.setSlot_noteChange_slot]

theorem State.cfVerdict_releases (h : c.state = .hold) (k : c.alloc.held = false) :
    (s.cfVerdict i c).slot i = .cf { c with state := .dosing } := by
  rw [State.cfVerdict, if_neg (by simp [h]), if_pos ⟨h, k⟩, State.setSlot_noteChange_slot]

theorem State.cfVerdict_stays (h : (c.state = .dosing ∧ c.alloc.held = false) ∨ (c.state = .hold ∧ c.alloc.held = true)) :
    s.cfVerdict i c = s := by
  rcases h with ⟨h, k⟩ | ⟨h, k⟩
  · rw [State.cfVerdict, if_neg (by simp [k]), if_neg (by simp [h])]
  · rw [State.cfVerdict, if_neg (by simp [h]), if_neg (by simp [k])]

end

/-! ## Deviation supervision (R85) -/

theorem massOutOfBand_iff (measured m devPct devAbs : Nat) : massOutOfBand measured m devPct devAbs = true ↔
    (devPct * m < (measured - m) * 100 ∨ devPct * m < (m - measured) * 100) ∧
      (devAbs < measured - m ∨ devAbs < m - measured) := by
  rw [massOutOfBand, decide_eq_true_iff]
  generalize devPct * m = allowance
  omega

/-- R60, R85: a run ends at an update where its test holds and has held for its length since the run's first update. -/
theorem ranFor_nextRun (test : Bool) (now length : Nat) (run : Option Nat) :
    ranFor now length (nextRun test now run) = true ↔ test = true ∧ run.getD now + length ≤ now := by
  cases test <;> simp [nextRun, ranFor]

section
variable {s : State} {i : Fin 4} {c : CfSlot}

/-- R85: the mass of a CF slot is out of band at this update. -/
def State.cfOut (s : State) (c : CfSlot) : Bool := massOutOfBand (s.cfMeasured c) c.alloc.mass c.par.devPct c.par.devAbs

/-- R85: a slot in its band deviates as the run of its test ends. -/
theorem State.cfSupervise_of_steady (hd : c.deviated = false) : s.cfSupervise i c =
    if s.cfOut c = true ∧ c.raiseRun.getD s.now + c.par.devTime * 1000 ≤ s.now then
      State.postDeviation
        (State.ask (s.setSlot i (.cf { c with deviated := true, raiseRun := none, clearRun := none }))
          (.raise .feedDeviation i.val)) i
    else s.setSlot i (.cf { c with raiseRun := nextRun (s.cfOut c) s.now c.raiseRun }) := by
  rw [State.cfSupervise, if_neg (by simp [hd])]
  exact if_congr (ranFor_nextRun _ _ _ _) rfl rfl

/-- R85: a slot that is DEVIATED returns as the run of the opposite test ends. -/
theorem State.cfSupervise_of_deviated (hd : c.deviated = true) : s.cfSupervise i c =
    if (!s.cfOut c) = true ∧ c.clearRun.getD s.now + c.par.devTime * 1000 ≤ s.now then
      State.ask (s.setSlot i (.cf { c with deviated := false, raiseRun := none, clearRun := none }))
        (.clear .feedDeviation i.val)
    else s.setSlot i (.cf { c with clearRun := nextRun (!s.cfOut c) s.now c.clearRun }) := by
  rw [State.cfSupervise, if_pos hd]
  exact if_congr (ranFor_nextRun _ _ _ _) rfl rfl

/-- R151: a deviation is counted in its slot's accumulators and nowhere else. -/
theorem State.postDeviation_acc (s : State) (i : Fin 4) :
    ((s.postDeviation i).acc i).deviations = min 4294967295 ((s.acc i).deviations + 1) := by
  simp [State.postDeviation, State.acc, State.setAcc, add32, Nat.min_comm, Config.count32]

end

/-- Settles O37: one lemma for each case of the share, the ramp, the passages and the deviation supervision. -/
theorem sharesAndRampsAreBounded : Obligations.SharesAndRampsAreBounded := by
  refine ⟨fun a least most h => ⟨shareOf_nothing, shareOf_least, shareOf_remainder, shareOf_le_most h⟩,
    fun h share up down most held => ⟨rampHeat_reached, fun lt hh le => ?_, fun lt hh le => ?_, fun lt hh => ?_,
      fun lt le => ?_, fun lt le => ?_, rampHeat_held_le, rampHeat_le_most⟩,
    fun s i c => ⟨State.cfMayStart_iff, State.cfPassage_leaves, State.cfPassage_stays, State.cfStartTest_waits,
      State.cfStartTest_ends, State.cfStartTest_goes_on, State.cfVerdict_holds, State.cfVerdict_releases,
      fun h k => State.cfVerdict_stays (.inl ⟨h, k⟩), fun h k => State.cfVerdict_stays (.inr ⟨h, k⟩)⟩,
    massOutOfBand_iff,
    fun s i c out hout => ?_⟩
  · rw [rampHeat_rise lt, if_neg (by simp [hh]), if_pos le]
  · rw [rampHeat_rise lt, if_neg (by simp [hh]), if_neg (by omega)]
  · rw [rampHeat_rise lt, if_pos hh]
  · rw [rampHeat_fall lt, if_pos le]
  · rw [rampHeat_fall lt, if_neg (by omega)]
  · change out = s.cfOut c at hout
    subst hout
    refine ⟨fun hd ho => ?_, fun hd ho => ?_, fun hd ho ht hr => ?_, fun since hd ho hr late => ?_,
      fun since hd ho hr late => ?_⟩
    · rw [State.cfSupervise_of_steady hd, ho, if_neg (by simp)]; rfl
    · rw [State.cfSupervise_of_deviated hd, ho, if_neg (by simp)]; rfl
    · rw [State.cfSupervise_of_steady hd, ho, hr, if_neg (by simp; omega)]; rfl
    · rw [State.cfSupervise_of_steady hd, hr, if_pos ⟨ho, late⟩, State.postDeviation_acc]
      exact ⟨s.setSlot_slot_self i _, rfl, rfl⟩
    · rw [State.cfSupervise_of_deviated hd, ho, hr, if_pos ⟨rfl, late⟩]
      exact ⟨s.setSlot_slot_self i _, rfl⟩

end Sys2Proof.Machine
end

section
/-! PROOFS. The drive count and its rounding (R52, R53), and what the latches take (R70 to R74). -/

namespace Sys2Proof.Machine

/-! ## Rounding (R52, R53) -/

/-- The rounded ratio reaches a whole number where the exact one lies at most a half below it. -/
theorem le_roundRatio_iff {den : Int} (h : 0 < den) (num v : Int) : v ≤ roundRatio num den ↔ (2 * v - 1) * den ≤ 2 * num := by
  rw [roundRatio, Int.le_ediv_iff_mul_le (by omega), show v * (2 * den) = (2 * v - 1) * den + den by ring]
  omega

theorem driveCount_zero (f : Nat) (gain offset : Int) : driveCount 0 f gain offset = 0 := by
  rw [driveCount, Nat.zero_min, if_pos rfl]

theorem driveCount_le (x f : Nat) (gain offset : Int) : driveCount x f gain offset ≤ 65535 := by
  unfold driveCount
  extract_lets x' den num
  split_ifs <;> omega

theorem driveCount_of_full_scale {x f : Nat} (h : f ≤ x) (gain offset : Int) :
    driveCount x f gain offset = driveCount f f gain offset := by
  rw [driveCount, driveCount, Nat.min_eq_right h, Nat.min_self]

/-- R52, R53: the count of a target above 0 is the exact value rounded once, and then clamped. -/
theorem driveCount_rounds {x f : Nat} (h : 0 < x) (k : x ≤ f) (gain offset : Int) : ∃ n : Int,
    driveCount x f gain offset = (min 65535 (max 0 n)).toNat ∧
      ∀ v : Int, v ≤ n ↔ (2 * v - 1) * (f * 131072) ≤ 2 * x * 65535 * (131072 + gain) + offset * (f * 131072) := by
  refine ⟨_, if_neg (by omega), fun v => ?_⟩
  rw [le_roundRatio_iff (by omega), Nat.min_eq_left k]
  rw [show (2 * v - 1) * (2 * 131072 * (f : Int)) = 2 * ((2 * v - 1) * (f * 131072)) by ring,
    show 2 * 65535 * (x : Int) * (131072 + gain) + offset * 131072 * f
      = 2 * x * 65535 * (131072 + gain) + offset * (f * 131072) by ring]
  omega

theorem driveCount_full {x f : Nat} (h : 0 < f) (k : f ≤ x) : driveCount x f 0 0 = 65535 := by
  obtain ⟨n, count, reach⟩ := driveCount_rounds h le_rfl 0 0
  have full : 65535 ≤ n := (reach 65535).2 (by omega)
  rw [driveCount_of_full_scale k, count]
  omega

/-! ## The drive stream and a write of a latch (R70, R72) -/

section
variable {s : State} {o p : Fin 8} {n : Nat}

/-- R72: as a word begins, a latch stays as it is, or its pending flag falls and the word carries its count. -/
theorem State.kickStream_latch (s : State) (o : Fin 8) : s.kickStream.latch o = s.latch o ∨
    (s.kickStream.latch o = { s.latch o with pending := false } ∧
      s.kickStream.output.word = some (o, (s.latch o).count)) := by
  unfold State.kickStream
  split
  · split
    · exact .inl rfl
    · rename_i q _
      by_cases h : o = q
      · subst h
        exact .inr ⟨s.setLatch_latch_self o _, rfl⟩
      · exact .inl (s.setLatch_latch_ne q o _ h)
  · exact .inl rfl

theorem State.kickStream_latch_pending (s : State) (o : Fin 8) :
    ∃ b, s.kickStream.latch o = { s.latch o with pending := b } := by
  rcases s.kickStream_latch o with h | ⟨h, -⟩
  · exact ⟨_, h⟩
  · exact ⟨_, h⟩

theorem State.kickStream_mismatches (s : State) :
    s.kickStream.output.feedMarkMismatches = s.output.feedMarkMismatches := by
  unfold State.kickStream
  repeat' split
  all_goals rfl

theorem State.writeLatch_latch_self (s : State) (o : Fin 8) (n : Nat) :
    ∃ b, (s.writeLatch o n).latch o = { s.latch o with count := n, pending := b } := by
  unfold State.writeLatch
  split
  · rename_i h
    exact ⟨(s.latch o).pending, by rw [← h]⟩
  · obtain ⟨b, h⟩ := (s.setLatch o { s.latch o with count := n, pending := true }).kickStream_latch_pending o
    exact ⟨b, by rw [h, State.setLatch_latch_self]⟩

theorem State.writeLatch_latch_ne (s : State) (n : Nat) (h : p ≠ o) :
    ∃ b, (s.writeLatch o n).latch p = { s.latch p with pending := b } := by
  unfold State.writeLatch
  split
  · exact ⟨_, rfl⟩
  · obtain ⟨b, kicked⟩ := (s.setLatch o { s.latch o with count := n, pending := true }).kickStream_latch_pending p
    exact ⟨b, by rw [kicked, State.setLatch_latch_ne s o p _ h]⟩

/-- R70, R72: a write that changes a count leaves the latch pending, or its new count on the stream. -/
theorem State.writeLatch_tells (h : (s.latch o).count ≠ n) :
    ((s.writeLatch o n).latch o).pending = true ∨ (s.writeLatch o n).output.word = some (o, n) := by
  rw [State.writeLatch, if_neg h]
  rcases (s.setLatch o { s.latch o with count := n, pending := true }).kickStream_latch o with kicked | ⟨-, word⟩
  · exact .inl (by rw [kicked, State.setLatch_latch_self])
  · exact .inr (by rw [word, State.setLatch_latch_self])

theorem State.writeLatch_mismatches (s : State) (o : Fin 8) (n : Nat) :
    (s.writeLatch o n).output.feedMarkMismatches = s.output.feedMarkMismatches := by
  unfold State.writeLatch
  split
  · rfl
  · exact State.kickStream_mismatches _

/-! ## A count that a latch takes (R70, R71, R74) -/

theorem State.uncarry_latch_self (s : State) (o : Fin 8) :
    (s.uncarry o).latch o = { s.latch o with carried := false } := by
  unfold State.uncarry
  split
  · exact s.setLatch_latch_self o _
  · rename_i h
    rw [← Bool.eq_false_iff.2 h]

theorem State.uncarry_latch_ne (s : State) (h : p ≠ o) : (s.uncarry o).latch p = s.latch p := by
  unfold State.uncarry
  split
  · exact s.setLatch_latch_ne o p _ h
  · rfl

theorem State.takeCount_carried (h : (s.latch o).carried = true) (k : s.station ≠ .run) : s.takeCount o n = s :=
  if_pos ⟨h, k⟩

theorem State.takeCount_takes (h : (s.latch o).carried = false ∨ s.station = .run) :
    s.takeCount o n = (s.uncarry o).writeLatch o (if s.latchHeldAtZero o = true then 0 else n) := by
  refine if_neg fun ⟨carried, out⟩ => ?_
  rcases h with h | h
  · rw [carried] at h; cases h
  · exact out h

theorem State.takeCount_latch_self (h : (s.latch o).carried = false ∨ s.station = .run) :
    ∃ b, (s.takeCount o n).latch o =
      { s.latch o with count := if s.latchHeldAtZero o = true then 0 else n, carried := false, pending := b } := by
  obtain ⟨b, written⟩ := (s.uncarry o).writeLatch_latch_self o (if s.latchHeldAtZero o = true then 0 else n)
  exact ⟨b, by rw [State.takeCount_takes h, written, State.uncarry_latch_self]⟩

theorem State.takeCount_count_ne (h : p ≠ o) : ((s.takeCount o n).latch p).count = (s.latch p).count := by
  unfold State.takeCount
  split
  · rfl
  · obtain ⟨b, written⟩ := (s.uncarry o).writeLatch_latch_ne (if s.latchHeldAtZero o = true then 0 else n) h
    rw [written, State.uncarry_latch_ne s h]

theorem State.takeCount_tells (h : (s.latch o).carried = false ∨ s.station = .run)
    (changed : ((s.takeCount o n).latch o).count ≠ (s.latch o).count) : ((s.takeCount o n).latch o).pending = true ∨
      (s.takeCount o n).output.word = some (o, ((s.takeCount o n).latch o).count) := by
  obtain ⟨b, taken⟩ := State.takeCount_latch_self (n := n) h
  have count := congrArg Latch.count taken
  rw [count] at changed ⊢
  rw [State.takeCount_takes h]
  exact State.writeLatch_tells (by rw [State.uncarry_latch_self]; exact changed.symm)

/-! ## The latches at a start (R69, R73, R74) -/

@[simp] theorem Nonvolatile.calibrate_owner (nv : Nonvolatile) (o : Fin 8) (l : Latch) :
    (nv.calibrate o l).owner = l.owner := by
  unfold Nonvolatile.calibrate; simp only; split <;> rfl

theorem Nonvolatile.calibrate_feedMark (nv : Nonvolatile) (o : Fin 8) (l : Latch) : (nv.calibrate o l).feedMark =
    (nv.usable (calBlock o) && at1 (nv.block (calBlock o)) 6 % 2 == 1) := by
  unfold Nonvolatile.calibrate; simp only; split <;> simp_all

/-- R69: an output whose block is not usable has no correction, and the fallback count 0. -/
theorem Nonvolatile.calibrate_unusable {nv : Nonvolatile} (h : nv.usable (calBlock o) = false) (l : Latch) :
    nv.calibrate o l = { l with gain := 0, offset := 0, fallback := 0, feedMark := false } := if_neg (by simp [h])

/-- R69, R73, R74: the station as its calibration blocks have been read, before the drive stream begins a word. -/
def State.calibrated (s : State) (line : Bool) : State :=
  { s with
    protection := s.nv.protect s.strap
    output := { latches := Vector.ofFn fun o => s.nv.startLatch line o (s.latch o), streaming := true,
                refreshDue := some (s.now + 200) } }

theorem State.readOtp_eq (s : State) (line : Bool) : s.readOtp line = (s.calibrated line).kickStream := rfl

theorem State.calibrated_latch (s : State) (line : Bool) (o : Fin 8) :
    (s.calibrated line).latch o = s.nv.startLatch line o (s.latch o) := Vector.getElem_ofFn o.isLt

theorem State.readOtp_latch (s : State) (line : Bool) (o : Fin 8) :
    ∃ b, (s.readOtp line).latch o = { s.nv.startLatch line o (s.latch o) with pending := b } := by
  obtain ⟨b, kicked⟩ := (s.calibrated line).kickStream_latch_pending o
  exact ⟨b, by rw [State.readOtp_eq, kicked, State.calibrated_latch]⟩

/-! ## The latches at the acceptance of the image (R70, R73, R74) -/

/-- R70, R73: an output's latch before it is written, and the counters of its calibration block. -/
def State.named (s : State) (o : Fin 8) : State :=
  let l := s.latch o
  let s1 := s.setLatch o { l with
    kind := s.outputKind o, owner := s.outputOwner o, carried := l.carried && s.outputKind o == .cooler }
  { s1 with output := { s1.output with
      feedMarkMismatches := if ((s.outputKind o == .feed) != l.feedMark) = true then up16 s.output.feedMarkMismatches
        else s.output.feedMarkMismatches
      calibrationUnusable := if ((s.outputOwner o).isSome && !s.nv.usable (calBlock o)) = true
        then up16 s.output.calibrationUnusable else s.output.calibrationUnusable } }

theorem State.mapOutput_eq (s : State) (o : Fin 8) :
    s.mapOutput o = if s.outputKind o = .cooler then s.named o else (s.named o).writeLatch o 0 := rfl

theorem State.named_latch (s : State) (o : Fin 8) : (s.named o).latch o = { s.latch o with
    kind := s.outputKind o, owner := s.outputOwner o, carried := (s.latch o).carried && s.outputKind o == .cooler } :=
  s.setLatch_latch_self o _

/-- R73, R74: the latch of a COOLER output keeps its count; every other is written 0. -/
theorem State.mapOutput_latch (s : State) (o : Fin 8) : ∃ b, (s.mapOutput o).latch o = { s.latch o with
    count := if s.outputKind o = .cooler then (s.latch o).count else 0
    kind := s.outputKind o, owner := s.outputOwner o
    carried := (s.latch o).carried && s.outputKind o == .cooler, pending := b } := by
  rw [State.mapOutput_eq]
  split
  · exact ⟨_, s.named_latch o⟩
  · obtain ⟨b, written⟩ := (s.named o).writeLatch_latch_self o 0
    exact ⟨b, by rw [written, State.named_latch]⟩

theorem State.mapOutput_mismatches (s : State) (o : Fin 8) : (s.mapOutput o).output.feedMarkMismatches =
    if s.outputKind o = .feed ↔ (s.latch o).feedMark = true then s.output.feedMarkMismatches
    else up16 s.output.feedMarkMismatches := by
  have same : (s.mapOutput o).output.feedMarkMismatches = (s.named o).output.feedMarkMismatches := by
    rw [State.mapOutput_eq]
    split
    · rfl
    · exact State.writeLatch_mismatches _ _ _
  have differ : ((s.outputKind o == .feed) != (s.latch o).feedMark) = true ↔
      ¬(s.outputKind o = .feed ↔ (s.latch o).feedMark = true) := by
    rw [bne_iff_ne, ne_eq, Bool.eq_iff_iff, beq_iff_eq]
  rw [same]
  exact (if_congr differ rfl rfl).trans (ite_not _ _ _)

end

/-- Settles O38: the count from the reach of the rounded ratio, the latches from what one write leaves in each of them. -/
theorem driveCountsStayInRange : Obligations.DriveCountsStayInRange := by
  refine ⟨fun x f gain offset => ⟨driveCount_zero f gain offset, driveCount_le x f gain offset, driveCount_full,
      fun h => driveCount_of_full_scale h gain offset⟩,
    fun x f gain offset exact unit hx hf hu he => ?_,
    fun s o count => ⟨State.takeCount_carried, fun h => ?_⟩, fun s line o l hl => ?_, fun s o => ?_⟩
  · obtain ⟨n, count, reach⟩ := driveCount_rounds hx hf gain offset
    rw [← hu, ← he] at reach
    have one := reach 1
    have full := reach 65535
    refine ⟨by omega, by omega, fun v _ _ => ?_⟩
    have here := reach v
    have next := reach (v + 1)
    rw [show 2 * ((v : Int) + 1) - 1 = 2 * v + 1 by ring] at next
    omega
  · obtain ⟨b, taken⟩ := State.takeCount_latch_self (n := count) h
    exact ⟨congrArg Latch.count taken, congrArg Latch.carried taken, State.takeCount_tells h,
      fun p hp => State.takeCount_count_ne hp⟩
  · obtain ⟨b, read⟩ := s.readOtp_latch line o
    rw [hl, read]
    exact ⟨rfl, rfl, Nonvolatile.calibrate_owner _ _ _, Nonvolatile.calibrate_feedMark _ _ _, fun h => by
      simp [Nonvolatile.startLatch, Nonvolatile.calibrate_unusable h]⟩
  · obtain ⟨b, mapped⟩ := s.mapOutput_latch o
    rw [mapped]
    exact ⟨rfl, rfl, rfl, rfl, s.mapOutput_mismatches o⟩

end Sys2Proof.Machine
end

section
/-! PROOFS. The sums over the floor (R42, R44, R55, R57, R59), and the record that an update forms for a feed slot (R41, R45,
R47, R51). -/

namespace Sys2Proof.Machine

/-! ## Sums over the entries and the slots (R42, R44, R59) -/

theorem State.slotSum_eq (s : State) (f : SlotUnit → Nat) :
    s.slotSum f = (([0, 1, 2, 3] : List (Fin 4)).map fun j => f (s.slot j)).sum := by
  simp [State.slotSum, Nat.add_assoc]

section
variable {s : State} {peer : PeerEntry → Nat} {own : Fin 4 → Nat}

theorem State.meritFill_eq {k : MeritKey} (hp : ∀ e, peer e = if keyAhead k e.meritKey = true then e.actual else 0)
    (ho : ∀ j, own j = if keyAhead k (s.slotKey j) = true then s.actualHeat (s.slot j) else 0) :
    s.meritFill k = min 1048575
      ((s.picture.entries.map peer).sum + (([0, 1, 2, 3] : List (Fin 4)).map own).sum) := by
  rw [funext hp, funext ho]; rfl

theorem State.totalHeat_eq (hp : ∀ e, peer e = e.actual) (ho : ∀ j, own j = s.actualHeat (s.slot j)) :
    s.totalHeat = min 1048575
      ((s.picture.entries.map peer).sum + (([0, 1, 2, 3] : List (Fin 4)).map own).sum) := by
  rw [State.totalHeat, State.slotSum_eq, funext hp, funext ho]; rfl

theorem State.credit_eq (hp : ∀ e, peer e = e.credit) (ho : ∀ j, own j = s.slotCredit (s.slot j)) :
    s.credit = min 1048575
      ((s.picture.entries.map peer).sum + (([0, 1, 2, 3] : List (Fin 4)).map own).sum) := by
  rw [State.credit, State.slotSum_eq, funext hp, funext ho]; rfl

end

theorem MeritKey.lt_iff (a b : MeritKey) : a.lt b = true ↔
    a.rank < b.rank ∨ (a.rank = b.rank ∧ (a.station < b.station ∨ (a.station = b.station ∧ a.channel < b.channel))) :=
  decide_eq_true_iff

/-- R55: the actual heat of a CF slot, 0 while its input stands FAILED. -/
theorem State.cfActual_eq (s : State) (c : CfSlot) : s.cfActual c =
    if (s.input c.par.input).freshness = .failed then 0
    else min 400000 ((s.input c.par.input).value.toNat * s.ncv c.par.fuel / 1000) := by
  by_cases h : (s.input c.par.input).freshness = .failed <;>
    simp [State.cfActual, State.cfMeasured, State.inputFailed, h, floorZero, Config.heatCap]

/-! ## The mass target (R51) -/

theorem massTarget_le_scale (h ncv scale : Nat) : massTarget h ncv scale ≤ scale := Nat.min_le_left _ _

theorem massTarget_zero (ncv scale : Nat) : massTarget 0 ncv scale = 0 := by
  have : roundRatio ((0 : Nat) * 1000) ncv = 0 := by
    rcases Nat.eq_zero_or_pos ncv with h | h
    · simp [roundRatio, h]
    · exact Int.ediv_eq_zero_of_lt (by omega) (by omega)
  rw [massTarget, this]
  exact Nat.min_zero _

/-- R51: below the full scale the mass target is the whole number nearest to the exact one. -/
theorem massTarget_eq_iff {ncv v scale : Nat} (hn : 0 < ncv) (hv : v < scale) (h : Nat) : massTarget h ncv scale = v ↔
    (2 * (v : Int) - 1) * ncv ≤ 2 * (h * 1000) ∧ 2 * ((h : Int) * 1000) < (2 * v + 1) * ncv := by
  have here := le_roundRatio_iff (den := ncv) (by omega) (h * 1000) v
  have next := le_roundRatio_iff (den := ncv) (by omega) (h * 1000) (v + 1)
  have least := le_roundRatio_iff (den := ncv) (by omega) (h * 1000) 0
  rw [show 2 * ((v : Int) + 1) - 1 = 2 * v + 1 by ring] at next
  unfold massTarget
  omega

/-! ## The holds of a slot (R29, R47) -/

section
variable {s : State}

theorem State.pictureHold_iff : s.pictureHold = true ↔
    (∃ e ∈ s.picture.entries, e.age = .stale) ∨ s.picture.lossHoldDue.isSome = true := by
  simp [State.pictureHold]

theorem State.class2Stands_iff : s.class2Stands = true ↔ ∃ e ∈ s.alarms.all, e.cls = 2 ∧ e.state ≠ .returned := by
  simp [State.class2Stands, AlarmEntry.stands]

theorem SlotUnit.inFlush_iff {u : SlotUnit} : u.inFlush = true ↔ ∃ g, u = .cg g ∧ g.state = .flush := by
  cases u <;> simp [SlotUnit.inFlush]

theorem State.localFlush_iff : s.localFlush = true ↔ ∃ j g, s.slot j = .cg g ∧ g.state = .flush := by
  have := State.localFlush_eq_false (s := s).not
  simpa only [Bool.not_eq_false, not_forall, SlotUnit.inFlush_iff] using this

/-- R47: the picture hold, an entry of class 2 or a local flush. -/
theorem State.holdsOf_any (u : SlotUnit) : (s.holdsOf u).any = true ↔
    (∃ e ∈ s.picture.entries, e.age = .stale) ∨ s.picture.lossHoldDue.isSome = true ∨
      (∃ e ∈ s.alarms.all, e.cls = 2 ∧ e.state ≠ .returned) ∨ (∃ j g, s.slot j = .cg g ∧ g.state = .flush) ∨
      (s.holdsOf u).deviation = true := by
  rw [HoldCauses.any]
  have causes : (s.holdsOf u).picture = s.pictureHold ∧ (s.holdsOf u).class2 = s.class2Stands ∧
      (s.holdsOf u).flush = s.localFlush := by cases u <;> exact ⟨rfl, rfl, rfl⟩
  obtain ⟨picture, class2, flush⟩ := causes
  simp only [picture, class2, flush, Bool.or_eq_true, State.pictureHold_iff, State.class2Stands_iff,
    State.localFlush_iff, or_assoc]

/-! ## The record of a feed slot (R41, R45) -/

theorem State.allocate_slot (s : State) (i : Fin 4) : s.allocate.slot i = s.withRecord i := by
  fin_cases i <;> rfl

/-- R41: the record that an update forms for a CF slot. -/
def State.cfRecord (s : State) (i : Fin 4) (c : CfSlot) : AllocRec :=
  s.formRecord i { rank := c.par.rank, station := s.ownNumber, channel := i.val } c.alloc c.par.minHeat c.par.maxHeat
    c.par.rampUp c.par.rampDown (s.ncv c.par.fuel) c.par.massScale

/-- R41: the record that an update forms for a DI slot. -/
def State.diRecord (s : State) (i : Fin 4) (d : DiSlot) : AllocRec :=
  s.formRecord i { rank := d.par.rank, station := s.ownNumber, channel := i.val } d.alloc d.par.minHeat d.par.maxHeat
    d.par.rampUp d.par.rampDown (s.ncv d.par.fuel) 0

variable {i : Fin 4}

theorem State.allocate_cf {c : CfSlot} (h : s.slot i = .cf c) :
    s.allocate.slot i = .cf { c with alloc := s.cfRecord i c } := by
  rw [State.allocate_slot, State.withRecord, h]; rfl

theorem State.allocate_di {d : DiSlot} (h : s.slot i = .di d) :
    s.allocate.slot i = .di { d with alloc := s.diRecord i d } := by
  rw [State.allocate_slot, State.withRecord, h]; rfl

theorem State.cfRecord_mass (s : State) (i : Fin 4) (c : CfSlot) :
    (s.cfRecord i c).mass = massTarget (s.cfRecord i c).heat (s.ncv c.par.fuel) c.par.massScale := rfl

/-- R47: a CF slot is held by its own deviation too. -/
theorem State.cfRecord_held {c : CfSlot} (h : s.slot i = .cf c) : (s.cfRecord i c).held = true ↔
    (∃ e ∈ s.picture.entries, e.age = .stale) ∨ s.picture.lossHoldDue.isSome = true ∨
      (∃ e ∈ s.alarms.all, e.cls = 2 ∧ e.state ≠ .returned) ∨ (∃ j g, s.slot j = .cg g ∧ g.state = .flush) ∨
      c.deviated = true := by
  have held : (s.cfRecord i c).held = (s.holdsOf (.cf c)).any := congrArg (fun u => (s.holdsOf u).any) h
  rw [held, State.holdsOf_any]; rfl

theorem State.diRecord_held {d : DiSlot} (h : s.slot i = .di d) : (s.diRecord i d).held = true ↔
    (∃ e ∈ s.picture.entries, e.age = .stale) ∨ s.picture.lossHoldDue.isSome = true ∨
      (∃ e ∈ s.alarms.all, e.cls = 2 ∧ e.state ≠ .returned) ∨ ∃ j g, s.slot j = .cg g ∧ g.state = .flush := by
  have held : (s.diRecord i d).held = (s.holdsOf (.di d)).any := congrArg (fun u => (s.holdsOf u).any) h
  rw [held, State.holdsOf_any]
  simp only [State.holdsOf, Bool.false_eq_true, or_false]

/-- R45: the remainder is positive where the fill falls short of the required heat, and not where it covers it. -/
theorem sub_fill_sign (required fill : Nat) : (0 < (required : Int) - fill ↔ fill < required) ∧
    ((required : Int) - fill ≤ 0 ↔ required ≤ fill) := by omega

end

end Sys2Proof.Machine
end

section
/-! PROOFS. Firing supervision (R58 to R61), and the statement of remainder, fill, credit and supervision (R41 to R61). -/

namespace Sys2Proof.Machine

/-! ## Which station supervises (R58) -/

section
variable {s : State}

theorem keyBehind_eq_false {k : MeritKey} {o : Option MeritKey} :
    keyBehind k o = false ↔ ∀ m, o = some m → k.lt m = false := by
  cases o <;> simp [keyBehind]

theorem mem_slotList (i : Fin 4) : i ∈ slotList := by fin_cases i <;> simp [slotList]

theorem State.holdsGreatestKey_iff : s.holdsGreatestKey = true ↔ ∃ j k, s.slotKey j = some k ∧
    (∀ e ∈ s.picture.entries, ∀ m, e.meritKey = some m → k.lt m = false) ∧
      ∀ l m, s.slotKey l = some m → k.lt m = false := by
  rw [State.holdsGreatestKey, List.any_eq_true]
  refine exists_congr fun j => ?_
  cases s.slotKey j with
  | none => simp
  | some k => simp [keyBehind_eq_false, mem_slotList]

theorem State.supervises_iff : s.supervises = true ↔ s.station = .run ∧ s.picture.order.isSome = true ∧
    ∃ j k, s.slotKey j = some k ∧ (∀ e ∈ s.picture.entries, ∀ m, e.meritKey = some m → k.lt m = false) ∧
      ∀ l m, s.slotKey l = some m → k.lt m = false := by
  rw [State.supervises, Bool.and_eq_true, Bool.and_eq_true, beq_iff_eq, State.holdsGreatestKey_iff, and_assoc]

/-! ## One run (R60) -/

/-- R60: the request that the end of a run sends. -/
def State.fireRequest (s : State) (code : AlarmCode) : AlarmRequest :=
  if s.stands code 255 = true then .clear code 255 else .raise code 255

theorem State.fireRequest_names (s : State) (code : AlarmCode) :
    s.fireRequest code = .raise code 255 ∨ s.fireRequest code = .clear code 255 := by
  unfold State.fireRequest; split
  · exact .inr rfl
  · exact .inl rfl

/-- R60: the requests that a run sends at this update. -/
def State.fireAsks (s : State) (code : AlarmCode) (test : Bool) (length : Nat) (run : Option Nat) : List AlarmRequest :=
  if ranFor s.now length (nextRun test s.now run) = true then [s.fireRequest code] else []

/-- R60: a run after this update. -/
def State.fireAfter (s : State) (test : Bool) (length : Nat) (run : Option Nat) : Option Nat :=
  if ranFor s.now length (nextRun test s.now run) = true then none else nextRun test s.now run

section
variable {code : AlarmCode} {test : Bool} {length : Nat} {run : Option Nat} {q : AlarmRequest}

theorem State.mem_fireAsks : q ∈ s.fireAsks code test length run ↔
    (test = true ∧ run.getD s.now + length ≤ s.now) ∧ q = s.fireRequest code := by
  rw [← ranFor_nextRun, State.fireAsks]
  split_ifs with h <;> simp [h]

theorem State.fireAfter_failed (h : test = false) : s.fireAfter test length run = none := by
  rw [State.fireAfter, h]; rfl

theorem State.fireAfter_early (h : test = true) (early : s.now < run.getD s.now + length) :
    s.fireAfter test length run = some (run.getD s.now) := by
  have runs : ¬ranFor s.now length (nextRun test s.now run) = true := by rw [ranFor_nextRun]; omega
  rw [State.fireAfter, if_neg runs, h]; rfl

theorem State.fireAfter_late (h : test = true) (late : run.getD s.now + length ≤ s.now) :
    s.fireAfter test length run = none :=
  if_pos ((ranFor_nextRun _ _ _ _).2 ⟨h, late⟩)

/-- R60: a run changes the agenda alone. -/
theorem State.fireRun_eq : s.fireRun code test length run =
    ({ s with agenda := s.agenda ++ s.fireAsks code test length run }, s.fireAfter test length run) := by
  unfold State.fireRun State.fireAsks State.fireAfter
  extract_lets run'
  split
  · rfl
  · rw [List.append_nil]

end

/-! ## The two runs of a supervising station (R59, R60) -/

/-- R59: the test of OVERFIRE. -/
def State.overTest (s : State) (g : Cfg) : Bool :=
  let above := aboveBand s.totalHeat s.required g.fireTol
  if s.stands .overfire 255 then !above else above

/-- R59: the test of UNDERFIRE. -/
def State.underTest (s : State) (g : Cfg) : Bool :=
  let below := belowBand s.totalHeat s.required g.fireTol
  if s.stands .underfire 255 then !below else below && !s.alarms.observed

theorem State.overTest_iff (g : Cfg) : s.overTest g = true ↔
    (s.stands .overfire 255 = false ↔ s.required * (100 + g.fireTol) < s.totalHeat * 100) := by
  cases h : s.stands .overfire 255 <;> simp [State.overTest, h, aboveBand]

theorem State.underTest_iff (g : Cfg) : s.underTest g = true ↔
    (s.stands .underfire 255 = false ↔ s.totalHeat * 100 < s.required * (100 - g.fireTol)) ∧
      (s.stands .underfire 255 = true ∨ s.alarms.observed = false) := by
  cases h : s.stands .underfire 255 <;> simp [State.underTest, h, belowBand]

/-- R60: UNDERFIRE's run finds the state as OVERFIRE's has left it, which is another agenda. -/
theorem State.superviseFire_eq (s : State) (g : Cfg) : s.superviseFire g = { s with
    agenda := s.agenda ++ s.fireAsks .overfire (s.overTest g) (g.fireDevTime * 1000) s.heat.overRun ++
      s.fireAsks .underfire (s.underTest g) (g.fireDevTime * 1000) s.heat.underRun
    heat := { s.heat with
      supervising := true
      overRun := s.fireAfter (s.overTest g) (g.fireDevTime * 1000) s.heat.overRun
      underRun := s.fireAfter (s.underTest g) (g.fireDevTime * 1000) s.heat.underRun } } := by
  simp only [State.superviseFire, State.fireRun_eq]
  rfl

/-- R59, R60: what an update does with the run of `code`, whose test is `test`, on the way from `s` to `t`. -/
structure State.Fires (s t : State) (code : AlarmCode) (test : Bool) (length : Nat) (run run' : Option Nat) : Prop where
  after : run' = s.fireAfter test length run
  sent : ∀ q ∈ s.fireAsks code test length run, q ∈ t.agenda
  only : ∀ q, (q = .raise code 255 ∨ q = .clear code 255) → q ∈ t.agenda →
    q ∈ s.agenda ∨ q ∈ s.fireAsks code test length run

namespace State.Fires

variable {t : State} {code : AlarmCode} {test : Bool} {length : Nat} {run run' : Option Nat}

theorem failed (f : s.Fires t code test length run run') (h : test = false) : run' = none :=
  f.after.trans (State.fireAfter_failed h)

theorem early (f : s.Fires t code test length run run') (h : test = true) (k : s.now < run.getD s.now + length) :
    run' = some (run.getD s.now) := f.after.trans (State.fireAfter_early h k)

theorem late (f : s.Fires t code test length run run') (h : test = true) (k : run.getD s.now + length ≤ s.now) :
    run' = none ∧ s.fireRequest code ∈ t.agenda :=
  ⟨f.after.trans (State.fireAfter_late h k), f.sent _ (State.mem_fireAsks.2 ⟨⟨h, k⟩, rfl⟩)⟩

theorem asked (f : s.Fires t code test length run run') (q : AlarmRequest)
    (hq : q = .raise code 255 ∨ q = .clear code 255) (mem : q ∈ t.agenda) :
    q ∈ s.agenda ∨ (test = true ∧ run.getD s.now + length ≤ s.now) :=
  (f.only q hq mem).imp_right fun h => (State.mem_fireAsks.1 h).1

end State.Fires

/-- The requests of the other run are of another code. -/
theorem State.not_mem_fireAsks {code code' : AlarmCode} (h : code ≠ code') {q : AlarmRequest}
    (hq : q = .raise code 255 ∨ q = .clear code 255) (test : Bool) (length : Nat) (run : Option Nat) :
    q ∉ s.fireAsks code' test length run := by
  intro mem
  obtain ⟨-, request⟩ := State.mem_fireAsks.1 mem
  have named' : q = .raise code' 255 ∨ q = .clear code' 255 := request ▸ s.fireRequest_names code'
  rcases hq with rfl | rfl <;> simp [h] at named'

theorem State.superviseFire_over (s : State) (g : Cfg) : s.Fires (s.superviseFire g) .overfire (s.overTest g)
    (g.fireDevTime * 1000) s.heat.overRun (s.superviseFire g).heat.overRun := by
  rw [State.superviseFire_eq]
  refine ⟨rfl, fun q hq => by simp [hq], fun q named hq => ?_⟩
  have other := s.not_mem_fireAsks (code' := .underfire) (by decide) named (s.underTest g) (g.fireDevTime * 1000)
    s.heat.underRun
  simpa [other] using hq

theorem State.superviseFire_under (s : State) (g : Cfg) : s.Fires (s.superviseFire g) .underfire (s.underTest g)
    (g.fireDevTime * 1000) s.heat.underRun (s.superviseFire g).heat.underRun := by
  rw [State.superviseFire_eq]
  refine ⟨rfl, fun q hq => by simp [hq], fun q named hq => ?_⟩
  have other := s.not_mem_fireAsks (code' := .overfire) (by decide) named (s.overTest g) (g.fireDevTime * 1000)
    s.heat.overRun
  simpa [other] using hq

/-! ## A station that ceases to supervise (R61) -/

theorem State.ask_if (s : State) (b : Bool) (r : AlarmRequest) :
    (if b = true then s.ask r else s) = { s with agenda := s.agenda ++ if b = true then [r] else [] } := by
  split
  · rfl
  · rw [List.append_nil]

theorem State.ceaseFire_eq (h : s.heat.supervising = true) : s.ceaseFire = { s with
    heat := { s.heat with supervising := false, overRun := none, underRun := none }
    agenda := s.agenda ++ (if s.stands .overfire 255 = true then [.clear .overfire 255] else []) ++
      (if s.stands .underfire 255 = true then [.clear .underfire 255] else []) } := by
  simp only [State.ceaseFire, if_pos h, State.ask_if]
  rfl

theorem State.ceaseFire_idle (h : s.heat.supervising = false) : s.ceaseFire = s := if_neg (by simp [h])

theorem State.fireSupervision_eq {g : Cfg} (h : s.cfg = some g) :
    s.fireSupervision = if s.supervises = true then s.superviseFire g else s.ceaseFire := by
  rw [State.fireSupervision, h]

end

/-- Settles O36: the record, the key that supervises, the two runs and the sums, each from its own lemmas. -/
theorem remainderIsSigned : Obligations.RemainderIsSigned := by
  intro s i
  refine ⟨fun c hc => ?_, fun d hd => ?_, State.supervises_iff,
    fun g t hg ht => ⟨fun hs => ?_, fun hs hw => ?_, fun hs hw => ?_⟩, MeritKey.lt_iff, fun e => rfl, rfl,
    fun k => ?_, ?_, ?_, s.cfActual_eq, fun d => rfl⟩
  · obtain ⟨positive, not_positive⟩ := sub_fill_sign s.required (s.cfRecord i c).fill
    exact ⟨s.cfRecord i c, State.allocate_cf hc, rfl, rfl, positive, not_positive, State.cfRecord_held hc,
      massTarget_le_scale _ _ _, fun h => by rw [State.cfRecord_mass, h, massTarget_zero],
      fun v hn hv => massTarget_eq_iff hn hv _⟩
  · obtain ⟨positive, not_positive⟩ := sub_fill_sign s.required (s.diRecord i d).fill
    exact ⟨s.diRecord i d, State.allocate_di hd, rfl, rfl, positive, not_positive, State.diRecord_held hd⟩
  · rw [ht, State.fireSupervision_eq hg, if_pos hs]
    refine ⟨by rw [State.superviseFire_eq], fun code stands test run run' hst hc => ?_⟩
    have fires : s.Fires (s.superviseFire g) code test (g.fireDevTime * 1000) run run' := by
      rcases hc with ⟨rfl, rfl, rfl, ht⟩ | ⟨rfl, rfl, rfl, ht⟩
      · rw [hst, ← State.overTest_iff, ← Bool.eq_iff_iff] at ht
        exact ht ▸ s.superviseFire_over g
      · rw [hst, ← State.underTest_iff, ← Bool.eq_iff_iff] at ht
        exact ht ▸ s.superviseFire_under g
    rw [hst]
    exact ⟨fires.failed, fires.early, fires.late, fires.asked⟩
  · rw [ht, State.fireSupervision_eq hg, if_neg (by simp [hs]), State.ceaseFire_eq hw]
    exact ⟨rfl, rfl⟩
  · rw [ht, State.fireSupervision_eq hg, if_neg (by simp [hs]), State.ceaseFire_idle hw]
  · refine State.meritFill_eq (fun e => ?_) fun j => ?_
    · unfold PeerEntry.meritKey PeerEntry.actual
      cases e.body <;> rfl
    · unfold State.slotKey
      cases s.slot j <;> rfl
  · refine State.totalHeat_eq (fun e => ?_) fun j => ?_
    · unfold PeerEntry.actual
      cases e.body <;> rfl
    · cases s.slot j <;> rfl
  · refine State.credit_eq (fun e => ?_) fun j => ?_
    · unfold PeerEntry.credit
      cases e.body <;> rfl
    · cases s.slot j <;> rfl

end Sys2Proof.Machine
end

section
/-! PROOFS. The alarm unit's work as a chain of reports of the trip cause: what relates the states before and after every report,
and across work that leaves the slots, the outputs and the still parts alone, relates those before and after the alarm unit's
work. -/

namespace Sys2Proof.Machine

/-- A relation that the alarm unit's work carries on: its records change neither the slots nor the outputs, and its reports of
the trip cause are R142's alone. -/
structure AlarmWork (R : State → State → Prop) : Prop where
  trans : ∀ {s t u : State}, R s t → R t u → R s u
  quiet : ∀ {s t : State}, t.plant = s.plant → t.still = s.still → R s t
  trips : ∀ s : State, R s s.evalTrips

namespace AlarmWork

variable {R : State → State → Prop} (w : AlarmWork R) (s : State)
include w

theorem refl : R s s := w.quiet rfl rfl

theorem foldl {α : Type} {f : State → α → State} (h : ∀ s a, R s (f s a)) (as : List α) : R s (as.foldl f s) := by
  induction as generalizing s with
  | nil => exact w.refl s
  | cons a as ih => exact w.trans (h s a) (ih _)

theorem enterOwn (c : AlarmCode) (ch : Nat) : R s (s.enterOwn c ch) := by
  unfold State.enterOwn
  extract_lets e a s1 s2 s3
  have plant2 : s2.plant = s.plant := (State.postRaise_plant _ _).trans ((State.enterNew_plant _ e).trans rfl)
  have still2 : s2.still = s.still := (State.postRaise_still _ _).trans ((State.enterNew_still _ e).trans rfl)
  refine w.trans (w.quiet ?_ ?_) (w.trips s3)
  · simp only [s3]; split <;> simp [plant2]
  · simp only [s3]; split <;> simp [still2]

theorem raiseFlood : R s s.raiseFlood := by
  unfold State.raiseFlood
  refine w.trans (w.quiet ?_ ?_) (w.enterOwn _ _ _)
  all_goals split <;> rfl

theorem loseRaise : R s s.loseRaise := by
  unfold State.loseRaise
  simp only
  repeat' split
  · exact w.quiet (by simp) (by simp)
  · exact w.quiet rfl rfl
  · exact w.trans (w.quiet (by simp) (by simp)) (w.raiseFlood _)

theorem makeRoom {t : State} (h : s.makeRoom = some t) : R s t := w.quiet (State.makeRoom_plant h) (State.makeRoom_still h)

theorem takeRaise (c : AlarmCode) (ch : Nat) : R s (s.takeRaise c ch) := by
  unfold State.takeRaise; repeat' split
  case h_2 t room =>
    exact w.trans (w.makeRoom s room) (w.trans (w.quiet (State.forgetRetry_plant _ _) (by simp)) (w.enterOwn _ _ _))
  · exact w.quiet (by simp) (by simp)
  · exact w.quiet (by simp) (by simp)
  · exact w.enterOwn _ _ _
  · exact w.refl s
  · exact w.loseRaise s

theorem afterChange : R s s.afterChange := w.trans (w.quiet (by simp) (by simp)) (w.trips s.floodCheck)

theorem takeClear (c : AlarmCode) (ch : Nat) : R s (s.takeClear c ch) := by
  unfold State.takeClear; split
  · exact w.quiet (by simp) (by simp)
  · exact w.trans (w.quiet (by simp) (by simp)) (w.afterChange _)

theorem takeFirst : R s s.takeFirst := by
  unfold State.takeFirst; split
  · exact w.refl s
  · refine w.trans ?_ (w.quiet (State.agenda_plant _ _) rfl)
    rename_i r _ _
    cases r with
    | raise c ch => exact w.takeRaise s c ch
    | clear c ch => exact w.takeClear s c ch

theorem settleSome (n : Nat) : R s (s.settleSome n) := by
  induction n generalizing s with
  | zero => exact w.refl s
  | succ n ih =>
    unfold State.settleSome
    split
    · exact w.refl s
    · exact w.trans (w.takeFirst s) (ih _)

theorem settle : R s s.settle := w.trans (w.settleSome s Config.settleFuel) (w.quiet (State.agenda_plant _ _) rfl)

/-! ### Notices, acknowledgements and orphans (R134 to R136, R141) -/

theorem alarmNotice (o c ch cls ev : Nat) (occ : Serial) : R s (s.alarmNotice o c ch cls ev occ) := by
  have peerRaise (code : AlarmCode) : R s (s.peerRaise o code ch cls occ) := by
    unfold State.peerRaise
    split
    · split
      · exact w.loseRaise s
      · rename_i t room
        exact w.trans (w.makeRoom s room) (w.quiet (by simp) (by simp))
    · repeat' split
      all_goals exact w.quiet (by simp) (by simp)
  have peerClear (code : AlarmCode) : R s (s.peerClear o code ch occ) := by
    unfold State.peerClear; repeat' split
    all_goals exact w.quiet (by simp) (by simp)
  unfold State.alarmNotice
  simp only
  split
  · exact w.quiet rfl rfl
  split
  · exact w.quiet rfl rfl
  split
  · exact w.quiet rfl rfl
  split
  · exact w.quiet (by simp) (by simp)
  split
  · exact w.trans (peerRaise _) (w.afterChange _)
  · exact w.trans (peerClear _) (w.afterChange _)

theorem ackNotice (st o c ch : Nat) (occ : Serial) : R s (s.ackNotice st o c ch occ) := by
  unfold State.ackNotice
  repeat' split
  · exact w.quiet rfl rfl
  · exact w.quiet rfl rfl
  · exact w.quiet rfl rfl
  · exact w.trans (w.quiet (by simp) (by simp)) (w.afterChange _)
  · exact w.quiet rfl rfl

theorem panelAckAll : R s s.panelAckAll := by
  have panelAck (s : State) (k : AlarmEntry) : R s (s.panelAck k) := by
    unfold State.panelAck
    split
    · exact w.refl s
    · split
      · exact w.refl s
      · extract_lets e1 s1 s2
        refine w.trans (w.quiet ?_ ?_) (w.afterChange s2)
        · simp only [s2, s1]; split <;> simp
        · simp only [s2, s1]; split <;> simp
  unfold State.panelAckAll; split
  · exact w.refl s
  · exact w.foldl s panelAck _

theorem orphan (o : Nat) : R s (s.orphan o) :=
  w.trans (w.foldl s (fun t e => w.quiet (t.orphanEntry_plant e) (t.orphanEntry_still e)) _) (w.afterChange _)

end AlarmWork

end Sys2Proof.Machine
end

section
/-! PROOFS. The trip interlock (R71, R82, R105): what keeps every FEED latch at 0 and every feed slot from running while the trip
line is observed asserted, and a stopped slot's latch at 0. -/

namespace Sys2Proof.Machine

/-! ## What the interlock reads -/

/-- R70: the output of a CF slot: the one whose FEED latch it may hold. -/
def SlotUnit.feedOutput : SlotUnit → Option (Fin 8)
  | .cf c => some c.par.output
  | _ => none

/-- What the interlock reads of a unit. -/
def SlotUnit.feedPart (u : SlotUnit) : Option (Fin 8) × Bool := (u.feedOutput, u.feedRuns)

/-- What the interlock reads of a latch. -/
def Latch.feedPart (l : Latch) : OutputKind × Option (Fin 4) × Nat × Bool := (l.kind, l.owner, l.count, l.carried)

/-- What the interlock reads of a state. -/
def State.feedPart (s : State) :
    Bool × (Fin 4 → Option (Fin 8) × Bool) × (Fin 8 → OutputKind × Option (Fin 4) × Nat × Bool) :=
  (s.alarms.observed, fun i => (s.slot i).feedPart, fun o => (s.latch o).feedPart)

/-- R71: the rule of a live part's FEED latches. -/
def State.latchesFollow (s : State) : Prop :=
  ∀ o : Fin 8, (s.latch o).kind = .feed → (s.latch o).carried = false ∧ ((s.latch o).owner = none → (s.latch o).count = 0) ∧
    ∀ i, (s.latch o).owner = some i → (s.slot i).feedOutput = some o ∧ ((s.slot i).feedRuns = false → (s.latch o).count = 0)

theorem SlotUnit.feedOutput_eq_some {u : SlotUnit} {o : Fin 8} : u.feedOutput = some o ↔ ∃ c, u = .cf c ∧ c.par.output = o := by
  cases u <;> simp [SlotUnit.feedOutput]

theorem State.feedLatches_iff {s : State} : s.feedLatches ↔ (s.live = true → s.latchesFollow) := by
  have slot (o : Fin 8) (i : Fin 4) : (∃ c, s.slot i = .cf c ∧ c.par.output = o ∧ (c.state.runs = false → (s.latch o).count = 0)) ↔
      (s.slot i).feedOutput = some o ∧ ((s.slot i).feedRuns = false → (s.latch o).count = 0) := by
    cases s.slot i <;> simp [SlotUnit.feedOutput, SlotUnit.feedRuns]
  simp only [State.feedLatches, State.latchesFollow, slot]

section
variable {r s t : State} {i : Fin 4}

theorem State.feedPart_slot (h : t.feedPart = s.feedPart) (i : Fin 4) : (t.slot i).feedPart = (s.slot i).feedPart :=
  congrFun (congrArg (fun p => p.2.1) h) i

theorem State.feedPart_latch (h : t.feedPart = s.feedPart) (o : Fin 8) : (t.latch o).feedPart = (s.latch o).feedPart :=
  congrFun (congrArg (fun p => p.2.2) h) o

theorem State.feedPart_of_plant (h : t.plant = s.plant) (k : t.alarms.observed = s.alarms.observed) : t.feedPart = s.feedPart := by
  have hc : t.channels = s.channels := congrArg Prod.fst h
  have ho : t.output = s.output := congrArg Prod.snd h
  simp only [State.feedPart, State.slot, State.latch, hc, ho, k]

theorem State.feedPart_of_still (h : t.plant = s.plant) (k : t.still = s.still) : t.feedPart = s.feedPart :=
  State.feedPart_of_plant h (congrArg Still.observed k)

/-- Between two states the interlock holds on: while the trip line is observed asserted no feed slot has begun to run and no FEED
latch has left 0, and the FEED latches have gone on following their slots. -/
structure State.Guards (s t : State) : Prop where
  observed : t.alarms.observed = s.alarms.observed
  idle : s.alarms.observed = true → ∀ i, (s.slot i).feedRuns = false → (t.slot i).feedRuns = false
  zero : s.alarms.observed = true → ∀ o, (t.latch o).kind = .feed →
    (s.latch o).kind = .feed ∧ ((s.latch o).count = 0 → (t.latch o).count = 0)
  follow : s.latchesFollow → t.latchesFollow

namespace State.Guards

theorem refl (s : State) : s.Guards s := ⟨rfl, fun _ _ => id, fun _ _ k => ⟨k, id⟩, id⟩

theorem trans {u : State} (h : s.Guards t) (k : t.Guards u) : s.Guards u where
  observed := k.observed.trans h.observed
  idle on i hi := k.idle (h.observed.trans on) i (h.idle on i hi)
  zero on o ho := by
    obtain ⟨kt, zt⟩ := k.zero (h.observed.trans on) o ho
    obtain ⟨ks, zs⟩ := h.zero on o kt
    exact ⟨ks, zt ∘ zs⟩
  follow := k.follow ∘ h.follow

theorem interlocked (h : s.Guards t) (k : s.interlocked) : t.interlocked := by
  intro on
  have on' := h.observed.symm.trans on
  obtain ⟨zero, idle⟩ := k on'
  exact ⟨fun o ho => (h.zero on' o ho).2 (zero o (h.zero on' o ho).1), fun i => h.idle on' i (idle i)⟩

/-- What the interlock does not read may change. -/
theorem of_feedPart (h : t.feedPart = s.feedPart) : s.Guards t := by
  have slot (i : Fin 4) : (t.slot i).feedOutput = (s.slot i).feedOutput ∧ (t.slot i).feedRuns = (s.slot i).feedRuns :=
    Prod.ext_iff.1 (State.feedPart_slot h i)
  have latch (o : Fin 8) : (t.latch o).kind = (s.latch o).kind ∧ (t.latch o).owner = (s.latch o).owner ∧
      (t.latch o).count = (s.latch o).count ∧ (t.latch o).carried = (s.latch o).carried := by
    simpa [Latch.feedPart] using State.feedPart_latch h o
  refine ⟨congrArg Prod.fst h, fun _ i hi => (slot i).2.trans hi, fun _ o ho => ?_, fun k o ho => ?_⟩
  · obtain ⟨kind, -, count, -⟩ := latch o
    exact ⟨kind.symm.trans ho, count.trans⟩
  · obtain ⟨kind, owner, count, carried⟩ := latch o
    rw [owner, count, carried]
    simp only [slot]
    exact k o (kind.symm.trans ho)

end State.Guards

theorem guards_congr (h : t.feedPart = s.feedPart) : r.Guards t ↔ r.Guards s :=
  ⟨fun k => k.trans (.of_feedPart h.symm), fun k => k.trans (.of_feedPart h)⟩

/-! ## A unit put in a slot, a count written to a latch -/

theorem State.setSlot_slot (s : State) (i j : Fin 4) (u : SlotUnit) :
    (s.setSlot i u).slot j = if j = i then u else s.slot j := by
  split
  · rename_i h; subst h; exact s.setSlot_slot_self _ u
  · rename_i h; exact s.setSlot_slot_ne i j u h

/-- A unit that keeps its output takes the slot: it runs only where the trip line is released or the old unit ran, and one that
holds an output stops only where the old unit had stopped. -/
theorem State.setSlot_guards {u : SlotUnit} (out : u.feedOutput = (s.slot i).feedOutput)
    (runs : s.alarms.observed = true → u.feedRuns = true → (s.slot i).feedRuns = true)
    (stops : ∀ o, u.feedOutput = some o → u.feedRuns = false → (s.slot i).feedRuns = false) : s.Guards (s.setSlot i u) where
  observed := rfl
  idle on j hj := by
    rw [State.setSlot_slot]
    split
    · rename_i e; subst e
      by_contra hu
      rw [runs on (by simpa using hu)] at hj
      exact Bool.noConfusion hj
    · exact hj
  zero _ o ho := ⟨ho, id⟩
  follow k o ho := by
    obtain ⟨carried, none, some⟩ := k o ho
    refine ⟨carried, none, fun j hj => ?_⟩
    obtain ⟨output, count⟩ := some j hj
    rw [State.setSlot_slot]
    split
    · rename_i e; subst e
      exact ⟨out.trans output, fun hu => count (stops o (out.trans output) hu)⟩
    · exact ⟨output, count⟩

/-- A unit that the interlock reads as the one before it. -/
theorem State.setSlot_guards_same {u : SlotUnit} (h : u.feedPart = (s.slot i).feedPart) : s.Guards (s.setSlot i u) := by
  obtain ⟨out, runs⟩ := Prod.ext_iff.1 h
  exact State.setSlot_guards out (fun _ hu => runs.symm.trans hu) (fun _ _ hu => runs.symm.trans hu)

/-- R71: a FEED latch is held at 0 while the trip line is observed asserted, while no slot has it, and while its CF slot does not
run. -/
theorem State.latchHeldAtZero_of {o : Fin 8} (hk : (s.latch o).kind = .feed) (h : s.alarms.observed = true ∨
    (s.latch o).owner = none ∨ ∃ i, (s.latch o).owner = some i ∧ (s.slot i).feedOutput = some o ∧ (s.slot i).feedRuns = false) :
    s.latchHeldAtZero o = true := by
  rcases h with h | h | ⟨i, h, out, stopped⟩
  · simp [State.latchHeldAtZero, hk, h]
  · simp [State.latchHeldAtZero, hk, h]
  · obtain ⟨c, hc, -⟩ := SlotUnit.feedOutput_eq_some.1 out
    rw [hc] at stopped
    have : (SlotUnit.cf c).feedStopped = true := by
      revert stopped
      cases hs : c.state <;> simp [SlotUnit.feedStopped, SlotUnit.feedRuns, CfState.runs, hs]
    simp [State.latchHeldAtZero, hk, h, hc, this]

/-- R71: the FEED latches follow their slots, but for the count of one of them. -/
def State.latchesFollowBut (s : State) (o : Fin 8) : Prop :=
  ∀ p : Fin 8, (s.latch p).kind = .feed → (s.latch p).carried = false ∧
    ((s.latch p).owner = none → p ≠ o → (s.latch p).count = 0) ∧
    ∀ i, (s.latch p).owner = some i → (s.slot i).feedOutput = some p ∧
      ((s.slot i).feedRuns = false → p ≠ o → (s.latch p).count = 0)

theorem State.latchesFollow.but (h : s.latchesFollow) (o : Fin 8) : s.latchesFollowBut o := fun p hp => by
  obtain ⟨carried, none, some⟩ := h p hp
  exact ⟨carried, fun hn _ => none hn, fun i hi => ⟨(some i hi).1, fun hr _ => (some i hi).2 hr⟩⟩

@[simp] theorem State.takeCount_slot (s : State) (o : Fin 8) (n : Nat) (i : Fin 4) : (s.takeCount o n).slot i = s.slot i :=
  State.slot_of_channels (s.takeCount_slots o n) i

theorem State.takeCount_feedPart_ne (s : State) {o p : Fin 8} (n : Nat) (hp : p ≠ o) :
    ((s.takeCount o n).latch p).feedPart = (s.latch p).feedPart := by
  by_cases takes : (s.latch o).carried = false ∨ s.station = .run
  · obtain ⟨b, written⟩ := (s.uncarry o).writeLatch_latch_ne (if s.latchHeldAtZero o = true then 0 else n) hp
    rw [State.takeCount_takes takes, written, State.uncarry_latch_ne s hp]; rfl
  · obtain ⟨carried, out⟩ := not_or.1 takes
    rw [State.takeCount_carried (by simpa using carried) out]

/-- R71: a count handed to a latch puts it in order. -/
theorem State.takeCount_follow {o : Fin 8} (n : Nat) (h : s.latchesFollowBut o) : (s.takeCount o n).latchesFollow := by
  intro p hp
  simp only [State.takeCount_slot]
  by_cases e : p = o
  · subst e
    have kind : (s.latch p).kind = .feed := by
      by_cases takes : (s.latch p).carried = false ∨ s.station = .run
      · obtain ⟨b, self⟩ := State.takeCount_latch_self (n := n) takes
        rwa [self] at hp
      · obtain ⟨carried, out⟩ := not_or.1 takes
        rwa [State.takeCount_carried (by simpa using carried) out] at hp
    obtain ⟨carried, -, owned⟩ := h p kind
    obtain ⟨b, self⟩ := State.takeCount_latch_self (n := n) (.inl carried)
    rw [self]
    refine ⟨rfl, fun hn => if_pos (State.latchHeldAtZero_of kind (.inr (.inl hn))), fun i hi => ?_⟩
    obtain ⟨out, -⟩ := owned i hi
    exact ⟨out, fun hr => if_pos (State.latchHeldAtZero_of kind (.inr (.inr ⟨i, hi, out, hr⟩)))⟩
  · obtain ⟨kind, owner, count, carried⟩ : _ ∧ _ ∧ _ ∧ _ := by simpa [Latch.feedPart] using s.takeCount_feedPart_ne n e
    obtain ⟨free, none, owned⟩ := h p (kind.symm.trans hp)
    rw [owner, count, carried]
    exact ⟨free, fun hn => none hn e, fun i hi => ⟨(owned i hi).1, fun hr => (owned i hi).2 hr e⟩⟩

/-- R71: a FEED latch takes no count but 0 while it is held at 0. -/
theorem State.takeCount_guards (s : State) (o : Fin 8) (n : Nat) : s.Guards (s.takeCount o n) where
  observed := congrArg Still.observed (s.takeCount_still o n)
  idle _ i hi := by rw [State.takeCount_slot]; exact hi
  zero on p hp := by
    by_cases e : p = o
    · subst e
      by_cases takes : (s.latch p).carried = false ∨ s.station = .run
      · obtain ⟨b, self⟩ := State.takeCount_latch_self (n := n) takes
        rw [self] at hp ⊢
        exact ⟨hp, fun _ => if_pos (State.latchHeldAtZero_of hp (.inl on))⟩
      · obtain ⟨carried, out⟩ := not_or.1 takes
        rw [State.takeCount_carried (by simpa using carried) out] at hp ⊢
        exact ⟨hp, id⟩
    · obtain ⟨kind, -, count, -⟩ : _ ∧ _ ∧ _ ∧ _ := by simpa [Latch.feedPart] using s.takeCount_feedPart_ne n e
      exact ⟨kind.symm.trans hp, count.trans⟩
  follow k := State.takeCount_follow n (k.but o)

/-- R71: a feed slot that stops, and hands its output a count at once. -/
theorem State.stop_guards {u : SlotUnit} {o : Fin 8} (out : u.feedOutput = some o) (before : (s.slot i).feedOutput = some o)
    (stopped : u.feedRuns = false) (n : Nat) : s.Guards ((s.setSlot i u).takeCount o n) := by
  have after := (s.setSlot i u).takeCount_guards o n
  refine ⟨after.observed, fun on j hj => after.idle on j ?_, after.zero, fun k => State.takeCount_follow n fun p hp => ?_⟩
  · rw [State.setSlot_slot]
    split
    · exact stopped
    · exact hj
  · obtain ⟨carried, none, owned⟩ := k p hp
    refine ⟨carried, fun hn _ => none hn, fun j hj => ?_⟩
    obtain ⟨output, count⟩ := owned j hj
    rw [State.setSlot_slot]
    split
    · rename_i e; subst e
      have : o = p := Option.some.inj (before.symm.trans output)
      exact ⟨this ▸ out, fun _ hp => absurd this.symm hp⟩
    · exact ⟨output, fun hr _ => count hr⟩

end

end Sys2Proof.Machine
end

section
/-! PROOFS. The trip interlock across the operations of the slots (R71, R82, R105). -/

namespace Sys2Proof.Machine

section
variable {r s t : State} {i : Fin 4}

/-! ## What the interlock does not read -/

@[simp] theorem State.ask_feedPart (q : AlarmRequest) : (s.ask q).feedPart = s.feedPart := rfl
@[simp] theorem State.markLeft_feedPart (i : Fin 4) : (s.markLeft i).feedPart = s.feedPart := rfl

@[simp] theorem State.offer_feedPart (n : Notice) : (s.offer n).feedPart = s.feedPart :=
  State.feedPart_of_still (by simp) (by simp)

@[simp] theorem State.publish_feedPart (i : Fin 4) : (s.publish i).feedPart = s.feedPart := by
  unfold State.publish; split <;> simp

@[simp] theorem State.markNoticed_feedPart (i : Fin 4) : (s.markNoticed i).feedPart = s.feedPart := by
  unfold State.markNoticed; split <;> rfl

@[simp] theorem State.noteChange_feedPart (i : Fin 4) : (s.noteChange i).feedPart = s.feedPart := by
  simp [State.noteChange]

@[simp] theorem State.clearStarved_feedPart (i : Fin 4) : (s.clearStarved i).feedPart = s.feedPart := by
  unfold State.clearStarved; split <;> rfl

namespace State.Guards

theorem of_eq (h : r.Guards s) (k : t.feedPart = s.feedPart) : r.Guards t := (guards_congr k).2 h

theorem onCf {f : CfSlot → State} (h : r.Guards s) (k : ∀ c, s.slot i = .cf c → r.Guards (f c)) : r.Guards (s.onCf i f) := by
  unfold State.onCf; split
  · exact k _ ‹_›
  · exact h

theorem onDi {f : DiSlot → State} (h : r.Guards s) (k : ∀ d, s.slot i = .di d → r.Guards (f d)) : r.Guards (s.onDi i f) := by
  unfold State.onDi; split
  · exact k _ ‹_›
  · exact h

theorem onCa {f : CaSlot → State} (h : r.Guards s) (k : ∀ a, s.slot i = .ca a → r.Guards (f a)) : r.Guards (s.onCa i f) := by
  unfold State.onCa; split
  · exact k _ ‹_›
  · exact h

theorem onCg {f : CgSlot → State} (h : r.Guards s) (k : ∀ g, s.slot i = .cg g → r.Guards (f g)) : r.Guards (s.onCg i f) := by
  unfold State.onCg; split
  · exact k _ ‹_›
  · exact h

theorem eachSlot {f : State → Fin 4 → State} (k : ∀ (s : State) i, s.Guards (f s i)) : s.Guards (s.eachSlot f) :=
  (((k _ _).trans (k _ _)).trans (k _ _)).trans (k _ _)

/-- A unit that the interlock reads as the one it replaces. -/
theorem same (h : r.Guards s) {u : SlotUnit} (k : u.feedPart = (s.slot i).feedPart) : r.Guards (s.setSlot i u) :=
  h.trans (State.setSlot_guards_same k)

theorem takeCount (h : r.Guards s) (o : Fin 8) (n : Nat) : r.Guards (s.takeCount o n) := h.trans (s.takeCount_guards o n)

theorem handTarget (h : r.Guards s) (o : Fin 8) (x f : Nat) : r.Guards (s.handTarget o x f) := h.takeCount _ _

theorem handFallback (h : r.Guards s) (o : Fin 8) : r.Guards (s.handFallback o) := h.takeCount _ _

theorem ask (h : r.Guards s) (q : AlarmRequest) : r.Guards (s.ask q) := h.of_eq rfl

theorem noteChange (h : r.Guards s) (i : Fin 4) : r.Guards (s.noteChange i) := h.of_eq (by simp)

theorem postDeviation (h : r.Guards s) (i : Fin 4) : r.Guards (s.postDeviation i) := h.of_eq rfl

theorem postMass (h : r.Guards s) (i : Fin 4) (n : Nat) : r.Guards (s.postMass i n) := h.of_eq rfl

theorem postHeat (h : r.Guards s) (i : Fin 4) (n : Nat) : r.Guards (s.postHeat i n) := h.of_eq rfl

theorem clearStarved (h : r.Guards s) (i : Fin 4) : r.Guards (s.clearStarved i) := h.of_eq (by simp)

theorem markLeft (h : r.Guards s) (i : Fin 4) : r.Guards (s.markLeft i) := h.of_eq rfl

end State.Guards

/-! ## The CF slot (R76 to R86) -/

section
variable {c : CfSlot}

theorem State.cfStop_guards (hs : s.slot i = .cf c) {st : CfState} (k : st.runs = false) : s.Guards (s.cfStop i c st) := by
  unfold State.cfStop
  extract_lets s1 s2
  have stops : s.Guards s1 := State.stop_guards rfl (by simp [hs, SlotUnit.feedOutput]) (by simpa [SlotUnit.feedRuns, CfSlot.stopped] using k) _
  have asks : s2.feedPart = s1.feedPart := by simp only [s2]; split <;> rfl
  exact stops.of_eq (by simp [asks])

theorem State.cfTrip_guards (hs : s.slot i = .cf c) : s.Guards (s.cfTrip i c) := by
  unfold State.cfTrip
  repeat' split
  · exact State.cfStop_guards hs rfl
  · exact .refl s
  · exact State.cfStop_guards hs rfl
  · exact .refl s

/-- R77: no CF slot starts while the trip line is observed asserted. -/
theorem State.cfMayStart_released (h : s.cfMayStart i c = true) : s.alarms.observed = false := by
  simp_all [State.cfMayStart, State.tripCause]

theorem State.cfPassage_guards (hs : s.slot i = .cf c) : s.Guards (s.cfPassage i c) := by
  unfold State.cfPassage; split
  case isTrue may =>
    have released := State.cfMayStart_released may.2
    refine (State.setSlot_guards ?_ ?_ ?_).of_eq (by simp; rfl)
    · simp [hs, SlotUnit.feedOutput]
    · simp [released]
    · simp [SlotUnit.feedRuns, CfState.runs]
  case isFalse => exact .refl s

/-- A CF slot's record with the same output, running as before. -/
theorem State.setCf_guards (hs : s.slot i = .cf c) {k : CfSlot} (out : k.par.output = c.par.output := by rfl)
    (runs : k.state.runs = c.state.runs := by rfl) : s.Guards (s.setSlot i (.cf k)) :=
  State.setSlot_guards_same (by simp [hs, SlotUnit.feedPart, SlotUnit.feedOutput, SlotUnit.feedRuns, out, runs])

theorem State.cfStartTest_guards (hs : s.slot i = .cf c) (k : c.state = .starting) : s.Guards (s.cfStartTest i c) := by
  unfold State.cfStartTest
  split
  · exact State.setCf_guards hs
  split
  · refine .noteChange (State.setCf_guards hs (runs := ?_)) i
    rw [k]
    cases c.alloc.held <;> rfl
  · exact .refl s

theorem State.cfVerdict_guards (hs : s.slot i = .cf c) : s.Guards (s.cfVerdict i c) := by
  unfold State.cfVerdict
  split
  case isTrue h => exact .noteChange (State.setCf_guards hs (runs := by rw [h.1]; rfl)) i
  split
  case isTrue h => exact .noteChange (State.setCf_guards hs (runs := by rw [h.1]; rfl)) i
  case isFalse => exact .refl s

theorem State.cfSupervise_guards (hs : s.slot i = .cf c) : s.Guards (s.cfSupervise i c) := by
  unfold State.cfSupervise
  simp only
  repeat' split
  · exact .ask (State.setCf_guards hs) _
  · exact State.setCf_guards hs
  · exact .postDeviation (.ask (State.setCf_guards hs) _) i
  · exact State.setCf_guards hs

theorem State.cfHandOn_guards (s : State) (i : Fin 4) : s.Guards (s.cfHandOn i) := by
  unfold State.cfHandOn
  extract_lets s1 s2
  have hands : s.Guards s1 := (Guards.refl s).onCf fun c hc => (Guards.refl s).handTarget _ _ _
  have tests : s.Guards s2 := hands.onCf fun c hc => hands.trans (by
    split
    · exact State.cfStartTest_guards hc ‹_›
    · exact State.cfVerdict_guards hc)
  refine tests.onCf fun c hc => ?_
  split
  · exact tests.trans (State.cfSupervise_guards hc)
  · exact tests

theorem State.cfLeaveFault_guards (hs : s.slot i = .cf c) : s.Guards (s.cfLeaveFault i c) := by
  unfold State.cfLeaveFault; split
  · have slot : (s.ask (.clear .feedFailedToStart i.val)).slot i = .cf c := hs
    exact ((Guards.refl s).ask _).trans (State.cfStop_guards slot rfl)
  · exact .refl s

theorem State.cfPermitFalls_guards (hs : s.slot i = .cf c) : s.Guards (s.cfPermitFalls i c) := by
  unfold State.cfPermitFalls; split
  · exact State.cfStop_guards hs rfl
  · exact State.cfLeaveFault_guards hs

theorem State.cfInputFailed_guards (hs : s.slot i = .cf c) : s.Guards (s.cfInputFailed i c) := by
  unfold State.cfInputFailed; split
  · exact State.cfStop_guards hs rfl
  · exact .refl s

theorem State.cfPostAmounts_guards (s : State) (i : Fin 4) : s.Guards (s.cfPostAmounts i) :=
  (Guards.refl s).onCf fun c hc => .postHeat (.postMass (State.setCf_guards hc) _ _) _ _

theorem State.cfPostTime_guards (s : State) (i : Fin 4) (arrived : CfState) : s.Guards (s.cfPostTime i arrived) := by
  refine (Guards.refl s).onCf fun c hc => ?_
  have posts : s.Guards (s.setSlot i (.cf { c with timeCarry := (c.timeCarry + s.period) % 1000 })) :=
    State.setCf_guards hc
  cases arrived with
  | dosing | hold | tripped => exact posts.of_eq rfl
  | _ => exact .refl s

end

/-! ## The DI slot and its gate (R92 to R109) -/

section
variable {d d' : DiSlot}

/-- A DI slot's record that runs only where the trip line is released or the old record ran. -/
theorem State.setDi_guards (hs : s.slot i = .di d) {k : DiSlot}
    (runs : s.alarms.observed = true → k.runs = true → d.runs = true := by exact fun _ h => h) :
    s.Guards (s.setSlot i (.di k)) :=
  State.setSlot_guards (by simp [hs, SlotUnit.feedOutput]) (by simpa [hs, SlotUnit.feedRuns] using runs)
    (by simp [SlotUnit.feedOutput])

@[simp] theorem DiSlot.callAfter_runs (d : DiSlot) : d.callAfter.runs = d.runs := by
  unfold DiSlot.callAfter; repeat' split
  all_goals rfl

@[simp] theorem DiSlot.enterGate_runs (d : DiSlot) (n : Nat) (g : GateState) : (d.enterGate n g).runs = d.runs := by
  cases g <;> rfl

theorem State.diStop_guards (hs : s.slot i = .di d') {st : DiState} (k : st ≠ .dosing ∧ st ≠ .hold) :
    s.Guards (s.diStop i d st) :=
  .noteChange (.clearStarved (State.setDi_guards hs (fun _ h => by simp [DiSlot.runs, k] at h)) i) i

theorem State.gateJam_guards (hs : s.slot i = .di d) : s.Guards (s.gateJam i d) := by
  unfold State.gateJam
  extract_lets lost d1 g n d2 s1 s2 s3
  have jams : s.Guards (s.setSlot i (.di d2)) := State.setDi_guards hs
  have quiet : s3.feedPart = (s.setSlot i (.di d2)).feedPart ∧ s3.slot i = .di d2 := by
    have self : (s.setSlot i (.di d2)).slot i = .di d2 := State.setSlot_slot_self s i _
    simp only [s3, s2]
    split <;> split <;> exact ⟨rfl, self⟩
  split
  · exact (jams.of_eq quiet.1).trans (State.diStop_guards quiet.2 (by decide))
  · exact jams.of_eq quiet.1

theorem State.tryStart_guards (s : State) (i : Fin 4) : s.Guards (s.tryStart i) := by
  refine (Guards.refl s).onDi fun d hd => ?_
  repeat' split
  · exact State.setDi_guards hd
  · exact .refl s
  · exact State.setDi_guards hd (fun _ h => by rw [DiSlot.enterGate_runs, DiSlot.callAfter_runs] at h; exact h)
  · exact .refl s
  · exact .refl s
  · exact .refl s

theorem State.countFed_guards (hs : s.slot i = .di d) : s.Guards (s.countFed i d) := by
  unfold State.countFed; split
  · exact .refl s
  · exact .postHeat (.postMass (State.setDi_guards hs) _ _) _ _

theorem State.gateReady_guards (hs : s.slot i = .di d') (k : d.runs = d'.runs) : s.Guards (s.gateReady i d) := by
  unfold State.gateReady
  extract_lets s1 s2
  have ready : s.Guards s1 := State.setDi_guards hs (by simp [k])
  have asks : s.Guards s2 := by
    simp only [s2]; split
    · exact ready.ask _
    · exact ready
  split
  · exact asks.onDi fun d hd => asks.trans (State.diStop_guards hd (by decide))
  · exact asks

theorem State.gateRun_guards (n : Nat) (s : State) (i : Fin 4) : s.Guards (s.gateRun n i) := by
  induction n generalizing s with
  | zero => exact .refl s
  | succ n ih =>
    have on {t : State} (h : s.Guards t) : s.Guards (t.gateRun n i) := h.trans (ih t)
    refine (Guards.refl s).onDi fun d hd => ?_
    repeat' split
    · exact State.gateJam_guards hd
    · exact on (State.setDi_guards hd)
    · exact .refl s
    · exact on (.trans (State.gateReady_guards hd (by rfl)) (State.tryStart_guards _ i))
    · exact on (State.setDi_guards hd)
    · exact .refl s
    · have fed := State.countFed_guards hd
      exact on (fed.onDi fun d1 hd1 => fed.trans (State.setDi_guards hd1))
    · exact .refl s
    · exact on (.trans (State.gateReady_guards hd (by rfl)) (State.tryStart_guards _ i))
    · exact .refl s
    · exact .refl s

theorem State.gateGo_guards (s : State) (i : Fin 4) : s.Guards (s.gateGo i) := s.gateRun_guards 16 i

theorem State.interrupt_guards (s : State) (i : Fin 4) : s.Guards (s.interrupt i) := by
  refine (Guards.refl s).onDi fun d hd => ?_
  split
  · exact (State.setDi_guards hd).trans (State.gateGo_guards _ i)
  · exact State.setDi_guards hd
  · exact .refl s

theorem State.diLeave_guards (hs : s.slot i = .di d) {st : DiState} (k : st ≠ .dosing ∧ st ≠ .hold) :
    s.Guards (s.diLeave i d st) := (State.diStop_guards hs k).trans (State.interrupt_guards _ i)

theorem State.diTrip_guards (hs : s.slot i = .di d) : s.Guards (s.diTrip i d) := by
  unfold State.diTrip
  repeat' split
  · exact State.diLeave_guards hs (by decide)
  · exact .refl s
  · exact State.diLeave_guards hs (by decide)
  · exact .refl s

/-- R105: no DI slot starts while the trip line is observed asserted. -/
theorem State.diMayStart_released (h : s.diMayStart i d = true) : s.alarms.observed = false := by
  simp_all [State.diMayStart, State.tripCause]

theorem State.diPassage_guards (hs : s.slot i = .di d) : s.Guards (s.diPassage i d) := by
  unfold State.diPassage; split
  case isTrue may =>
    have released := State.diMayStart_released may.2
    exact .markLeft (State.setDi_guards hs (by simp [released])) i
  case isFalse => exact .refl s

theorem State.diVerdict_guards (hs : s.slot i = .di d) : s.Guards (s.diVerdict i d) := by
  unfold State.diVerdict
  split
  case isTrue h => exact .noteChange (State.setDi_guards hs (fun _ _ => by simp [DiSlot.runs, h.1])) i
  split
  case isTrue h => exact .noteChange (State.setDi_guards hs (fun _ _ => by simp [DiSlot.runs, h.1])) i
  split
  · exact .noteChange (.refl s) i
  · exact .refl s

theorem State.diDebt_guards (hs : s.slot i = .di d) : s.Guards (s.diDebt i d) := by
  unfold State.diDebt
  simp only
  repeat' split
  · exact .clearStarved (State.setDi_guards hs) i
  · exact .ask (State.setDi_guards hs) _
  · exact State.setDi_guards hs

theorem State.diHandOn_guards (s : State) (i : Fin 4) : s.Guards (s.diHandOn i) := by
  unfold State.diHandOn
  extract_lets s1 s2
  have tests : s.Guards s1 := (Guards.refl s).onDi fun d hd => State.diVerdict_guards hd
  have debt : s.Guards s2 := tests.onDi fun d hd => tests.trans (State.diDebt_guards hd)
  exact (debt.trans (State.tryStart_guards _ i)).trans (State.gateGo_guards _ i)

theorem State.diPermitFalls_guards (hs : s.slot i = .di d) : s.Guards (s.diPermitFalls i d) := by
  unfold State.diPermitFalls
  repeat' split
  · exact State.diLeave_guards hs (by decide)
  · exact State.diStop_guards hs (by decide)
  · exact .refl s

theorem State.divert_guards (hs : s.slot i = .di d') (k : d.runs = d'.runs) (full : Bool) : s.Guards (s.divert i d full) := by
  unfold State.divert
  extract_lets c d1 s1
  have diverts : s.Guards s1 := State.setDi_guards hs (fun _ h => k.symm.trans h)
  split
  all_goals exact diverts.of_eq rfl

theorem State.appendItem_guards (hs : s.slot i = .di d') (k : d.runs = d'.runs) (it : Item) : s.Guards (s.appendItem i d it) := by
  unfold State.appendItem
  extract_lets d1 s1
  have joins : s.Guards s1 := .clearStarved (State.setDi_guards hs (fun _ h => k.symm.trans ((d1.callAfter_runs).symm.trans h))) i
  split
  · exact (joins.trans (State.tryStart_guards _ i)).trans (State.gateGo_guards _ i)
  · exact joins

theorem State.itemWeighed_guards (s : State) (i : Fin 4) (w : Nat) : s.Guards (s.itemWeighed i w) := by
  refine (Guards.refl s).onDi fun d hd => ?_
  simp only
  repeat' split
  · exact State.divert_guards hd (by rfl) _
  · exact State.divert_guards hd (by rfl) _
  · exact State.appendItem_guards hd (by rfl) _

theorem State.confirm_guards (s : State) (i : Fin 4) (sw : GateSwitch) (level : Bool) : s.Guards (s.confirm i sw level) :=
  (Guards.refl s).onDi fun _ hd => (State.setDi_guards hd).trans (State.gateGo_guards _ i)

theorem State.diPostTime_guards (s : State) (i : Fin 4) (arrived : DiState) : s.Guards (s.diPostTime i arrived) := by
  refine (Guards.refl s).onDi fun d hd => ?_
  have posts : s.Guards (s.setSlot i (.di { d with timeCarry := (d.timeCarry + s.period) % 1000 })) := State.setDi_guards hd
  cases arrived with
  | dosing | hold | tripped => exact posts.of_eq rfl
  | _ => exact .refl s

end

end

end Sys2Proof.Machine
end

section
/-! PROOFS. The trip interlock across the cooler, the alarm unit and the control update. -/

namespace Sys2Proof.Machine

section
variable {r s t : State} {i : Fin 4}

/-! ## The cooler's slots -/

section
variable {a a' : CaSlot} {g g' : CgSlot}

theorem State.setCa_guards (hs : s.slot i = .ca a) (k : CaSlot) : s.Guards (s.setSlot i (.ca k)) :=
  State.setSlot_guards_same (by rw [hs]; rfl)

theorem State.setCg_guards (hs : s.slot i = .cg g) (k : CgSlot) : s.Guards (s.setSlot i (.cg k)) :=
  State.setSlot_guards_same (by rw [hs]; rfl)

theorem State.caHand_guards (s : State) (a : CaSlot) : s.Guards (s.caHand a) := by
  unfold State.caHand; split <;> exact State.takeCount_guards _ _ _

theorem State.caEnter_guards (hs : s.slot i = .ca a') (st : CaState) : s.Guards (s.caEnter i a st) := by
  unfold State.caEnter
  extract_lets run a1 s1 s2
  have enters : s.Guards s1 := State.setCa_guards hs _
  have asks : s2.feedPart = s1.feedPart := by
    simp only [s2]; repeat' split
    all_goals rfl
  exact ((enters.of_eq asks).trans (s2.caHand_guards a1)).noteChange i

theorem State.caForm_guards (s : State) (i : Fin 4) : s.Guards (s.caForm i) :=
  (Guards.refl s).onCa fun _ ha => State.setCa_guards ha _

theorem State.caPassage_guards (s : State) (i : Fin 4) : s.Guards (s.caPassage i) := by
  refine (Guards.refl s).onCa fun _ ha => ?_
  split
  · exact .markLeft (State.caEnter_guards ha _) i
  · exact .refl s

theorem State.caRespond_guards (s : State) (i : Fin 4) : s.Guards (s.caRespond i) := by
  refine (Guards.refl s).onCa fun _ ha => ?_
  simp only; repeat' split
  · exact State.caEnter_guards ha _
  · exact State.setCa_guards ha _
  · exact .refl s

theorem State.caSupervise_guards (s : State) (i : Fin 4) : s.Guards (s.caSupervise i) := by
  refine (Guards.refl s).onCa fun _ ha => ?_
  simp only; repeat' split
  · exact (State.setCa_guards ha _).ask _
  · exact State.setCa_guards ha _
  · exact ((State.setCa_guards ha _).ask _).postDeviation i
  · exact State.setCa_guards ha _
  · exact .refl s

theorem State.caHot_guards (s : State) (i : Fin 4) : s.Guards (s.caHot i) := by
  refine (Guards.refl s).onCa fun _ ha => ?_
  simp only; repeat' split
  · exact .refl s
  · exact State.setCa_guards ha _
  · exact (State.setCa_guards ha _).ask _
  · exact State.setCa_guards ha _
  · exact (State.setCa_guards ha _).ask _
  · exact State.setCa_guards ha _

theorem State.caUpdate_guards (s : State) (i : Fin 4) : s.Guards (s.caUpdate i) := by
  unfold State.caUpdate
  extract_lets s1 s2 s3
  have forms : s.Guards s1 := s.caForm_guards i
  have hands : s2.Guards s3 := (Guards.refl s2).onCa fun a _ => s2.caHand_guards a
  split
  · exact ((((forms.trans (s1.caPassage_guards i)).trans hands).trans (s3.caRespond_guards i)).trans
      (State.caSupervise_guards _ i)).trans (State.caHot_guards _ i)
  · exact forms

theorem State.caPermitFalls_guards (hs : s.slot i = .ca a') : s.Guards (s.caPermitFalls i a) := by
  unfold State.caPermitFalls; split
  · exact .refl s
  · exact State.caEnter_guards hs _

theorem State.caForce_guards (s : State) (i : Fin 4) : s.Guards (s.caForce i) := by
  refine (Guards.refl s).onCa fun _ ha => ?_
  split
  · exact State.caEnter_guards ha _
  · exact .refl s

theorem State.caRelease_guards (s : State) (i : Fin 4) : s.Guards (s.caRelease i) := by
  refine (Guards.refl s).onCa fun _ ha => ?_
  split
  · exact State.caEnter_guards ha _
  · exact .refl s

theorem State.cgHand_guards (s : State) (g : CgSlot) : s.Guards (s.cgHand g) := by
  unfold State.cgHand; split <;> exact State.takeCount_guards _ _ _

theorem State.cgEnter_guards (hs : s.slot i = .cg g') (st : CgState) : s.Guards (s.cgEnter i g st) := by
  unfold State.cgEnter
  extract_lets g1 s1
  have enters : s.Guards s1 := (State.setCg_guards hs g1).trans (State.cgHand_guards _ g1)
  split
  · exact ((enters.ask _).noteChange i).trans (Guards.eachSlot State.caRelease_guards)
  · exact enters.noteChange i

theorem State.cgFlush_guards (hs : s.slot i = .cg g') : s.Guards (s.cgFlush i g) := by
  unfold State.cgFlush
  extract_lets g1 s1
  have enters : s.Guards s1 := (State.setCg_guards hs g1).trans (State.cgHand_guards _ g1)
  have posts : s.Guards ((s1.ask (.raise .flush i.val)).postFlush i) := enters.of_eq rfl
  exact (posts.noteChange i).trans (Guards.eachSlot State.caForce_guards)

theorem State.cgPassage_guards (s : State) (i : Fin 4) : s.Guards (s.cgPassage i) := by
  refine (Guards.refl s).onCg fun _ hg => ?_
  split
  · exact .markLeft (State.cgEnter_guards hg _) i
  · exact .refl s

theorem State.cgRunning_guards (hs : s.slot i = .cg g') (p : Int) : s.Guards (s.cgRunning i g p) := by
  unfold State.cgRunning
  simp only; split
  · exact State.cgFlush_guards hs
  · exact State.setCg_guards hs _

theorem State.cgFlushing_guards (hs : s.slot i = .cg g') (calm : Bool) : s.Guards (s.cgFlushing i g calm) := by
  unfold State.cgFlushing
  simp only; split
  · exact State.cgEnter_guards hs _
  · exact State.setCg_guards hs _

theorem State.cgPressure_guards (s : State) (i : Fin 4) : s.Guards (s.cgPressure i) := by
  refine (Guards.refl s).onCg fun _ hg => ?_
  simp only; repeat' split
  · exact State.setCg_guards hg _
  · exact (State.setCg_guards hg _).ask _
  · exact State.setCg_guards hg _
  · exact (State.setCg_guards hg _).ask _
  · exact State.setCg_guards hg _

theorem State.cgAct_guards (s : State) (i : Fin 4) : s.Guards (s.cgAct i) := by
  refine (Guards.refl s).onCg fun _ hg => ?_
  simp only; repeat' split
  · exact .refl s
  · exact State.cgRunning_guards hg _
  · exact State.cgFlushing_guards hg _
  · exact .refl s

theorem State.cgUpdate_guards (s : State) (i : Fin 4) : s.Guards (s.cgUpdate i) := by
  unfold State.cgUpdate
  extract_lets s1 s2
  have acts : s.Guards s1 := (s.cgPassage_guards i).trans (State.cgAct_guards _ i)
  have hands : s1.Guards s2 := (Guards.refl s1).onCg fun g _ => s1.cgHand_guards g
  split
  · exact (acts.trans hands).trans (s2.cgPressure_guards i)
  · exact .refl s

theorem State.cgPermitFalls_guards (hs : s.slot i = .cg g') : s.Guards (s.cgPermitFalls i g) := by
  unfold State.cgPermitFalls; split
  · exact .refl s
  · exact State.cgEnter_guards hs _

theorem State.caPost_guards (s : State) (i : Fin 4) (arrived : CaState) : s.Guards (s.caPost i arrived) := by
  refine (Guards.refl s).onCa fun a ha => ?_
  have posts (k : CaSlot) : s.Guards (s.setSlot i (.ca k)) := State.setCa_guards ha k
  cases arrived <;> exact (posts _).of_eq rfl

theorem State.cgPost_guards (s : State) (i : Fin 4) (arrived : CgState) : s.Guards (s.cgPost i arrived) := by
  refine (Guards.refl s).onCg fun g hg => ?_
  have posts (k : CgSlot) : s.Guards (s.setSlot i (.cg k)) := State.setCg_guards hg k
  simp only
  split <;> exact (posts _).of_eq rfl

end

/-! ## The alarm unit -/

/-- R142: the report of the trip cause to one slot. -/
def State.tripReport (s : State) (i : Fin 4) : State :=
  match s.slot i with
  | .cf c => s.cfTrip i c
  | .di d => s.diTrip i d
  | _ => s

theorem State.evalTrips_eq (s : State) : s.evalTrips = s.eachSlot State.tripReport := rfl

theorem State.tripReport_guards (s : State) (i : Fin 4) : s.Guards (s.tripReport i) := by
  unfold State.tripReport; split
  · exact State.cfTrip_guards ‹_›
  · exact State.diTrip_guards ‹_›
  · exact .refl s

theorem State.tripReport_onlySlot (s : State) (i : Fin 4) : s.onlySlot i (s.tripReport i) := by
  unfold State.tripReport; split
  · exact cfTrip_onlySlot s i _
  · exact diTrip_onlySlot s i _
  · exact onlySlot_refl i s

theorem State.evalTrips_guards (s : State) : s.Guards s.evalTrips := Guards.eachSlot State.tripReport_guards

/-- R82, R105: the report of the trip cause stops a feed slot. -/
theorem State.tripReport_stops (on : s.alarms.observed = true) (i : Fin 4) : ((s.tripReport i).slot i).feedRuns = false := by
  have cause : s.tripCause i = true := by simp [State.tripCause, on]
  unfold State.tripReport
  split
  · rename_i c hc
    rw [State.cfTrip, if_pos cause]
    split
    · rw [cfStop_slot]; rfl
    · rw [hc]; exact Bool.eq_false_iff.2 ‹_›
  · rename_i d hd
    rw [State.diTrip, if_pos cause]
    split
    · refine (State.interrupt_guards _ i).idle ?_ i ?_
      · exact (congrArg Still.observed (s.diStop_still i d .tripped)).trans on
      · rw [diStop_slot]; rfl
    · rw [hd]; exact Bool.eq_false_iff.2 ‹_›
  · cases hu : s.slot i <;> simp_all [SlotUnit.feedRuns]

/-- R82, R105: while the trip line is observed asserted the report of the trip cause stops every feed slot. -/
theorem State.evalTrips_stops (on : s.alarms.observed = true) (i : Fin 4) : (s.evalTrips.slot i).feedRuns = false := by
  obtain ⟨t, ht, -, stands⟩ := eachSlot_meets (Q := fun t => t.alarms.observed = true)
    (fun t i h => (t.tripReport_guards i).observed.trans h) State.tripReport_onlySlot on i
  rw [State.evalTrips_eq, stands]
  exact State.tripReport_stops ht i

/-- The alarm unit's work holds the interlock on. -/
theorem alarmWork_guards : AlarmWork State.Guards where
  trans := .trans
  quiet h k := .of_feedPart (State.feedPart_of_still h k)
  trips := State.evalTrips_guards

theorem State.settle_guards (s : State) : s.Guards s.settle := alarmWork_guards.settle s

theorem State.Guards.settle (h : r.Guards s) : r.Guards s.settle := h.trans s.settle_guards

/-! ## The control update and the entry to RUN (R35 to R37, R39) -/

theorem State.feedPassage_guards (s : State) (i : Fin 4) : s.Guards (s.feedPassage i) := by
  unfold State.feedPassage; split
  · exact State.cfPassage_guards ‹_›
  · exact State.diPassage_guards ‹_›
  · exact .refl s

theorem State.feedHandOn_guards (s : State) (i : Fin 4) : s.Guards (s.feedHandOn i) := by
  unfold State.feedHandOn; split
  · exact (s.cfHandOn_guards i).settle
  · exact (s.diHandOn_guards i).settle
  · exact .refl s

theorem State.coolerAct_guards (s : State) (i : Fin 4) : s.Guards (s.coolerAct i) := by
  unfold State.coolerAct; split
  · exact (s.caUpdate_guards i).settle
  · exact (s.cgUpdate_guards i).settle
  · exact .refl s

theorem State.withRecord_feedPart (s : State) (i : Fin 4) : (s.withRecord i).feedPart = (s.slot i).feedPart := by
  unfold State.withRecord; split <;> simp_all [SlotUnit.feedPart, SlotUnit.feedOutput, SlotUnit.feedRuns, DiSlot.runs]

theorem State.allocate_feedPart (s : State) : s.allocate.feedPart = s.feedPart :=
  congrArg (s.alarms.observed, ·, fun o => (s.latch o).feedPart)
    (funext fun i => (congrArg SlotUnit.feedPart (s.allocate_slot i)).trans (s.withRecord_feedPart i))

@[simp] theorem SlotUnit.withPublish_feedPart (u : SlotUnit) (n : Nat) : (u.withPublish n).feedPart = u.feedPart := by
  cases u <;> rfl

theorem State.slotPublish_guards (noticed left : Vector Bool 4) (s : State) (i : Fin 4) :
    s.Guards (s.slotPublish noticed left i) := by
  unfold State.slotPublish
  split
  · exact .refl s
  extract_lets k s1
  have counts : s.Guards s1 := State.setSlot_guards_same (SlotUnit.withPublish_feedPart _ _)
  split
  · exact counts.of_eq (State.publish_feedPart i)
  · exact counts

theorem State.slotPost_guards (arrived : Vector SlotUnit 4) (s : State) (i : Fin 4) : s.Guards (s.slotPost arrived i) := by
  unfold State.slotPost; split
  · exact (s.cfPostAmounts_guards i).trans (State.cfPostTime_guards _ i _)
  · exact s.diPostTime_guards i _
  · exact s.caPost_guards i _
  · exact s.cgPost_guards i _
  · exact .refl s

end

end Sys2Proof.Machine
end

section
/-! PROOFS. The station's other blocks, beside the trip interlock: the link, the floor picture, the accountant, the report store and
the service port leave what it reads, and the alarm unit's work on a notice holds it on. -/

namespace Sys2Proof.Machine

theorem foldl_feedPart {α : Type} (f : State → α → State) (h : ∀ s a, (f s a).feedPart = s.feedPart) (l : List α) (s : State) :
    (l.foldl f s).feedPart = s.feedPart := by
  induction l generalizing s with
  | nil => rfl
  | cons a l ih => rw [List.foldl_cons, ih, h]

section
variable (s : State)

/-! ## The report store's work and the frames' ends -/

@[simp] theorem State.reach_feedPart (n : Nat) : (s.reach n).feedPart = s.feedPart := rfl

@[simp] theorem State.runStore_feedPart : s.runStore.feedPart = s.feedPart :=
  State.feedPart_of_still s.runStore_plant s.runStore_still

@[simp] theorem State.append_feedPart (type : RecordType) (rest : List Byte) (b : Binding) (p q : Bool) :
    (s.append type rest b p q).feedPart = s.feedPart :=
  State.feedPart_of_still (s.append_plant type rest b p q) (s.append_still type rest b p q)

@[simp] theorem State.requestStep_feedPart (f : Option (Fin 32)) (st : FileStep) : (s.requestStep f st).feedPart = s.feedPart :=
  State.feedPart_of_still (s.requestStep_plant f st) (s.requestStep_still f st)

@[simp] theorem State.clearStoreFull_feedPart : s.clearStoreFull.feedPart = s.feedPart :=
  State.feedPart_of_still s.clearStoreFull_plant s.clearStoreFull_still

@[simp] theorem State.lateSummary_feedPart (f : Option (Fin 32)) : (s.lateSummary f).feedPart = s.feedPart :=
  State.feedPart_of_still (s.lateSummary_plant f) (s.lateSummary_still f)

@[simp] theorem State.dequeue_feedPart (gone : QRecord → Bool) : (s.dequeue gone).feedPart = s.feedPart :=
  State.feedPart_of_still (s.dequeue_plant gone) (s.dequeue_still gone)

@[simp] theorem State.dropRecord_feedPart (r : QRecord) : (s.dropRecord r).feedPart = s.feedPart :=
  State.feedPart_of_still (s.dropRecord_plant r) (s.dropRecord_still r)

@[simp] theorem State.kickAccess_feedPart : s.kickAccess.feedPart = s.feedPart :=
  State.feedPart_of_still s.kickAccess_plant s.kickAccess_still

@[simp] theorem State.handBack_feedPart (n : Notice) : (s.handBack n).feedPart = s.feedPart :=
  State.feedPart_of_still (s.handBack_plant n) (s.handBack_still n)

@[simp] theorem State.room_feedPart : s.room.feedPart = s.feedPart := State.feedPart_of_still s.room_plant s.room_still

/-! ## The link (R14 to R18) -/

@[simp] theorem State.mediumBusy_feedPart : s.mediumBusy.feedPart = s.feedPart := by
  unfold State.mediumBusy; split <;> rfl

@[simp] theorem State.mediumQuiet_feedPart : s.mediumQuiet.feedPart = s.feedPart := by
  unfold State.mediumQuiet; split
  · rfl
  · exact State.kickAccess_feedPart _

@[simp] theorem State.countSlot_feedPart : s.countSlot.feedPart = s.feedPart := by
  unfold State.countSlot; repeat' split
  all_goals rfl

@[simp] theorem State.setSilence_feedPart : s.setSilence.feedPart = s.feedPart := by
  obtain ⟨_, h⟩ := s.setSilence_frame; rw [h]; rfl

@[simp] theorem State.clearSilence_feedPart : s.clearSilence.feedPart = s.feedPart := by
  obtain ⟨_, h⟩ := s.clearSilence_frame; rw [h]; rfl

@[simp] theorem State.setExhaustion_feedPart : s.setExhaustion.feedPart = s.feedPart := by
  unfold State.setExhaustion; simp only; repeat' split
  all_goals rfl

@[simp] theorem State.clearExhaustion_feedPart : s.clearExhaustion.feedPart = s.feedPart := by
  unfold State.clearExhaustion; simp only; repeat' split
  all_goals rfl

@[simp] theorem State.discard_feedPart (f : QFrame) : (s.discard f).feedPart = s.feedPart := by
  unfold State.discard
  extract_lets s1 n l s2 s3
  have h3 : s3.feedPart = s.feedPart := by
    simp only [s3]; split
    · exact s2.setExhaustion_feedPart
    · rfl
  rw [State.room_feedPart, State.handBack_feedPart, h3]

@[simp] theorem State.afterSending_feedPart : s.afterSending.feedPart = s.feedPart := rfl

@[simp] theorem State.collide_feedPart : s.collide.feedPart = s.feedPart := by
  unfold State.collide
  split
  · rfl
  · rw [State.afterSending_feedPart]
    split
    · exact State.discard_feedPart _ _
    · rfl

@[simp] theorem State.sent_feedPart : s.sent.feedPart = s.feedPart := by
  unfold State.sent
  split
  · rfl
  · rw [State.afterSending_feedPart, State.room_feedPart, State.clearExhaustion_feedPart]
    rfl

@[simp] theorem State.ownOrigin_feedPart : s.ownOrigin.feedPart = s.feedPart := by
  obtain ⟨_, h⟩ := s.ownOrigin_frame; rw [h]; rfl

/-! ## The floor picture (R21 to R37) -/

@[simp] theorem State.startLossHold_feedPart : s.startLossHold.feedPart = s.feedPart := by
  unfold State.startLossHold; repeat' split
  all_goals rfl

@[simp] theorem State.removePeer_feedPart (e : PeerEntry) : (s.removePeer e).feedPart = s.feedPart := by
  unfold State.removePeer
  extract_lets rest q s1 s2 s3
  have h3 : s3.feedPart = s.feedPart := by
    simp only [s3]; split
    · exact s2.startLossHold_feedPart
    · rfl
  split
  · exact h3
  · exact h3

@[simp] theorem State.createPeer_feedPart (e : PeerEntry) : (s.createPeer e).feedPart = s.feedPart := by
  unfold State.createPeer; simp only; repeat' split
  all_goals rfl

@[simp] theorem State.useNotice_feedPart (e : PeerEntry) : (s.useNotice e).feedPart = s.feedPart := by
  unfold State.useNotice; simp only; repeat' split
  · simp
  · rfl
  · exact State.startLossHold_feedPart _
  · rfl

@[simp] theorem State.heatNotice_feedPart (a b c d e f g : Nat) (h k : Bool) :
    (s.heatNotice a b c d e f g h k).feedPart = s.feedPart := by
  unfold State.heatNotice; split
  · rfl
  · simp

@[simp] theorem State.airNotice_feedPart (a b c : Nat) (h k : Bool) (d e f g : Nat) :
    (s.airNotice a b c h k d e f g).feedPart = s.feedPart := by
  unfold State.airNotice; split
  · rfl
  · simp

@[simp] theorem State.signOfLife_feedPart (n : Nat) : (s.signOfLife n).feedPart = s.feedPart := by
  unfold State.signOfLife; simp only; repeat' split
  all_goals rfl

@[simp] theorem State.restartRefresh_feedPart : s.restartRefresh.feedPart = s.feedPart := by
  unfold State.restartRefresh; repeat' split
  all_goals rfl

@[simp] theorem State.adopt_feedPart (c : FiringOrder) (b : Bool) : (s.adopt c b).feedPart = s.feedPart := by
  unfold State.adopt
  extract_lets q s1 s2 s3
  have h2 : s2.feedPart = s.feedPart := State.append_feedPart _ _ _ _ _ _
  have h3 : s3.feedPart = s2.feedPart := by simp only [s3]; split <;> rfl
  rw [State.restartRefresh_feedPart, h3, h2]

@[simp] theorem State.considerOrder_feedPart (c : FiringOrder) (b : Bool) : (s.considerOrder c b).feedPart = s.feedPart := by
  unfold State.considerOrder; split
  · simp
  · rfl
  · rfl

@[simp] theorem State.orderNotice_feedPart (n : Nat) (e : Serial) (t : Nat) : (s.orderNotice n e t).feedPart = s.feedPart := by
  unfold State.orderNotice; split
  · rfl
  · simp

@[simp] theorem State.originate_feedPart : s.originate.feedPart = s.feedPart := by
  unfold State.originate; repeat' split
  · rfl
  · simp
  · rfl

@[simp] theorem State.refreshOrder_feedPart : s.refreshOrder.feedPart = s.feedPart := by
  unfold State.refreshOrder; split <;> simp

/-! ## The shift accountant (R150 to R161) -/

@[simp] theorem State.countShift_feedPart (f : ShiftCounters → ShiftCounters) : (s.countShift f).feedPart = s.feedPart := rfl

@[simp] theorem State.takeNumber_feedPart (n : Serial) : (s.takeNumber n).feedPart = s.feedPart := rfl

@[simp] theorem State.openShiftFile_feedPart (n : Serial) : (s.openShiftFile n).feedPart = s.feedPart :=
  State.feedPart_of_still (t := (s.openFile n).1) (s.openFile_plant n) (s.openFile_still n)

@[simp] theorem State.offerRestart_feedPart (b : Bool) : (s.offerRestart b).feedPart = s.feedPart := by
  unfold State.offerRestart; split
  · exact State.append_feedPart _ _ _ _ _ _
  · rfl

@[simp] theorem State.endCollation_feedPart (b : Bool) : (s.endCollation b).feedPart = s.feedPart :=
  s.requestStep_feedPart _ (.closed b)

@[simp] theorem State.beginCollation_feedPart (n : Serial) : (s.beginCollation n).feedPart = s.feedPart :=
  s.requestStep_feedPart _ .collating

@[simp] theorem State.summaryNotice_feedPart (o : Nat) (p : List Byte) : (s.summaryNotice o p).feedPart = s.feedPart := by
  have late (f : Option (Fin 32)) : (s.summaryLate f).feedPart = s.feedPart := State.lateSummary_feedPart _ _
  unfold State.summaryNotice; simp only; repeat' split
  · exact late _
  · rfl
  · exact State.append_feedPart _ _ _ _ _ _
  · exact late _
  · exact late _

@[simp] theorem State.firstShift_feedPart (n : Serial) : (s.firstShift n).feedPart = s.feedPart := by simp [State.firstShift]

@[simp] theorem State.closeShift_feedPart (n : Serial) (r : Nat) (m : Serial) : (s.closeShift n r m).feedPart = s.feedPart := by
  unfold State.closeShift
  extract_lets bound sat payload s1 s2 s3 s4 s5 s6
  have h2 : s2.feedPart = s.feedPart := (State.append_feedPart _ _ _ _ _ _).trans (State.append_feedPart _ _ _ _ _ _)
  have h3 : s3.feedPart = s2.feedPart := by
    simp only [s3]; split
    · exact s2.endCollation_feedPart true
    · rfl
  have h5 : s5.feedPart = s3.feedPart := (State.offer_feedPart _).trans (s3.beginCollation_feedPart n)
  exact (s6.openShiftFile_feedPart m).trans (h5.trans (h3.trans h2))

@[simp] theorem State.closeByTimer_feedPart : s.closeByTimer.feedPart = s.feedPart := by
  unfold State.closeByTimer; split <;> simp

@[simp] theorem State.markNotice_feedPart (m : Serial) : (s.markNotice m).feedPart = s.feedPart := by
  unfold State.markNotice; repeat' split
  · simp
  · simp
  · rfl
  · rfl

/-! ## The control update beside the slots (R36, R58 to R61, R111, R147, R152) -/

@[simp] theorem State.slew_feedPart : s.slew.feedPart = s.feedPart := by
  unfold State.slew; split <;> rfl

@[simp] theorem State.updateEstimate_feedPart : s.updateEstimate.feedPart = s.feedPart := by
  unfold State.updateEstimate; repeat' split
  all_goals rfl

@[simp] theorem State.endMarks_feedPart : s.endMarks.feedPart = s.feedPart := rfl

@[simp] theorem State.postAlarmTime_feedPart (b : Bool) : (s.postAlarmTime b).feedPart = s.feedPart := by
  unfold State.postAlarmTime; split <;> rfl

@[simp] theorem State.postCooler_feedPart : s.postCooler.feedPart = s.feedPart := by
  unfold State.postCooler; split <;> rfl

@[simp] theorem State.fireSupervision_feedPart : s.fireSupervision.feedPart = s.feedPart := by
  have run (t : State) (c : AlarmCode) (b : Bool) (n : Nat) (r : Option Nat) : (t.fireRun c b n r).1.feedPart = t.feedPart := by
    unfold State.fireRun; simp only; split <;> rfl
  unfold State.fireSupervision; repeat' split
  · rfl
  · exact (run _ _ _ _ _).trans (run _ _ _ _ _)
  · unfold State.ceaseFire; simp only; repeat' split
    all_goals rfl

/-! ## The service port and the completions of the engine (R163 to R173, R180 to R183) -/

@[simp] theorem State.closeWindow_feedPart : s.closeWindow.feedPart = s.feedPart := by
  unfold State.closeWindow; split
  · exact State.runStore_feedPart _
  · rfl

@[simp] theorem State.portKick_feedPart : s.portKick.feedPart = s.feedPart := by
  unfold State.portKick; repeat' split
  · rfl
  · exact State.runStore_feedPart _
  · rfl

@[simp] theorem State.openWindow_feedPart (e m : Byte) (o : BitVec 24) : (s.openWindow e m o).feedPart = s.feedPart := by
  unfold State.openWindow; simp only; repeat' split
  · exact (State.portKick_feedPart _).trans s.closeWindow_feedPart
  · exact s.closeWindow_feedPart
  · exact s.closeWindow_feedPart

@[simp] theorem State.readEnds_feedPart : s.readEnds.feedPart = s.feedPart := by
  unfold State.readEnds; simp only; repeat' split
  · rfl
  · exact State.runStore_feedPart _
  · exact State.runStore_feedPart _
  · rfl

@[simp] theorem State.unitMissed_feedPart (w : ReadWindow) : (s.unitMissed w).feedPart = s.feedPart := by
  unfold State.unitMissed; simp only; split
  · rfl
  · exact State.runStore_feedPart _

@[simp] theorem State.unitDone_feedPart : s.unitDone.feedPart = s.feedPart := by
  unfold State.unitDone; simp only; repeat' split
  · rfl
  · rfl
  · exact State.portKick_feedPart _
  · exact State.portKick_feedPart _
  · simp

@[simp] theorem State.unitCut_feedPart : s.unitCut.feedPart = s.feedPart := by
  unfold State.unitCut; repeat' split
  all_goals simp

theorem State.units_feedPart (n r : Nat) (s : State) (out : List Byte) : (State.units n r s out).1.feedPart = s.feedPart := by
  induction n generalizing s out with
  | zero => unfold State.units; split <;> simp
  | succ n ih => unfold State.units; rw [ih, State.unitDone_feedPart]

@[simp] theorem State.streamUnits_feedPart (n : Nat) : (s.streamUnits n).feedPart = s.feedPart := by
  have h := State.units_feedPart (n / 17) (n % 17) s []
  unfold State.streamUnits
  generalize State.units _ _ _ _ = r at h ⊢
  exact h

@[simp] theorem State.answer_feedPart (f : State → List Byte) : (s.answer f).feedPart = s.feedPart := s.closeWindow_feedPart

@[simp] theorem State.areaCommand_feedPart (r : Option Result) (op : AreaOp) : (s.areaCommand r op).feedPart = s.feedPart := by
  unfold State.areaCommand; simp only; repeat' split
  all_goals exact s.closeWindow_feedPart

@[simp] theorem State.flushQueue_feedPart : s.flushQueue.feedPart = s.feedPart :=
  (State.runStore_feedPart _).trans s.closeWindow_feedPart

@[simp] theorem State.tearArea_feedPart (op : AreaOp) : (s.tearArea op).feedPart = s.feedPart := by
  cases op <;> simp only [State.tearArea, State.useFree, State.feedPart, State.slot, State.latch]

@[simp] theorem State.areaDone_feedPart (r : Result) : (s.areaDone r).feedPart = s.feedPart := by
  unfold State.areaDone; rw [State.runStore_feedPart]; rfl

@[simp] theorem State.configCompletes_feedPart (b : Bool) : (s.configCompletes b).feedPart = s.feedPart := by
  unfold State.configCompletes; repeat' split
  · exact (State.areaDone_feedPart _ _).trans rfl
  · simp
  · exact (State.areaDone_feedPart _ _).trans rfl
  · simp
  · rfl

@[simp] theorem State.otpProgrammed_feedPart (b : Fin 16) (d : List Byte) (l : Bool) :
    (s.otpProgrammed b d l).1.feedPart = s.feedPart := rfl

@[simp] theorem State.freezeWritten_feedPart (b : Bool) : (s.freezeWritten b).feedPart = s.feedPart := by
  have h : (if b then s.otpProgrammed 15 freezeMark true else (s.tearArea .freeze, false)).1.feedPart = s.feedPart := by
    split
    · exact s.otpProgrammed_feedPart _ _ _
    · exact s.tearArea_feedPart _
  unfold State.freezeWritten
  generalize (if b then s.otpProgrammed 15 freezeMark true else (s.tearArea .freeze, false)) = r at h
  exact (State.areaDone_feedPart _ _).trans h

@[simp] theorem State.otpCompletes_feedPart (b : Bool) : (s.otpCompletes b).feedPart = s.feedPart := by
  unfold State.otpCompletes; repeat' split
  · exact (State.areaDone_feedPart _ _).trans (s.otpProgrammed_feedPart _ _ _)
  all_goals simp

@[simp] theorem State.programPasses_feedPart (op : ProgramOp) : (s.programPasses op).feedPart = s.feedPart :=
  State.dequeue_feedPart _ _

@[simp] theorem State.programFails_feedPart (op : ProgramOp) : (s.programFails op).feedPart = s.feedPart :=
  foldl_feedPart _ (fun t r => by simp) _ _

@[simp] theorem State.programEnds_feedPart (b : Bool) : (s.programEnds b).feedPart = s.feedPart := by
  unfold State.programEnds; split
  · rfl
  · rw [State.runStore_feedPart]; split
    · exact State.programPasses_feedPart _ _
    · exact State.programFails_feedPart _ _

@[simp] theorem State.eraseEnds_feedPart (b : Bool) : (s.eraseEnds b).feedPart = s.feedPart := by
  unfold State.eraseEnds; repeat' split
  · rfl
  · rfl
  · exact (State.runStore_feedPart _).trans (State.clearStoreFull_feedPart _)
  · exact State.runStore_feedPart _

/-! ## What the receive side hands on (R3 to R7) -/

theorem State.handOn_guards (o : Nat) (n : Notice) : s.Guards (s.handOn o n) := by
  cases n with
  | alarm => exact alarmWork_guards.alarmNotice s _ _ _ _ _ _
  | ack => exact alarmWork_guards.ackNotice s _ _ _ _ _
  | _ => exact .of_feedPart (by simp [State.handOn])

theorem State.accept_guards (o : Nat) (n : Notice) : s.Guards (s.accept o n) := by
  unfold State.accept
  extract_lets s1 l s2
  have heard : s2.feedPart = s.feedPart := by
    simp only [s2]; split
    · exact State.clearSilence_feedPart _
    · rfl
  exact ((Guards.of_feedPart heard).of_eq (s2.signOfLife_feedPart o)).trans (State.handOn_guards _ o n)

theorem State.checkFrame_guards (o k : Nat) (p : List Byte) (ok : Bool) : s.Guards (s.checkFrame o k p ok) := by
  unfold State.checkFrame
  repeat' split
  · exact .of_feedPart rfl
  · exact .of_feedPart rfl
  · exact .of_feedPart rfl
  · exact .of_feedPart rfl
  · exact .of_feedPart s.ownOrigin_feedPart
  · exact .refl s
  · exact s.accept_guards _ _

theorem State.hearBurst_guards (b : List Byte) : s.Guards (s.hearBurst b) := by
  have busy : s.Guards s.mediumBusy := .of_feedPart s.mediumBusy_feedPart
  unfold State.hearBurst
  simp only
  repeat' split
  · exact .refl s
  · exact busy
  · exact busy.of_eq rfl
  · exact busy.of_eq rfl
  · exact busy.trans (State.checkFrame_guards _ _ _ _ _)

theorem State.goAbsent_guards (n : Nat) : s.Guards (s.goAbsent n) := by
  unfold State.goAbsent
  extract_lets mark q s1 s2
  have removed : s2.feedPart = s.feedPart := foldl_feedPart _ (fun t e => t.removePeer_feedPart e) _ s1
  exact ((Guards.of_feedPart removed).settle).trans (alarmWork_guards.orphan _ n)

/-! ## The inputs (R63 to R67) -/

theorem State.inputLost_guards (k : Fin 16) : s.Guards (s.inputLost k) := by
  unfold State.inputLost
  repeat' split
  · exact .refl s
  · exact State.cfInputFailed_guards ‹_›
  · exact .refl s
  · exact State.caEnter_guards ‹_› _
  · exact .refl s
  · exact State.cgEnter_guards ‹_› _
  · exact .refl s
  · exact .refl s

theorem State.inputBack_guards (k : Fin 16) : s.Guards (s.inputBack k) := by
  unfold State.inputBack
  repeat' split
  · exact .refl s
  · exact State.cfLeaveFault_guards ‹_›
  · exact .refl s
  · exact State.caRelease_guards _ _
  · exact .refl s
  · exact State.cgEnter_guards ‹_› _
  · exact .refl s
  · exact .refl s

theorem State.takeWord_guards (k : Fin 16) (raw : Nat) (ok : Bool) : s.Guards (s.takeWord k raw ok) := by
  unfold State.takeWord
  repeat' split
  · exact .of_feedPart rfl
  · unfold State.takeItem
    extract_lets c w x s1
    have counted : s.Guards s1 := .of_feedPart rfl
    split
    · exact counted
    · exact counted.trans (State.itemWeighed_guards _ _ _)
  · unfold State.takeSample
    extract_lets c was s1 s2
    have sampled : s2.feedPart = s.feedPart := by simp only [s2]; split <;> rfl
    split
    · exact .of_feedPart sampled
    · exact (Guards.of_feedPart sampled).trans (s2.inputBack_guards k)
  · exact .of_feedPart rfl

theorem State.holdExpires_guards (k : Fin 16) : s.Guards (s.holdExpires k) := by
  unfold State.holdExpires
  extract_lets x c isFirst s1 s2
  have failed : s2.feedPart = s.feedPart := by simp only [s2]; split <;> rfl
  exact (Guards.of_feedPart failed).trans (s2.inputLost_guards k)

/-! ## The control update and the entry to RUN -/

theorem State.controlSlots_guards : s.Guards s.controlSlots := by
  unfold State.controlSlots
  extract_lets s1 q s2
  have begins : s.Guards { s1 with channels := { s1.channels with updating := true } } :=
    .of_feedPart (s.slew.updateEstimate_feedPart.trans s.slew_feedPart)
  have passes : s.Guards s2 := begins.trans (Guards.eachSlot State.feedPassage_guards)
  exact ((passes.of_eq s2.allocate_feedPart).trans (Guards.eachSlot State.feedHandOn_guards)).trans
    (Guards.eachSlot State.coolerAct_guards)

theorem State.controlAccounts_guards (arrived : Vector SlotUnit 4) (b : Bool) : s.Guards (s.controlAccounts arrived b) := by
  have publishes : s.Guards s.publishAll :=
    (Guards.of_feedPart s.endMarks_feedPart).trans (Guards.eachSlot (State.slotPublish_guards _ _))
  unfold State.controlAccounts
  split
  · exact (publishes.trans (Guards.eachSlot (State.slotPost_guards arrived))).of_eq (by simp)
  · exact .of_feedPart s.endMarks_feedPart

theorem State.control_guards : s.Guards s.control :=
  ((s.controlSlots_guards.of_eq (State.fireSupervision_feedPart _)).settle).trans (State.controlAccounts_guards _ _ _)

theorem State.slotToRun_guards (i : Fin 4) : s.Guards (s.slotToRun i) := by
  have faults : s.Guards (s.faultAtRun i) := by
    unfold State.faultAtRun
    repeat' split
    · exact State.cfInputFailed_guards ‹_›
    · exact .refl s
    · exact State.diStop_guards ‹_› (by decide)
    · exact .refl s
    · exact .refl s
  have counts (t : State) : t.Guards (t.firstNotice i) := by
    unfold State.firstNotice
    extract_lets t1
    have zero : t.Guards t1 := State.setSlot_guards_same (SlotUnit.withPublish_feedPart _ _)
    split
    · exact zero
    · exact zero.of_eq (State.publish_feedPart i)
  exact faults.trans (counts _)

theorem State.enterRun_guards : s.Guards s.enterRun := by
  unfold State.enterRun
  extract_lets p q s1 s3 s4 desk s5
  have runs : s.Guards s1.kickAccess := .of_feedPart s1.kickAccess_feedPart
  have slots : s.Guards s3 := (runs.trans (Guards.eachSlot State.slotToRun_guards)).of_eq (State.endMarks_feedPart _)
  have asks : s.Guards s4 := by
    simp only [s4]; split
    · exact slots.ask _
    · exact slots
  have refreshes : s.Guards s5 := by
    simp only [s5]; split
    · exact asks.of_eq s4.refreshOrder_feedPart
    · exact asks
  split
  · exact refreshes.of_eq (s5.firstShift_feedPart _)
  · exact refreshes

/-! ## The output stage (R70 to R72) -/

theorem State.feedPart_ext {t : State} (channels : t.channels = s.channels) (observed : t.alarms.observed = s.alarms.observed)
    (latch : ∀ o, (t.latch o).feedPart = (s.latch o).feedPart) : t.feedPart = s.feedPart :=
  Prod.ext observed (Prod.ext (funext fun i => congrArg SlotUnit.feedPart (State.slot_of_channels channels i)) (funext latch))

@[simp] theorem State.kickStream_feedPart : s.kickStream.feedPart = s.feedPart := by
  refine s.feedPart_ext s.kickStream_slots (congrArg Still.observed s.kickStream_still) fun o => ?_
  obtain ⟨_, h⟩ := s.kickStream_latch_pending o
  rw [h]; rfl

end

end Sys2Proof.Machine
end

section
/-! PROOFS. The trip interlock across every command and every step (R71, R82, R105). -/

namespace Sys2Proof.Machine

section
variable {s t : State}

/-! ## What the trip line's event does (R71, R82, R102, R105) -/

theorem State.writeLatch_feed (s : State) (o p : Fin 8) : ((s.writeLatch o 0).latch p).kind = (s.latch p).kind ∧
    ((s.writeLatch o 0).latch p).owner = (s.latch p).owner ∧ ((s.writeLatch o 0).latch p).carried = (s.latch p).carried ∧
    ((s.writeLatch o 0).latch p).count = if p = o then 0 else (s.latch p).count := by
  by_cases e : p = o
  · subst e
    obtain ⟨b, h⟩ := s.writeLatch_latch_self p 0
    simp [h]
  · obtain ⟨b, h⟩ := s.writeLatch_latch_ne 0 e
    simp [h, e]

/-- R71: the FEED latches are written 0 one after another, and nothing else of what the interlock reads changes. -/
def State.zeroFeed (s : State) (o : Fin 8) : State := if (s.latch o).kind = .feed then s.writeLatch o 0 else s

theorem State.zeroFeeds_eq (s : State) : s.zeroFeeds = outputList.foldl State.zeroFeed s := rfl

theorem State.zeroFeed_channels (s : State) (o : Fin 8) : (s.zeroFeed o).channels = s.channels := by
  unfold State.zeroFeed; split <;> simp

theorem State.zeroFeed_latch (s : State) (o p : Fin 8) : ((s.zeroFeed o).latch p).kind = (s.latch p).kind ∧
    ((s.zeroFeed o).latch p).owner = (s.latch p).owner ∧ ((s.zeroFeed o).latch p).carried = (s.latch p).carried ∧
    ((s.latch p).kind = .feed →
      ((s.zeroFeed o).latch p).count = if p = o then 0 else (s.latch p).count) := by
  unfold State.zeroFeed
  split
  · obtain ⟨kind, owner, carried, count⟩ := s.writeLatch_feed o p
    exact ⟨kind, owner, carried, fun _ => count⟩
  · rename_i h
    refine ⟨rfl, rfl, rfl, fun hp => ?_⟩
    rw [if_neg (fun e : p = o => h (e ▸ hp))]

theorem foldl_zeroFeed (os : List (Fin 8)) (s : State) : (os.foldl State.zeroFeed s).channels = s.channels ∧
    ∀ p, ((os.foldl State.zeroFeed s).latch p).kind = (s.latch p).kind ∧
      ((os.foldl State.zeroFeed s).latch p).owner = (s.latch p).owner ∧
      ((os.foldl State.zeroFeed s).latch p).carried = (s.latch p).carried ∧
      ((s.latch p).kind = .feed →
        ((os.foldl State.zeroFeed s).latch p).count = if p ∈ os then 0 else (s.latch p).count) := by
  induction os generalizing s with
  | nil => simp
  | cons o os ih =>
    obtain ⟨channels, latch⟩ := ih (s.zeroFeed o)
    refine ⟨channels.trans (s.zeroFeed_channels o), fun p => ?_⟩
    obtain ⟨kind, owner, carried, count⟩ := latch p
    obtain ⟨kind', owner', carried', count'⟩ := s.zeroFeed_latch o p
    refine ⟨kind.trans kind', owner.trans owner', carried.trans carried', fun hp => ?_⟩
    rw [List.foldl_cons, count (kind'.trans hp), count' hp]
    by_cases h : p = o <;> simp [h]

theorem mem_outputList (o : Fin 8) : o ∈ outputList := by revert o; decide

/-- R71: as the trip line is observed asserted every FEED latch goes to 0. -/
theorem State.zeroFeeds_latch (s : State) (p : Fin 8) : (s.zeroFeeds.latch p).kind = (s.latch p).kind ∧
    (s.zeroFeeds.latch p).owner = (s.latch p).owner ∧ (s.zeroFeeds.latch p).carried = (s.latch p).carried ∧
    ((s.latch p).kind = .feed → (s.zeroFeeds.latch p).count = 0) := by
  obtain ⟨-, latch⟩ := foldl_zeroFeed outputList s
  obtain ⟨kind, owner, carried, count⟩ := latch p
  exact ⟨kind, owner, carried, fun hp => (count hp).trans (if_pos (mem_outputList p))⟩

theorem State.zeroFeeds_slot (s : State) (i : Fin 4) : s.zeroFeeds.slot i = s.slot i :=
  State.slot_of_channels (foldl_zeroFeed outputList s).1 i

theorem observed_of_still (h : t.still = s.still) : t.alarms.observed = s.alarms.observed := congrArg Still.observed h

theorem State.zeroFeeds_still (s : State) : s.zeroFeeds.still = s.still :=
  foldl_still _ (fun t o => by split <;> simp) _ _

theorem State.zeroFeeds_follow (h : s.latchesFollow) : s.zeroFeeds.latchesFollow := by
  intro o ho
  obtain ⟨kind, owner, carried, count⟩ := s.zeroFeeds_latch o
  have hk := kind.symm.trans ho
  obtain ⟨free, -, some⟩ := h o hk
  rw [owner, carried, count hk]
  refine ⟨free, fun _ => rfl, fun i hi => ⟨?_, fun _ => rfl⟩⟩
  rw [State.zeroFeeds_slot]
  exact (some i hi).1

/-- R144: the trip line is observed at a level. -/
def State.observing (s : State) (asserted : Bool) : State := { s with alarms := { s.alarms with observed := asserted } }

/-- R71, R82, R102, R105, R142: what a newly observed level of the trip line does to the slots and the FEED latches. -/
def State.takeTrip (s : State) (asserted : Bool) : State :=
  if asserted then (s.observing asserted).zeroFeeds.evalTrips.eachSlot State.interrupt else (s.observing asserted).evalTrips

theorem State.takeTrip_true (s : State) :
    s.takeTrip true = (s.observing true).zeroFeeds.evalTrips.eachSlot State.interrupt := if_pos rfl

theorem State.takeTrip_false (s : State) : s.takeTrip false = (s.observing false).evalTrips := if_neg (by decide)

/-- R71: as the interlock reads it, the trip line's assertion puts the FEED latches to 0 and goes on from there. -/
theorem State.takeTrip_true_guards (s : State) : (s.observing true).zeroFeeds.Guards (s.takeTrip true) := by
  rw [State.takeTrip_true]
  exact (State.evalTrips_guards _).trans (Guards.eachSlot State.interrupt_guards)

theorem State.takeTrip_false_guards (s : State) : (s.observing false).Guards (s.takeTrip false) := by
  rw [State.takeTrip_false]
  exact State.evalTrips_guards _

theorem State.observing_zeroFeeds_observed (s : State) (b : Bool) : (s.observing b).zeroFeeds.alarms.observed = b :=
  observed_of_still (s.observing b).zeroFeeds_still

theorem State.takeTrip_observed (s : State) (asserted : Bool) : (s.takeTrip asserted).alarms.observed = asserted := by
  cases asserted
  · exact s.takeTrip_false_guards.observed
  · exact s.takeTrip_true_guards.observed.trans (s.observing_zeroFeeds_observed true)

theorem State.takeTrip_follow (asserted : Bool) (h : s.latchesFollow) : (s.takeTrip asserted).latchesFollow := by
  have observes (b : Bool) : (s.observing b).latchesFollow := h
  cases asserted
  · exact s.takeTrip_false_guards.follow (observes false)
  · exact s.takeTrip_true_guards.follow (State.zeroFeeds_follow (observes true))

/-- R71, R82, R105: once the trip line has been taken the interlock stands, whatever stood before. -/
theorem State.takeTrip_interlocked (s : State) (asserted : Bool) : (s.takeTrip asserted).interlocked := by
  intro on
  have asserts : asserted = true := (s.takeTrip_observed asserted).symm.trans on
  subst asserts
  have hu := s.observing_zeroFeeds_observed true
  refine ⟨fun o ho => ?_, fun i => ?_⟩
  · obtain ⟨kind, count⟩ := s.takeTrip_true_guards.zero hu o ho
    obtain ⟨kind', -, -, zero⟩ := (s.observing true).zeroFeeds_latch o
    exact count (zero (kind'.symm.trans kind))
  · rw [State.takeTrip_true]
    exact (Guards.eachSlot State.interrupt_guards).idle ((State.evalTrips_guards _).observed.trans hu) i
      (State.evalTrips_stops hu i)

/-! ## A start (R20, R69, R70, R73, R74, R176) -/

/-- R70, R73: as a start leaves the FEED latches: each free, at 0, and with the slot whose output it is. -/
def State.feedsAtStart (s : State) : Prop :=
  ∀ o : Fin 8, (s.latch o).kind = .feed → (s.latch o).carried = false ∧ (s.latch o).count = 0 ∧
    ∀ i, (s.latch o).owner = some i → (s.slot i).feedOutput = some o

/-- R71, R144: what a start leaves of the interlock: the FEED latches follow their slots, and the trip line has not been observed
asserted. -/
def State.startsReleased (s : State) : Prop := s.latchesFollow ∧ s.alarms.observed = false

theorem State.Guards.startsReleased (h : s.Guards t) (k : s.startsReleased) : t.startsReleased :=
  ⟨h.follow k.1, h.observed.trans k.2⟩

theorem State.feedsAtStart.follow (h : s.feedsAtStart) : s.latchesFollow := fun o ho => by
  obtain ⟨carried, count, owned⟩ := h o ho
  exact ⟨carried, fun _ => count, fun i hi => ⟨owned i hi, fun _ => count⟩⟩

theorem State.calibrate_kind (nv : Nonvolatile) (o : Fin 8) (l : Latch) : (nv.calibrate o l).kind = l.kind := by
  unfold Nonvolatile.calibrate; simp only; split <;> rfl

/-- R73, R74: after the OTP read a FEED latch holds 0, is not carried and is no slot's. -/
theorem State.readOtp_feed (s : State) (line : Bool) (o : Fin 8) (h : ((s.readOtp line).latch o).kind = .feed) :
    ((s.readOtp line).latch o).carried = false ∧ ((s.readOtp line).latch o).count = 0 ∧
      ((s.readOtp line).latch o).owner = none := by
  obtain ⟨b, read⟩ := s.readOtp_latch line o
  rw [read] at h ⊢
  have mark : (s.nv.calibrate o {}).feedMark = true := by
    by_contra unmarked
    simp [Nonvolatile.startLatch, unmarked] at h
  simp [Nonvolatile.startLatch, mark]

theorem State.outputOwner_output {o : Fin 8} {i : Fin 4} (h : s.outputOwner o = some i) : (s.slot i).output = some o := by
  have := List.find?_some h
  simpa using this

/-- R70: an output that the configuration makes FEED is a CF slot's. -/
theorem State.outputKind_feed {o : Fin 8} {i : Fin 4} (hk : s.outputKind o = .feed) (h : s.outputOwner o = some i) :
    (s.slot i).feedOutput = some o := by
  have out := State.outputOwner_output h
  simp only [State.outputKind, h] at hk
  cases hu : s.slot i <;> simp_all [SlotUnit.output, SlotUnit.isCooler, SlotUnit.feedOutput]

theorem State.mapOutput_channels (s : State) (o : Fin 8) : (s.mapOutput o).channels = s.channels := by
  rw [State.mapOutput_eq]; split
  · rfl
  · rw [State.writeLatch_slots]; rfl

theorem State.mapOutput_feedPart_ne (s : State) {o p : Fin 8} (h : p ≠ o) :
    ((s.mapOutput o).latch p).feedPart = (s.latch p).feedPart := by
  have named : (s.named o).latch p = s.latch p := s.setLatch_latch_ne o p _ h
  rw [State.mapOutput_eq]; split
  · rw [named]
  · obtain ⟨b, written⟩ := (s.named o).writeLatch_latch_ne 0 h
    rw [written, named]; rfl

theorem State.mapOutput_feedsAtStart (o : Fin 8) (h : s.feedsAtStart) : (s.mapOutput o).feedsAtStart := by
  intro p hp
  have slot (i : Fin 4) : (s.mapOutput o).slot i = s.slot i := State.slot_of_channels (s.mapOutput_channels o) i
  by_cases e : p = o
  · subst e
    obtain ⟨b, mapped⟩ := s.mapOutput_latch p
    rw [mapped] at hp ⊢
    have kind : s.outputKind p = .feed := hp
    refine ⟨by simp [kind], by simp [kind], fun i hi => ?_⟩
    rw [slot]
    exact State.outputKind_feed kind hi
  · obtain ⟨kind, owner, count, carried⟩ : _ ∧ _ ∧ _ ∧ _ := by simpa [Latch.feedPart] using s.mapOutput_feedPart_ne e
    obtain ⟨free, zero, owned⟩ := h p (kind.symm.trans hp)
    refine ⟨carried.trans free, count.trans zero, fun i hi => ?_⟩
    rw [slot]
    exact owned i (owner.symm.trans hi)

theorem State.mapOutput_observed (s : State) (o : Fin 8) : (s.mapOutput o).alarms.observed = s.alarms.observed := by
  rw [State.mapOutput_eq]; split
  · rfl
  · exact congrArg Still.observed ((s.named o).writeLatch_still o 0)

theorem foldl_mapOutput (os : List (Fin 8)) (h : s.feedsAtStart) : (os.foldl State.mapOutput s).feedsAtStart ∧
    (os.foldl State.mapOutput s).alarms.observed = s.alarms.observed := by
  induction os generalizing s with
  | nil => exact ⟨h, rfl⟩
  | cons o os ih =>
    obtain ⟨feeds, observed⟩ := ih (State.mapOutput_feedsAtStart o h)
    exact ⟨feeds, observed.trans (s.mapOutput_observed o)⟩

theorem foldl_mapOutput_starts (os : List (Fin 8)) (h : s.feedsAtStart) (released : s.alarms.observed = false) :
    (os.foldl State.mapOutput s).startsReleased :=
  ⟨(foldl_mapOutput os h).1.follow, (foldl_mapOutput os h).2.trans released⟩

/-- R70, R73: the image's outputs are mapped on latches that no slot has. -/
theorem State.acceptImage_starts (img : List Byte) (h : s.feedsAtStart)
    (free : ∀ o, (s.latch o).kind = .feed → (s.latch o).owner = none) (released : s.alarms.observed = false) :
    (s.acceptImage img).startsReleased := by
  unfold State.acceptImage
  extract_lets g slots heat fields chan s1 chan' s2 s3 s4
  have h2 : s2.feedsAtStart := fun o ho => by
    obtain ⟨carried, count, -⟩ := h o ho
    exact ⟨carried, count, fun i hi => absurd ((free o ho).symm.trans hi) (by simp)⟩
  have o2 : s2.alarms.observed = false := released
  have h3 : s3.startsReleased := foldl_mapOutput_starts outputList h2 o2
  have asks : s3.Guards s4 := by
    simp only [s4]; split
    · exact (Guards.refl s3).ask _
    · exact .refl s3
  exact asks.settle.startsReleased h3

theorem State.startScan_feedPart (s : State) : s.startScan.feedPart = s.feedPart := by
  have repairs (t : State) (e : Fin 32) : (t.repairChain e).feedPart = t.feedPart := by
    unfold State.repairChain; simp only; repeat' split
    all_goals rfl
  have orphans (c : List (Fin 128)) (t : State) (g : Fin 128) : (State.orphanGranule c t g).feedPart = t.feedPart := by
    unfold State.orphanGranule; split <;> rfl
  have scans (t : State) (e : Fin 32) : (t.scanFile e).feedPart = t.feedPart := by
    unfold State.scanFile; simp only; repeat' split
    all_goals rfl
  unfold State.startScan
  simp only
  rw [foldl_feedPart _ scans, foldl_feedPart _ (orphans _), foldl_feedPart _ repairs]

theorem State.takeReport_feedPart (s : State) (r : FileReport) : (s.takeReport r).feedPart = s.feedPart := by
  have resumes (e : Fin 32) (n : Nat) : (s.resumeShift e n).feedPart = s.feedPart := by
    unfold State.resumeShift; simp only; rw [State.offerRestart_feedPart]
    exact State.feedPart_of_still (t := s.resumeFile e n) (s.resumeFile_plant e n) (s.resumeFile_still e n)
  unfold State.takeReport; repeat' split
  all_goals simp [resumes]

theorem State.enterNext_feedPart (s : State) : s.enterNext.feedPart = s.feedPart := by
  unfold State.enterNext; simp only; repeat' split
  · exact State.runStore_feedPart _
  · exact State.runStore_feedPart _
  · exact (State.runStore_feedPart _).trans (foldl_feedPart _ State.takeReport_feedPart _ _)

/-- R71, R73, R74: after a start the FEED latches follow their slots, and the trip line has not been observed. -/
theorem State.start_starts (s : State) (line strap : Bool) : (s.start line strap).startsReleased := by
  unfold State.start
  extract_lets s1 a s2 s3
  have o2 : s2.alarms.observed = false := observed_of_still (State.kickStream_still _)
  have read (o : Fin 8) (ho : (s2.latch o).kind = .feed) := State.readOtp_feed _ line o ho
  have h2 : s2.feedsAtStart := fun o ho => by
    obtain ⟨carried, count, owner⟩ := read o ho
    exact ⟨carried, count, fun i hi => absurd (owner.symm.trans hi) (by simp)⟩
  have h3 : s3.startsReleased := by
    simp only [s3]; split
    · exact ⟨h2.follow, o2⟩
    · exact State.acceptImage_starts _ h2 (fun o ho => (read o ho).2.2) o2
  have scans : s3.Guards s3.startScan.enterNext.settle :=
    ((Guards.of_feedPart (s3.startScan_feedPart)).of_eq (State.enterNext_feedPart _)).settle
  exact scans.startsReleased h3

end

end Sys2Proof.Machine
end

section
/-! PROOFS. The trip interlock across every command and every step. -/

namespace Sys2Proof.Machine

/-- Between two states the trip interlock and the rule of the FEED latches are kept (R71, R82, R105). -/
structure State.Holds (s t : State) : Prop where
  interlocked : s.interlocked → t.interlocked
  feedLatches : s.feedLatches → t.feedLatches

section
variable {s t : State}

namespace State.Holds

theorem refl (s : State) : s.Holds s := ⟨id, id⟩

/-- What the interlock holds on over, from a state that is live. -/
theorem of_guards (h : s.Guards t) (live : s.live = true) : s.Holds t :=
  ⟨h.interlocked, fun k => State.feedLatches_iff.2 fun _ => h.follow (State.feedLatches_iff.1 k live)⟩

theorem of_startsReleased (h : t.startsReleased) : s.Holds t :=
  ⟨fun _ on => absurd (on.symm.trans h.2) (by decide), fun _ => State.feedLatches_iff.2 fun _ => h.1⟩

/-- A part that is held in reset or without supply. -/
theorem of_dead (dead : t.live = false) (released : t.alarms.observed = false) : s.Holds t :=
  ⟨fun _ on => absurd (on.symm.trans released) (by decide), fun _ live => absurd (live.symm.trans dead) (by decide)⟩

end State.Holds

/-- A command's meaning keeps the trip interlock and the rule of the FEED latches. -/
def KeepsInterlock (c : Instr) : Prop := ∀ s : State, ∃ t, exec c s = .next t ∧ s.Holds t

/-- A command that is an event which holds the interlock on. -/
theorem interlock_of_event {c : Instr} {f : State → State} (hc : ∀ s, exec c s = .next (s.takeEvent f))
    (h : ∀ t : State, t.Guards (f t)) : KeepsInterlock c := by
  refine fun s => ⟨_, hc s, ?_⟩
  cases live : s.live
  · rw [State.takeEvent_dead f live]
    exact .refl s
  · rw [State.takeEvent_live f live]
    have begun : s.Guards s.begun := .of_feedPart rfl
    exact .of_guards (begun.trans (h s.begun)).settle live

/-- A command that is an event which the interlock does not read. -/
theorem interlock_of_feedPart {c : Instr} {f : State → State} (hc : ∀ s, exec c s = .next (s.takeEvent f))
    (h : ∀ t : State, (f t).feedPart = t.feedPart) : KeepsInterlock c :=
  interlock_of_event hc fun t => .of_feedPart (h t)

/-! ### The starts, RESET and the supply (R20, R163, R176) -/

theorem keepsInterlock_powerOnStart (b : Bool) : KeepsInterlock (.powerOnStart b) :=
  fun _ => ⟨_, rfl, .of_startsReleased (State.start_starts _ _ _)⟩

theorem keepsInterlock_resetAsserted : KeepsInterlock .resetAsserted := by
  refine fun s => ⟨_, rfl, ?_⟩
  split
  · exact .of_dead (by simp [State.live, State.assertReset]) rfl
  · exact .refl s

theorem keepsInterlock_lineRestart (b : Bool) : KeepsInterlock (.lineRestart b) := by
  refine fun s => ⟨_, rfl, ?_⟩
  split
  · exact .of_startsReleased (State.start_starts _ _ _)
  · exact .refl s

theorem keepsInterlock_supplyFailure (w : Option Nat) : KeepsInterlock (.supplyFailure w) := by
  refine fun s => ⟨_, rfl, ?_⟩
  split
  · exact .of_dead rfl rfl
  · exact .refl s

theorem keepsInterlock_listenTimerExpiry : KeepsInterlock .listenTimerExpiry := by
  refine interlock_of_event (fun _ => rfl) fun t => ?_
  split
  · exact .refl t
  · exact .trans (.of_feedPart (t.reach_feedPart _)) (State.enterRun_guards _)

/-! ### The link, the floor picture, the alarm unit and the accountant -/

theorem keepsInterlock_duplicateTimerExpiry : KeepsInterlock .duplicateTimerExpiry := by
  refine interlock_of_feedPart (fun _ => rfl) fun t => ?_
  split <;> rfl

theorem keepsInterlock_silenceTimerExpiry : KeepsInterlock .silenceTimerExpiry := by
  refine interlock_of_feedPart (fun _ => rfl) fun t => ?_
  split
  · rfl
  · exact State.setSilence_feedPart _

theorem keepsInterlock_collision : KeepsInterlock .collision := by
  refine interlock_of_feedPart (fun _ => rfl) fun t => ?_
  split
  · exact t.collide_feedPart
  · rfl

theorem keepsInterlock_sentCleanly : KeepsInterlock .sentCleanly := by
  refine interlock_of_feedPart (fun _ => rfl) fun t => ?_
  split
  · exact t.sent_feedPart
  · rfl

theorem keepsInterlock_staleTimeExpiry (n ch : Nat) : KeepsInterlock (.staleTimeExpiry n ch) := by
  refine interlock_of_feedPart (fun _ => rfl) fun t => ?_
  repeat' split
  all_goals rfl

theorem keepsInterlock_lostTimeExpiry (n ch : Nat) : KeepsInterlock (.lostTimeExpiry n ch) := by
  refine interlock_of_feedPart (fun _ => rfl) fun t => ?_
  split
  · rfl
  · exact State.removePeer_feedPart _ _

theorem keepsInterlock_lossHoldExpiry : KeepsInterlock .lossHoldExpiry := by
  refine interlock_of_feedPart (fun _ => rfl) fun t => ?_
  split <;> rfl

theorem keepsInterlock_stationAbsent (n : Nat) : KeepsInterlock (.stationAbsent n) := by
  refine interlock_of_event (fun _ => rfl) fun t => ?_
  repeat' split
  · exact .refl t
  · exact .trans (.of_feedPart (t.reach_feedPart _)) (State.goAbsent_guards _ n)
  · exact .refl t

theorem keepsInterlock_take : KeepsInterlock .take := by
  refine interlock_of_feedPart (fun _ => rfl) fun t => ?_
  repeat' split
  · rfl
  · exact t.originate_feedPart
  · rfl
  · rfl

theorem keepsInterlock_refreshTimerExpiry : KeepsInterlock .refreshTimerExpiry := by
  refine interlock_of_feedPart (fun _ => rfl) fun t => ?_
  split
  · rfl
  · exact State.refreshOrder_feedPart _

/-- R71, R102, R142, R144: the event of the trip line, with what it does to the slots and the latches under a name. -/
theorem execTripLineObserved_eq (asserted : Bool) (s : State) : exec (.tripLineObserved asserted) s =
    .next (s.takeEvent fun t =>
      if t.alarms.observed = asserted then t
      else if (t.takeTrip asserted).cfg.isNone then t.takeTrip asserted
      else (t.takeTrip asserted).ask (if asserted then .raise .floorTrip 255 else .clear .floorTrip 255)) := rfl

theorem keepsInterlock_tripLineObserved (b : Bool) : KeepsInterlock (.tripLineObserved b) := by
  refine fun s => ⟨_, execTripLineObserved_eq b s, ?_⟩
  cases live : s.live
  · rw [State.takeEvent_dead _ live]
    exact .refl s
  rw [State.takeEvent_live _ live]
  show s.Holds (State.settle (if s.begun.alarms.observed = b then s.begun else
    if (s.begun.takeTrip b).cfg.isNone = true then s.begun.takeTrip b else (s.begun.takeTrip b).ask _))
  by_cases same : s.begun.alarms.observed = b
  · rw [if_pos same]
    exact .of_guards (State.Guards.settle (s := s.begun) (.of_feedPart rfl)) live
  rw [if_neg same]
  have after {u : State} (h : (s.begun.takeTrip b).Guards u) : s.Holds u.settle :=
    ⟨fun _ => h.settle.interlocked (s.begun.takeTrip_interlocked b), fun k => State.feedLatches_iff.2 fun _ =>
      h.settle.follow (State.takeTrip_follow (s := s.begun) b (State.feedLatches_iff.1 k live))⟩
  split
  · exact after (.refl _)
  · exact after ((State.Guards.refl _).ask _)

theorem keepsInterlock_silence : KeepsInterlock .silence := by
  refine interlock_of_feedPart (fun _ => rfl) fun t => ?_
  split <;> rfl

theorem keepsInterlock_shiftTimerExpiry : KeepsInterlock .shiftTimerExpiry := by
  refine interlock_of_feedPart (fun _ => rfl) fun t => ?_
  split
  · rfl
  · exact State.closeByTimer_feedPart _

theorem keepsInterlock_collationTimerExpiry : KeepsInterlock .collationTimerExpiry := by
  refine interlock_of_feedPart (fun _ => rfl) fun t => ?_
  split
  · rfl
  · exact State.endCollation_feedPart _ _

/-! ### The control update, the inputs and the slots -/

theorem keepsInterlock_controlUpdate : KeepsInterlock .controlUpdate := by
  refine interlock_of_event (fun _ => rfl) fun t => ?_
  split
  · exact .refl t
  · rename_i due _
    unfold State.updateExpires
    extract_lets s1 h
    have restarts : t.Guards { s1 with heat := { s1.heat with updateDue := some (due + s1.period) } } := .of_feedPart rfl
    exact restarts.trans (State.control_guards _)

theorem keepsInterlock_startTimerExpiry (i : Fin 4) : KeepsInterlock (.startTimerExpiry i) := by
  refine interlock_of_event (fun _ => rfl) fun t => (State.Guards.refl t).onCf fun c hc => ?_
  split
  · exact .refl t
  · rename_i due _
    have reached : t.Guards (t.reach due) := .of_feedPart rfl
    have hc' : (t.reach due).slot i = .cf c := hc
    simp only
    split
    · exact (reached.trans (State.cfStop_guards hc' rfl)).ask _
    · exact reached.trans (State.setCf_guards hc')

theorem keepsInterlock_freshTimeExpiry (k : Fin 16) : KeepsInterlock (.freshTimeExpiry k) := by
  refine interlock_of_feedPart (fun _ => rfl) fun t => ?_
  split <;> rfl

theorem keepsInterlock_holdTimeExpiry (k : Fin 16) : KeepsInterlock (.holdTimeExpiry k) := by
  refine interlock_of_event (fun _ => rfl) fun t => ?_
  split
  · exact .refl t
  · exact .trans (.of_feedPart (t.reach_feedPart _)) (State.holdExpires_guards _ k)

theorem keepsInterlock_runPermitEdge (i : Fin 4) (b : Bool) : KeepsInterlock (.runPermitEdge i b) := by
  refine interlock_of_event (fun _ => rfl) fun t => ?_
  split
  · exact .refl t
  extract_lets p u
  have taken : t.Guards u := .of_feedPart rfl
  repeat' split
  · exact taken
  · exact taken
  · exact taken.trans (State.cfPermitFalls_guards ‹_›)
  · exact taken.trans (State.diPermitFalls_guards ‹_›)
  · exact taken.trans (State.caPermitFalls_guards ‹_›)
  · exact taken.trans (State.cgPermitFalls_guards ‹_›)

theorem keepsInterlock_initialLevel (line : InputLine) (b : Bool) : KeepsInterlock (.initialLevel line b) := by
  refine interlock_of_event (fun _ => rfl) fun t => ?_
  repeat' split
  case h_1 => exact .of_feedPart rfl
  case h_2 => exact t.confirm_guards _ _ b
  all_goals exact .refl t

theorem keepsInterlock_driveRefreshTimerExpiry : KeepsInterlock .driveRefreshTimerExpiry := by
  have marked (t : State) : t.markAllPending.feedPart = t.feedPart := by
    refine t.feedPart_ext rfl rfl fun o => ?_
    simp [State.markAllPending, State.latch, Latch.feedPart]
  refine interlock_of_feedPart (fun _ => rfl) fun t => ?_
  split
  · rfl
  · rename_i due _
    exact (State.kickStream_feedPart _).trans (marked (t.reach due))

theorem keepsInterlock_phaseTimerExpiry (i : Fin 4) : KeepsInterlock (.phaseTimerExpiry i) := by
  refine interlock_of_event (fun _ => rfl) fun t => (State.Guards.refl t).onDi fun d hd => ?_
  split
  · exact .refl t
  · rename_i due _
    have hd' : (t.reach due).slot i = .di d := hd
    exact .trans (.of_feedPart (t.reach_feedPart due)) (State.gateJam_guards hd')

theorem keepsInterlock_jamClear (i : Fin 4) : KeepsInterlock (.jamClear i) := by
  refine interlock_of_event (fun _ => rfl) fun t => (State.Guards.refl t).onDi fun d hd => ?_
  split
  · exact (State.setDi_guards hd).trans (State.gateGo_guards _ i)
  · exact .refl t

theorem keepsInterlock_divertTimerExpiry (i : Fin 4) : KeepsInterlock (.divertTimerExpiry i) := by
  refine interlock_of_event (fun _ => rfl) fun t => (State.Guards.refl t).onDi fun d hd => ?_
  split
  · exact .refl t
  · rename_i due _
    have hd' : (t.reach due).slot i = .di d := hd
    exact .trans (.of_feedPart (t.reach_feedPart due)) (State.setDi_guards hd')

end

/-! ### Every command and every step -/

/-- R71, R82, R105: every command keeps the trip interlock and the rule of the FEED latches. -/
theorem exec_keepsInterlock : ∀ c : Instr, KeepsInterlock c
  | .powerOnStart b => keepsInterlock_powerOnStart b
  | .resetAsserted => keepsInterlock_resetAsserted
  | .lineRestart b => keepsInterlock_lineRestart b
  | .listenTimerExpiry => keepsInterlock_listenTimerExpiry
  | .frameReceived b => interlock_of_event (fun _ => rfl) fun t => t.hearBurst_guards b
  | .frameCutShort b => interlock_of_event (fun _ => rfl) fun t => t.hearBurst_guards b
  | .duplicateTimerExpiry => keepsInterlock_duplicateTimerExpiry
  | .silenceTimerExpiry => keepsInterlock_silenceTimerExpiry
  | .quietGap => interlock_of_feedPart (fun _ => rfl) fun t => t.mediumQuiet_feedPart
  | .backoffSlot => interlock_of_feedPart (fun _ => rfl) fun t => t.countSlot_feedPart
  | .defer => interlock_of_feedPart (fun _ => rfl) fun t => t.mediumBusy_feedPart
  | .collision => keepsInterlock_collision
  | .sentCleanly => keepsInterlock_sentCleanly
  | .staleTimeExpiry n ch => keepsInterlock_staleTimeExpiry n ch
  | .lostTimeExpiry n ch => keepsInterlock_lostTimeExpiry n ch
  | .lossHoldExpiry => keepsInterlock_lossHoldExpiry
  | .stationAbsent n => keepsInterlock_stationAbsent n
  | .take => keepsInterlock_take
  | .refreshTimerExpiry => keepsInterlock_refreshTimerExpiry
  | .controlUpdate => keepsInterlock_controlUpdate
  | .startTimerExpiry i => keepsInterlock_startTimerExpiry i
  | .sampleWord k n b => interlock_of_event (fun _ => rfl) fun t => t.takeWord_guards k n.toNat b
  | .freshTimeExpiry k => keepsInterlock_freshTimeExpiry k
  | .holdTimeExpiry k => keepsInterlock_holdTimeExpiry k
  | .runPermitEdge i b => keepsInterlock_runPermitEdge i b
  | .gateConfirmation i w b => interlock_of_event (fun _ => rfl) fun t => t.confirm_guards i w b
  | .phaseTimerExpiry i => keepsInterlock_phaseTimerExpiry i
  | .jamClear i => keepsInterlock_jamClear i
  | .divertTimerExpiry i => keepsInterlock_divertTimerExpiry i
  | .driveWord => interlock_of_feedPart (fun _ => rfl) fun _ => State.kickStream_feedPart _
  | .driveRefreshTimerExpiry => keepsInterlock_driveRefreshTimerExpiry
  | .tripLineObserved b => keepsInterlock_tripLineObserved b
  | .acknowledge => interlock_of_event (fun _ => rfl) fun t => alarmWork_guards.panelAckAll t
  | .silence => keepsInterlock_silence
  | .shiftTimerExpiry => keepsInterlock_shiftTimerExpiry
  | .collationTimerExpiry => keepsInterlock_collationTimerExpiry
  | .programCompletion b => interlock_of_feedPart (fun _ => rfl) fun t => t.programEnds_feedPart b
  | .eraseCompletion b => interlock_of_feedPart (fun _ => rfl) fun t => t.eraseEnds_feedPart b
  | .status => interlock_of_feedPart (fun _ => rfl) fun _ => rfl
  | .ident => interlock_of_feedPart (fun _ => rfl) fun t => t.answer_feedPart _
  | .dirEntry _ => interlock_of_feedPart (fun _ => rfl) fun t => t.answer_feedPart _
  | .pictureEntry _ => interlock_of_feedPart (fun _ => rfl) fun t => t.answer_feedPart _
  | .alarmEntry _ => interlock_of_feedPart (fun _ => rfl) fun t => t.answer_feedPart _
  | .channelView _ => interlock_of_feedPart (fun _ => rfl) fun t => t.answer_feedPart _
  | .window e m o => interlock_of_feedPart (fun _ => rfl) fun t => t.openWindow_feedPart e m o
  | .stream n => interlock_of_feedPart (fun _ => rfl) fun t => t.streamUnits_feedPart n
  | .prefetchReadDone => interlock_of_feedPart (fun _ => rfl) fun t => t.readEnds_feedPart
  | .writeEnable => interlock_of_feedPart (fun _ => rfl) fun t => t.closeWindow_feedPart
  | .configWrite _ _ _ => interlock_of_feedPart (fun _ => rfl) fun t => t.areaCommand_feedPart _ _
  | .configErase => interlock_of_feedPart (fun _ => rfl) fun t => t.areaCommand_feedPart _ _
  | .configOperationCompletion b => interlock_of_feedPart (fun _ => rfl) fun t => t.configCompletes_feedPart b
  | .otpWrite _ _ _ => interlock_of_feedPart (fun _ => rfl) fun t => t.areaCommand_feedPart _ _
  | .freeze => interlock_of_feedPart (fun _ => rfl) fun t => t.areaCommand_feedPart _ _
  | .otpProgramCompletion b => interlock_of_feedPart (fun _ => rfl) fun t => t.otpCompletes_feedPart b
  | .flush => interlock_of_feedPart (fun _ => rfl) fun t => t.flushQueue_feedPart
  | .commandDiscarded => interlock_of_feedPart (fun _ => rfl) fun _ => rfl
  | .unknownCommand _ => interlock_of_feedPart (fun _ => rfl) fun _ => rfl
  | .supplyFailure w => keepsInterlock_supplyFailure w
  | .initialLevel l b => keepsInterlock_initialLevel l b

theorem idle_holds (s : State) : ∃ t, idle s = .next t ∧ s.Holds t := by
  unfold idle
  repeat' split
  · exact ⟨_, rfl, fun h => h, fun h => h⟩
  · exact exec_keepsInterlock _ s
  · obtain ⟨t, ht, holds⟩ := exec_keepsInterlock _ (s.useFree 1)
    exact ⟨t, ht, holds.interlocked, holds.feedLatches⟩
  · exact ⟨_, rfl, .refl s⟩

/-- R71, R82, R105: every step keeps the trip interlock and the rule of the FEED latches. -/
theorem step_holds {s t : State} (h : step s = .next t) : s.Holds t := by
  have steps : ∃ t, step s = .next t ∧ s.Holds t := by
    unfold step
    split
    · rename_i c rest _
      obtain ⟨t, ht, holds⟩ := exec_keepsInterlock c { s with pending := rest }
      exact ⟨t, ht, holds.interlocked, holds.feedLatches⟩
    · exact idle_holds s
  obtain ⟨u, hu, holds⟩ := steps
  cases hu.symm.trans h
  exact holds

/-- R71, R97: no gate cycle starts for a stopped slot, nor while the trip line is observed asserted. -/
theorem State.tryStart_held {s : State} {i : Fin 4} {d : DiSlot} (hd : s.slot i = .di d)
    (h : d.runs = false ∨ s.alarms.observed = true) : s.tryStart i = s := by
  have held : s.gateMayStart d = false := by rcases h with h | h <;> simp [State.gateMayStart, h]
  simp [State.tryStart, State.onDi, hd, held]

/-- Settles O12: the two invariants by what every step holds on, the last clause from the test of a gate's start. -/
theorem tripInterlockHolds : Obligations.TripInterlockHolds :=
  ⟨fun _ _ h k => (step_holds k).interlocked h, fun _ _ h k => (step_holds k).feedLatches h,
    fun _ _ _ hd h => State.tryStart_held hd h⟩

end Sys2Proof.Machine
end

section
/-! PROOFS. The samples: parity, scaling and freshness (R63 to R65). -/

namespace Sys2Proof.Machine

/-! ## Scaling (R64) -/

/-- R64: halves go to the greater whole unit. -/
theorem scaled_eq_iff (lo hi : Int) (raw : Nat) (v : Int) : scaled lo hi raw = v ↔
    65535 * (2 * v - 1) ≤ 2 * (lo * 65535 + raw * (hi - lo)) ∧ 2 * (lo * 65535 + raw * (hi - lo)) < 65535 * (2 * v + 1) := by
  unfold scaled roundRatio
  generalize lo * 65535 + raw * (hi - lo) = n
  omega

theorem clampInt_bounds (v : Int) : -1000000 ≤ clampInt (-1000000) 1000000 v ∧ clampInt (-1000000) 1000000 v ≤ 1000000 := by
  unfold clampInt; omega

theorem takeCfg_input (img : List Byte) (k : Fin 16) : (takeCfg img).inputs[k] = takeInput img (takeUnits img) k :=
  Vector.getElem_ofFn k.isLt

/-! ## A word of the sample stream (R63, R65) -/

section
variable (s : State) (k : Fin 16) (raw : Nat)

/-- R65: the input with a sample taken of it. -/
def State.freshInput (s : State) (k : Fin 16) (raw : Nat) : Input :=
  (s.input k).sampled (scaled (s.inputCfg k).lo (s.inputCfg k).hi raw) (s.now + (s.inputCfg k).freshTime)

/-- R65: the station with a sample taken, before its consumer learns of it. -/
def State.sampled (s : State) (k : Fin 16) (raw : Nat) : State := s.setInput k (s.freshInput k raw)

theorem State.takeWord_timed (h : (s.inputCfg k).role.timed = true) : s.takeWord k raw true = s.takeSample k raw := by
  unfold State.takeWord
  cases hr : (s.inputCfg k).role <;> simp_all [Role.timed]

/-- R63, R65: beside the input itself a sample leaves the still parts alone. -/
theorem State.takeSample_still : (s.takeSample k raw).still = (s.sampled k raw).still := by
  unfold State.takeSample
  extract_lets c was s1 s2
  have asked : s2.still = (s.sampled k raw).still := by simp only [s2]; split <;> rfl
  split
  · exact asked
  · exact (s2.inputBack_still k).trans asked

end

section
variable {s : State}

/-- R63, R65: what a sample of an input with a freshness state leaves of the station's still parts. -/
theorem exec_sampleWord_still (k : Fin 16) (raw : BitVec 16) (h : s.calm) (timed : (s.inputCfg k).role.timed = true) :
    ∃ t, exec (.sampleWord k raw true) s = .next t ∧ t.still = (s.sampled k raw.toNat).still := by
  have word : s.begun.takeWord k raw.toNat true = s.begun.takeSample k raw.toNat := State.takeWord_timed _ _ _ timed
  refine ⟨_, congrArg Host.Outcome.next (State.takeEvent_live _ h.1), (State.settle_still _).trans ?_⟩
  exact (congrArg State.still word).trans ((s.begun.takeSample_still k raw.toNat).trans rfl)

theorem fields_of_still {t : State} (h : t.still = s.still) : t.fields = s.fields := congrArg Still.fields h

theorem input_of_still {t : State} (h : t.still = s.still) (j : Fin 16) : t.input j = s.input j :=
  congrArg (fun f => f.inputs[j]) (fields_of_still h)

theorem State.sampled_input (s : State) (k : Fin 16) (raw : Nat) : (s.sampled k raw).input k = s.freshInput k raw :=
  s.setInput_input_self k _

end

/-- Settles O40: the rounding is one division, and a sample leaves its value in the still parts of the state. -/
theorem scalingIsExact : Obligations.ScalingIsExact := by
  refine ⟨scaled_eq_iff, fun s k raw h timed => ?_, fun img k => ?_⟩
  · obtain ⟨t, taken, still⟩ := exec_sampleWord_still k raw h timed
    exact ⟨t, taken, congrArg Input.value ((input_of_still still k).trans (s.sampled_input k raw.toNat))⟩
  · rw [takeCfg_input]
    obtain ⟨l1, l2⟩ := clampInt_bounds (signed3 (at3 img (inputAt k)))
    obtain ⟨h1, h2⟩ := clampInt_bounds (signed3 (at3 img (inputAt k + 3)))
    exact ⟨l1, l2, h1, h2⟩

/-- Settles O41: a word in error changes its counter alone, and a sample its input alone. -/
theorem samplesAreTaken : Obligations.SamplesAreTaken := by
  refine ⟨fun s k raw h => ⟨?_, fun unmapped => ?_⟩, fun s k raw h timed => ?_⟩
  · exact congrArg Host.Outcome.next (State.takeEvent_calm _ h h.2)
  · have role : (s.begun.inputCfg k).role = .unmapped := unmapped
    have word : s.begun.takeWord k raw.toNat true =
        { s.begun with fields := { s.fields with unmappedSamples := up16 s.fields.unmappedSamples } } := by
      simp only [State.takeWord, role]; rfl
    exact congrArg Host.Outcome.next ((State.takeEvent_calm _ h (by rw [word]; exact h.2)).trans word)
  · obtain ⟨t, taken, still⟩ := exec_sampleWord_still k raw h timed
    have fields := fields_of_still still
    refine ⟨t, taken, (input_of_still still k).trans (s.sampled_input k raw.toNat), fun j hj => ?_, ?_, ?_,
      congrArg Still.picture still, congrArg Still.nv still⟩
    · exact (input_of_still still j).trans (s.setInput_input_ne k j _ hj)
    · rw [fields]; rfl
    · rw [fields]; rfl

end Sys2Proof.Machine
end

section
/-! PROOFS. The drive stream and its refresh (R72). -/

namespace Sys2Proof.Machine

section
variable {s : State} {o : Fin 8}

/-- R72: a free stream with no pending latch stays free. -/
theorem State.kickStream_none (hs : s.output.streaming = true) (hw : s.output.word = none) (h : s.lowestPending = none) :
    s.kickStream = s := by
  simp [State.kickStream, hs, hw, h]

/-- R72: on a free stream a word begins for the lowest pending latch. -/
theorem State.kickStream_some (hs : s.output.streaming = true) (hw : s.output.word = none) (h : s.lowestPending = some o) :
    s.kickStream = { s with output := { s.output with
      word := some (o, (s.latch o).count), latches := s.output.latches.set o { s.latch o with pending := false } } } := by
  simp [State.kickStream, hs, hw, h, State.setLatch]

@[simp] theorem State.kickStream_agenda (s : State) : s.kickStream.agenda = s.agenda := by
  unfold State.kickStream; repeat' split
  all_goals rfl

theorem State.kickStream_refreshDue (s : State) : s.kickStream.output.refreshDue = s.output.refreshDue := by
  unfold State.kickStream; repeat' split
  all_goals rfl

theorem exec_driveWord (h : s.calm) :
    exec .driveWord s = .next (State.kickStream { s.begun with output := { s.output with word := none } }) :=
  congrArg Host.Outcome.next (State.takeEvent_calm _ h ((State.kickStream_agenda _).trans h.2))

/-- R72: the refresh timer expires: every latch is pending. -/
def State.refreshed (s : State) (due : Nat) : State :=
  { (s.reach due).markAllPending with output := { (s.reach due).markAllPending.output with refreshDue := some (due + 200) } }

theorem State.refreshed_latch (s : State) (due : Nat) (o : Fin 8) :
    (s.refreshed due).latch o = { s.latch o with pending := true } := by
  simp [State.refreshed, State.markAllPending, State.latch, State.reach]

theorem exec_driveRefreshTimerExpiry (h : s.calm) {due : Nat} (hd : s.output.refreshDue = some due) :
    exec .driveRefreshTimerExpiry s = .next (s.begun.refreshed due).kickStream := by
  have event (t : State) (ht : t.output.refreshDue = some due) :
      (match t.output.refreshDue with
        | none => t
        | some due => (t.refreshed due).kickStream) = (t.refreshed due).kickStream := by rw [ht]
  refine congrArg Host.Outcome.next ((State.takeEvent_calm _ h ?_).trans (event s.begun hd))
  exact (congrArg State.agenda (event s.begun hd)).trans ((State.kickStream_agenda _).trans h.2)

end

/-- Settles O45: the word from what the free stream does, the refresh from the latches it marks before the stream goes on. -/
theorem driveWordsFollowTheLatches : Obligations.DriveWordsFollowTheLatches := by
  refine fun s h => ⟨fun streams none => ?_, fun o streams some => ?_, fun due hd => ?_⟩
  · rw [exec_driveWord h]
    exact congrArg Host.Outcome.next (State.kickStream_none streams rfl none)
  · rw [exec_driveWord h]
    exact congrArg Host.Outcome.next (State.kickStream_some streams rfl some)
  · have still := (s.begun.refreshed due).kickStream_still
    refine ⟨_, exec_driveRefreshTimerExpiry h hd, State.kickStream_refreshDue _, congrArg Still.now still, fun o => ?_,
      fun o => ?_, State.kickStream_slots _, congrArg Still.fields still, congrArg Still.nv still⟩
    · obtain ⟨b, kicked⟩ := (s.begun.refreshed due).kickStream_latch_pending o
      rw [kicked, State.refreshed_latch]; rfl
    · rcases (s.begun.refreshed due).kickStream_latch o with kicked | ⟨-, word⟩
      · exact .inl (by rw [kicked, State.refreshed_latch])
      · exact .inr (by rw [word, State.refreshed_latch]; rfl)

end Sys2Proof.Machine
end

section
/-! PROOFS. The item gate: what stands still, and what an interruption does to it (R98, R101, R102). -/

namespace Sys2Proof.Machine

section
variable {s t : State} {i : Fin 4} {d : DiSlot}

theorem State.onDi_di (h : s.slot i = .di d) (f : DiSlot → State) : s.onDi i f = f d := by rw [State.onDi, h]

/-- R98: a gate that nothing moves on stays. -/
theorem State.gateRun_rests (hd : s.slot i = .di d) (h : d.gate.rests) (n : Nat) : s.gateRun n i = s := by
  obtain ⟨calm, state⟩ := h
  cases n with
  | zero => rfl
  | succ n =>
    rw [State.gateRun, State.onDi_di hd, if_neg (by simp [calm])]
    rcases state with state | state | ⟨state, waits⟩ | ⟨state, waits⟩ | ⟨state, waits⟩ | ⟨state, waits⟩
    · rw [state]
    · rw [state]
    · rw [state]; simp only [waits, Bool.false_eq_true, if_false]
    · rw [state]; simp only [waits, Bool.false_eq_true, if_false]
    · rw [state]; simp only [waits, Bool.false_eq_true, if_false]
    · rw [state]; simp only [waits, Bool.false_eq_true, if_false]

/-- R71, R97: no gate cycle starts for a slot that does not run, nor while the trip line is observed asserted. -/
def DiSlot.held (d : DiSlot) (s : State) : Prop := d.runs = false ∨ s.alarms.observed = true

/-! ## The gate in READY (R101, R106) -/

/-- R101, R106: as a gate enters READY its slot is as it was, or leaves FAULT. -/
theorem State.gateReady_slot (s : State) (i : Fin 4) (d : DiSlot) : ∃ e, (s.gateReady i d).slot i = .di e ∧
    (e = d.enterGate s.now .ready ∨ d.state = .fault ∧ e = (d.enterGate s.now .ready).stopped .off) := by
  unfold State.gateReady
  extract_lets s1 s2
  have ready : s2.slot i = .di (d.enterGate s.now .ready) := by
    have put : s1.slot i = .di (d.enterGate s.now .ready) := State.setSlot_slot_self s i _
    simp only [s2]; split <;> exact put
  split
  case isTrue left =>
    rw [State.onDi_di ready]
    exact ⟨_, diStop_slot _ _ _ _, .inr ⟨left.1, rfl⟩⟩
  case isFalse => exact ⟨_, ready, .inl rfl⟩

/-! ## The interruption (R102) -/

/-- R102: the gate of an interrupted cycle, at a time. -/
def DiSlot.cutGate (d : DiSlot) (now : Nat) : Gate :=
  match d.gate.state with
  | .upperOpening =>
    if d.gate.upperClosed then
      { d.gate with state := .ready, upperOpenCmd := false, lowerOpenCmd := false, interrupted := false, phaseDue := none }
    else
      { d.gate with state := .upperClosing, upperOpenCmd := false, lowerOpenCmd := false, interrupted := true,
                    phaseDue := some (now + d.par.phaseTimeout * 1000) }
  | .upperClosing => { d.gate with interrupted := true }
  | _ => d.gate

/-- R102: a slot whose cycle has been interrupted. -/
def DiSlot.cut (d : DiSlot) (now : Nat) : DiSlot := { d with gate := d.cutGate now }

theorem DiSlot.cutGate_opening (h : d.gate.state = .upperOpening) (hc : d.gate.upperClosed = false) (n : Nat) :
    d.cutGate n = { d.gate with
      state := .upperClosing, upperOpenCmd := false, lowerOpenCmd := false, interrupted := true
      phaseDue := some (n + d.par.phaseTimeout * 1000) } := by
  simp [DiSlot.cutGate, h, hc]

theorem DiSlot.cutGate_closed (h : d.gate.state = .upperOpening) (hc : d.gate.upperClosed = true) (n : Nat) :
    d.cutGate n = { d.gate with
      state := .ready, upperOpenCmd := false, lowerOpenCmd := false, interrupted := false, phaseDue := none } := by
  simp [DiSlot.cutGate, h, hc]

theorem DiSlot.cutGate_closing (h : d.gate.state = .upperClosing) (n : Nat) :
    d.cutGate n = { d.gate with interrupted := true } := by
  simp [DiSlot.cutGate, h]

theorem DiSlot.cutGate_other (h : d.gate.state ≠ .upperOpening) (k : d.gate.state ≠ .upperClosing) (n : Nat) :
    d.cutGate n = d.gate := by
  unfold DiSlot.cutGate; split
  · exact absurd ‹_› h
  · exact absurd ‹_› k
  · rfl

theorem DiSlot.cutGate_conflict (d : DiSlot) (n : Nat) : (d.cutGate n).conflict = d.gate.conflict := by
  unfold DiSlot.cutGate; repeat' split
  all_goals rfl

/-- R102: a cycle is interrupted once. -/
theorem DiSlot.cutGate_cut (d : DiSlot) (n : Nat) : (d.cut n).cutGate n = d.cutGate n := by
  cases hg : d.gate.state with
  | upperOpening =>
    cases hc : d.gate.upperClosed
    · rw [DiSlot.cutGate_closing (by simp [DiSlot.cut, DiSlot.cutGate_opening hg hc])]
      simp [DiSlot.cut, DiSlot.cutGate_opening hg hc]
    · rw [DiSlot.cutGate_other (by simp [DiSlot.cut, DiSlot.cutGate_closed hg hc])
        (by simp [DiSlot.cut, DiSlot.cutGate_closed hg hc])]
      rfl
  | upperClosing =>
    rw [DiSlot.cutGate_closing (by simp [DiSlot.cut, DiSlot.cutGate_closing hg, hg])]
    simp [DiSlot.cut, DiSlot.cutGate_closing hg]
  | _ =>
    have same : d.cutGate n = d.gate := DiSlot.cutGate_other (by simp [hg]) (by simp [hg]) n
    rw [DiSlot.cut, same]; exact same

/-- R102: an interrupted gate whose upper flap has closed goes to READY. -/
theorem State.gateRun_interrupted (hd : s.slot i = .di d) (calm : d.gate.conflict = false)
    (hg : d.gate.state = .upperClosing) (hc : d.gate.upperClosed = true) (hi : d.gate.interrupted = true) (n : Nat) :
    s.gateRun (n + 1) i =
      ((s.gateReady i { d with gate := { d.gate with interrupted := false } }).tryStart i).gateRun n i := by
  rw [State.gateRun, State.onDi_di hd, if_neg (by simp [calm]), hg]
  simp only [hc, hi, if_true]

/-- R71, R102: a gate that enters READY for a slot that starts no cycle stays there. -/
theorem State.gateReady_stays (held : d.held s) (calm : d.gate.conflict = false) (n : Nat) :
    ((s.gateReady i d).tryStart i).gateRun n i = s.gateReady i d := by
  obtain ⟨e, he, ready⟩ := s.gateReady_slot i d
  have stands : e.gate = (d.enterGate s.now .ready).gate := by rcases ready with rfl | ⟨-, rfl⟩ <;> rfl
  have stays : e.runs = false ∨ (s.gateReady i d).alarms.observed = true := by
    rcases held with runs | observed
    · refine .inl ?_
      rcases ready with rfl | ⟨-, rfl⟩
      · rw [DiSlot.enterGate_runs, runs]
      · rfl
    · exact .inr ((observed_of_still (s.gateReady_still i d)).trans observed)
  rw [State.tryStart_held he stays]
  exact State.gateRun_rests he ⟨by rw [stands]; exact calm, .inl (by rw [stands]; rfl)⟩ n

/-- R102: a slot whose upper flap has been commanded closed early. -/
def DiSlot.closing (d : DiSlot) (now : Nat) : DiSlot :=
  { d.enterGate now .upperClosing with gate := { (d.enterGate now .upperClosing).gate with interrupted := true } }

theorem State.interrupt_opening (hd : s.slot i = .di d) (hg : d.gate.state = .upperOpening) :
    s.interrupt i = (s.setSlot i (.di (d.closing s.now))).gateGo i := by
  rw [State.interrupt, State.onDi_di hd, hg]; rfl

/-- R102: an upper flap that is not closed yet is waited for, and the cycle is marked. -/
theorem State.closing_waits (hd : s.slot i = .di (d.closing s.now)) (hg : d.gate.state = .upperOpening)
    (calm : d.gate.conflict = false) (hc : d.gate.upperClosed = false) : (s.gateGo i).slot i = .di (d.cut s.now) := by
  rw [State.gateGo, State.gateRun_rests hd ⟨calm, .inr (.inr (.inr (.inl ⟨rfl, hc⟩)))⟩, hd, DiSlot.cut,
    DiSlot.cutGate_opening hg hc]
  rfl

/-- R102: a slot whose upper flap has closed, its cycle no more marked. -/
def DiSlot.closed (d : DiSlot) (now : Nat) : DiSlot :=
  { d.closing now with gate := { (d.closing now).gate with interrupted := false } }

/-- R102: where the upper flap is closed already the gate is READY at once. -/
theorem State.closing_ends (hd : s.slot i = .di (d.closing s.now)) (hg : d.gate.state = .upperOpening)
    (calm : d.gate.conflict = false) (hc : d.gate.upperClosed = true) (held : d.held s) :
    ∃ e, (s.gateGo i).slot i = .di e ∧ (e = d.cut s.now ∨ d.state = .fault ∧ e = (d.cut s.now).stopped .off) := by
  have runs : (d.closed s.now).held s := held
  have goes : s.gateRun 16 i = s.gateReady i (d.closed s.now) :=
    (State.gateRun_interrupted hd calm rfl hc rfl 15).trans (State.gateReady_stays runs calm 15)
  rw [State.gateGo, goes, DiSlot.cut, DiSlot.cutGate_closed hg hc]
  exact State.gateReady_slot s i _

/-- R102: an interruption cuts the cycle; a slot in FAULT whose gate is READY with it may leave FAULT (R106). -/
theorem State.interrupt_slot (hd : s.slot i = .di d) (calm : d.gate.conflict = false) (held : d.held s) :
    ∃ e, (s.interrupt i).slot i = .di e ∧ (e = d.cut s.now ∨ d.state = .fault ∧ e = (d.cut s.now).stopped .off) := by
  by_cases opening : d.gate.state = .upperOpening
  · have put : (s.setSlot i (.di (d.closing s.now))).slot i = .di (d.closing s.now) := State.setSlot_slot_self s i _
    rw [State.interrupt_opening hd opening]
    cases hc : d.gate.upperClosed
    · exact ⟨_, State.closing_waits put opening calm hc, .inl rfl⟩
    · exact State.closing_ends put opening calm hc held
  rw [State.interrupt, State.onDi_di hd]
  split
  · exact absurd ‹_› opening
  · rename_i closing
    exact ⟨_, State.setSlot_slot_self s i _, .inl (by rw [DiSlot.cut, DiSlot.cutGate_closing closing])⟩
  · rename_i closing
    exact ⟨d, hd, .inl (by rw [DiSlot.cut, DiSlot.cutGate_other opening closing])⟩

end

end Sys2Proof.Machine
end

section
/-! PROOFS. The run permits and the initial levels (R68, R83, R105, R116, R120). -/

namespace Sys2Proof.Machine

/-- R68: a permit is kept at a level. -/
def State.withPermit (s : State) (i : Fin 4) (level : Bool) : State :=
  { s with fields := { s.fields with permits := s.fields.permits.set i level } }

/-- R83, R105, R116, R120: what a falling permit does to its slot. -/
def State.permitFalls (s : State) (i : Fin 4) : State :=
  match s.slot i with
  | .unused => s
  | .cf c => s.cfPermitFalls i c
  | .di d => s.diPermitFalls i d
  | .ca a => s.caPermitFalls i a
  | .cg g => s.cgPermitFalls i g

section
variable {s : State} {i : Fin 4} {c : CfSlot} {d : DiSlot} {a : CaSlot} {g : CgSlot}

theorem State.permitFalls_still (s : State) (i : Fin 4) : (s.permitFalls i).still = s.still := by
  unfold State.permitFalls; split <;> simp

/-- R83: a CF slot that runs or stands TRIPPED is stopped. -/
theorem State.permitFalls_cf (hs : s.slot i = .cf c) (h : c.state.runs = true ∨ c.state = .tripped) :
    (s.permitFalls i).slot i = .cf (c.stopped .off) := by
  have falls : s.permitFalls i = s.cfPermitFalls i c := by rw [State.permitFalls, hs]
  rw [falls, State.cfPermitFalls, if_pos (by simpa using h), cfStop_slot]

/-- R102, R105: a DI slot that runs or stands TRIPPED is stopped, and its cycle interrupted. -/
theorem State.permitFalls_di (hs : s.slot i = .di d) (calm : d.gate.conflict = false) (h : d.runs = true ∨ d.state = .tripped) :
    (s.permitFalls i).slot i = .di ((d.stopped .off).cut s.now) := by
  have falls : s.permitFalls i = s.diPermitFalls i d := by rw [State.permitFalls, hs]
  have now : (s.diStop i d .off).now = s.now := congrArg Still.now (s.diStop_still i d .off)
  obtain ⟨e, he, cut | ⟨fault, -⟩⟩ := State.interrupt_slot (d := d.stopped .off) (diStop_slot s i d .off) calm (.inl rfl)
  · rw [falls, State.diPermitFalls, if_pos (by simpa using h), State.diLeave, he, cut, now]
  · exact absurd fault (by simp [DiSlot.stopped])

/-- R116: a fan is stopped. -/
theorem State.permitFalls_ca (hs : s.slot i = .ca a) :
    ∃ b, (s.permitFalls i).slot i = .ca b ∧ b.state = .off ∧ b.par = a.par := by
  have falls : s.permitFalls i = s.caPermitFalls i a := by rw [State.permitFalls, hs]
  rw [falls, State.caPermitFalls]
  split
  · exact ⟨a, hs, ‹_›, rfl⟩
  · exact ⟨_, State.caEnter_slot_self s i a .off, rfl, rfl⟩

/-- R120: the grate is stopped, its rate kept. -/
theorem State.permitFalls_cg (hs : s.slot i = .cg g) :
    ∃ b, (s.permitFalls i).slot i = .cg b ∧ b.state = .stopped ∧ b.par = g.par ∧ b.rate = g.rate := by
  have falls : s.permitFalls i = s.cgPermitFalls i g := by rw [State.permitFalls, hs]
  rw [falls, State.cgPermitFalls]
  split
  · exact ⟨g, hs, ‹_›, rfl, rfl⟩
  · exact ⟨_, State.cgEnter_slot_self s i g .stopped, rfl, rfl, rfl⟩

/-- A slot that no report of the trip cause moves stands after the requests as before them. -/
theorem State.settle_slot {u : SlotUnit} (h : s.slot i = u) (stable : u.stable = true) : s.settle.slot i = u :=
  (settle_tripsOnly s i (h ▸ stable)).trans h

/-- An event that acts once an image is accepted. -/
theorem State.takeEvent_configured (h : s.calm) (hc : s.cfg.isSome = true) (f : State → State) :
    s.takeEvent (fun t => if t.cfg.isNone then t else f t) = (f s.begun).settle := by
  have configured : ¬s.begun.cfg.isNone = true := by
    rw [show s.begun.cfg = s.cfg from rfl, Option.isNone_iff_eq_none]
    exact Option.isSome_iff_ne_none.1 hc
  rw [State.takeEvent_live _ h.1]
  exact congrArg State.settle (if_neg configured)

/-- An event that sends no request ends with its own effect. -/
theorem State.calm.settle_begun {t : State} (h : s.calm) (k : t.agenda = s.agenda) : t.settle = t :=
  State.settle_nil (k.trans h.2)

theorem exec_runPermitEdge_rises (h : s.calm) (hc : s.cfg.isSome = true) (i : Fin 4) :
    exec (.runPermitEdge i true) s = .next (s.begun.withPermit i true) :=
  congrArg Host.Outcome.next ((State.takeEvent_configured h hc _).trans (h.settle_begun rfl))

theorem exec_runPermitEdge_falls (h : s.calm) (hc : s.cfg.isSome = true) (i : Fin 4) :
    exec (.runPermitEdge i false) s = .next ((s.begun.withPermit i false).permitFalls i).settle :=
  congrArg Host.Outcome.next (State.takeEvent_configured h hc _)

/-- R68: what an initial level does, by its line. -/
def State.takeLevel (s : State) (line : InputLine) (level : Bool) : State :=
  match line with
  | .runPermit i => s.withPermit i level
  | .gate i sw => s.confirm i sw level
  | .jamClear _ => s
  | .take => s
  | .acknowledge => s
  | .silence => s

theorem exec_initialLevel (h : s.calm) (hc : s.cfg.isSome = true) (line : InputLine) (level : Bool) :
    exec (.initialLevel line level) s = .next (s.begun.takeLevel line level).settle := by
  refine congrArg Host.Outcome.next (Eq.trans ?_ (State.takeEvent_configured h hc (State.takeLevel · line level)))
  cases line <;> rfl

end

/-- Settles O44: the falling edge by what it does to a slot of each kind, which the requests after it leave alone. -/
theorem permitsAndInitialLevelsAreTaken : Obligations.PermitsAndInitialLevelsAreTaken := by
  refine ⟨fun s i h hc => ⟨exec_runPermitEdge_rises h hc i, _, exec_runPermitEdge_falls h hc i, ?_⟩,
    fun s level h hc => ⟨fun i => ?_, fun i => ?_, ?_, ?_, ?_, fun i sw => ?_⟩⟩
  · have still := (State.settle_still _).trans ((s.begun.withPermit i false).permitFalls_still i)
    refine ⟨congrArg Still.fields still, congrArg Still.picture still, congrArg Still.nv still, fun c hs runs => ?_,
      fun d hs calm runs => ?_, fun a hs => ?_, fun g hs => ?_⟩
    · exact ⟨_, State.settle_slot (State.permitFalls_cf (s := s.begun.withPermit i false) hs runs) rfl, rfl, rfl, rfl, rfl⟩
    · exact ⟨_, State.settle_slot (State.permitFalls_di (s := s.begun.withPermit i false) hs calm runs) rfl, rfl, rfl, rfl⟩
    · obtain ⟨b, hb, off, par⟩ := State.permitFalls_ca (s := s.begun.withPermit i false) hs
      exact ⟨b, State.settle_slot hb rfl, off, par⟩
    · obtain ⟨b, hb, stopped, par, rate⟩ := State.permitFalls_cg (s := s.begun.withPermit i false) hs
      exact ⟨b, State.settle_slot hb rfl, stopped, par, rate⟩
  · exact (exec_initialLevel h hc (.runPermit i) level).trans (congrArg _ (h.settle_begun rfl))
  · exact (exec_initialLevel h hc (.jamClear i) level).trans (congrArg _ (h.settle_begun rfl))
  · exact (exec_initialLevel h hc .take level).trans (congrArg _ (h.settle_begun rfl))
  · exact (exec_initialLevel h hc .acknowledge level).trans (congrArg _ (h.settle_begun rfl))
  · exact (exec_initialLevel h hc .silence level).trans (congrArg _ (h.settle_begun rfl))
  · exact (exec_initialLevel h hc (.gate i sw) level).trans
      (congrArg Host.Outcome.next (State.takeEvent_live (fun t => t.confirm i sw level) h.1).symm)

end Sys2Proof.Machine
end

section
/-! PROOFS. The start of a gate cycle and of a chamber drop, the heat debt and the passage of a DI slot (R96, R97, R103 to R105). -/

namespace Sys2Proof.Machine

section
variable {s : State} {i : Fin 4} {d : DiSlot} {it : Item} {rest : List Item}

/-! ## The start of a cycle (R71, R97, R103) -/

/-- R95: a change of the queue count moves the call line alone. -/
theorem DiSlot.callAfter_eq (d : DiSlot) : ∃ b, d.callAfter = { d with call := b } := by
  unfold DiSlot.callAfter
  repeat' split
  all_goals exact ⟨_, rfl⟩

theorem DiSlot.enterGate_callAfter (d : DiSlot) (n : Nat) :
    d.callAfter.enterGate n .upperOpening = (d.enterGate n .upperOpening).callAfter := by
  simp only [DiSlot.callAfter, apply_ite (DiSlot.enterGate · n .upperOpening)]
  rfl

theorem State.gateMayStart_iff : s.gateMayStart d = true ↔
    d.runs = true ∧ s.alarms.observed = false ∧ d.gate.state = .ready := by
  simp [State.gateMayStart, and_assoc]

/-- R97, R98: a DI slot whose head item begins a cycle. -/
def DiSlot.opening (d : DiSlot) (it : Item) (rest : List Item) (now : Nat) : DiSlot :=
  { d with
    queue := rest
    debt := d.debt - it.energy
    gate := { d.gate with state := .upperOpening, upperOpenCmd := true, lowerOpenCmd := false, item := some it
                          phaseDue := some (now + d.par.phaseTimeout * 1000) } }

/-- R98, R103: a DI slot whose chamber item is dropped. -/
def DiSlot.dropping (d : DiSlot) (it : Item) (now : Nat) : DiSlot :=
  { d with
    debt := d.debt - it.energy
    gate := { d.gate with state := .lowerOpening, upperOpenCmd := false, lowerOpenCmd := true
                          phaseDue := some (now + d.par.phaseTimeout * 1000) } }

/-- R103: a chamber item is dropped as soon as any debt stands. -/
theorem State.tryStart_drop (hd : s.slot i = .di d) (may : s.gateMayStart d = true) (item : d.gate.item = some it)
    (debt : 0 < d.debt) : s.tryStart i = s.setSlot i (.di (d.dropping it s.now)) := by
  rw [State.tryStart, State.onDi_di hd, if_pos may]
  split
  · rename_i held
    cases held.symm.trans item
    exact if_pos debt
  · rename_i held _
    exact absurd (held.symm.trans item) (by simp)
  · rename_i held _
    exact absurd (held.symm.trans item) (by simp)

/-- R97: the head item begins a cycle once the debt is its energy. -/
theorem State.tryStart_head (hd : s.slot i = .di d) (may : s.gateMayStart d = true) (item : d.gate.item = none)
    (queue : d.queue = it :: rest) (debt : it.energy ≤ d.debt) :
    s.tryStart i = s.setSlot i (.di (d.opening it rest s.now).callAfter) := by
  rw [State.tryStart, State.onDi_di hd, if_pos may]
  split
  · rename_i held
    exact absurd (held.symm.trans item) (by simp)
  · rename_i waiting
    cases waiting.symm.trans queue
    rw [if_pos debt]
    extract_lets q d1
    rw [DiSlot.enterGate_callAfter]
    rfl
  · rename_i waiting
    exact absurd (waiting.symm.trans queue) (by simp)

/-- R97, R103: otherwise no cycle begins. -/
theorem State.tryStart_waits (hd : s.slot i = .di d) (h : d.runs = false ∨ s.alarms.observed = true ∨ d.gate.state ≠ .ready ∨
    (d.gate.item ≠ none ∧ d.debt = 0) ∨ (d.gate.item = none ∧ ∀ it ∈ d.queue.head?, d.debt < it.energy)) :
    s.tryStart i = s := by
  rw [State.tryStart, State.onDi_di hd]
  split
  case isFalse => rfl
  case isTrue may =>
    obtain ⟨runs, released, ready⟩ := State.gateMayStart_iff.1 may
    rcases h with h | h | h | ⟨item, debt⟩ | ⟨item, queue⟩
    · rw [runs] at h; exact Bool.noConfusion h
    · rw [released] at h; exact Bool.noConfusion h
    · exact absurd ready h
    · obtain ⟨it, held⟩ := Option.ne_none_iff_exists'.1 item
      simp [held, debt]
    · cases hq : d.queue with
      | nil => simp [item]
      | cons it rest =>
        have short : ¬it.energy ≤ d.debt := Nat.not_le.2 (queue it (by simp [hq]))
        simp [item, short]

/-! ## The heat debt (R96, R104) -/

theorem debtAfter_zero (debt period ceiling : Nat) : debtAfter debt 0 period ceiling = 0 := if_pos rfl

theorem debtAfter_le (debt heat period ceiling : Nat) : debtAfter debt heat period ceiling ≤ ceiling := by
  unfold debtAfter; split <;> omega

theorem debtAfter_eq {heat : Nat} (h : 0 < heat) (debt period ceiling : Nat) :
    debtAfter debt heat period ceiling = min ceiling (debt + heat * period / 1000) := if_neg (by omega)

theorem State.setSlot_stands (s : State) (i : Fin 4) (u : SlotUnit) (c : AlarmCode) (ch : Nat) :
    (s.setSlot i u).stands c ch = s.stands c ch := rfl

theorem State.clearStarved_agenda (s : State) (i : Fin 4) : (s.clearStarved i).agenda =
    s.agenda ++ if s.stands .feedStarved i.val = true then [.clear .feedStarved i.val] else [] := by
  unfold State.clearStarved; split
  · rfl
  · simp

theorem State.diDebt_slot (s : State) (i : Fin 4) (d : DiSlot) : (s.diDebt i d).slot i =
    .di { d with debt := debtAfter d.debt d.alloc.heat s.period d.par.ceiling } := by
  have put := State.setSlot_slot_self s i (.di { d with debt := debtAfter d.debt d.alloc.heat s.period d.par.ceiling })
  unfold State.diDebt
  simp only
  repeat' split
  · exact (clearStarved_slot _ i i).trans put
  · exact put
  · exact put

/-- R104: FEED STARVED is asked for at the ceiling with an empty queue. -/
theorem State.diDebt_starves (heat : 0 < d.alloc.heat) (full : d.par.ceiling ≤ d.debt + d.alloc.heat * s.period / 1000)
    (queue : d.queue = []) (calm : s.stands .feedStarved i.val = false) :
    (s.diDebt i d).agenda = s.agenda ++ [.raise .feedStarved i.val] := by
  have debt : debtAfter d.debt d.alloc.heat s.period d.par.ceiling = d.par.ceiling := by
    rw [debtAfter_eq heat, min_eq_left full]
  unfold State.diDebt
  simp only [debt]
  rw [if_neg (by omega), if_pos ⟨trivial, queue, calm⟩]
  rfl

theorem State.diDebt_clears (heat : d.alloc.heat = 0) (stands : s.stands .feedStarved i.val = true) :
    (s.diDebt i d).agenda = s.agenda ++ [.clear .feedStarved i.val] := by
  unfold State.diDebt
  simp only [heat, if_true]
  rw [State.clearStarved_agenda, State.setSlot_stands, stands]
  rfl

/-! ## The passage out of OFF (R105) -/

theorem State.diMayStart_iff : s.diMayStart i d = true ↔ s.station = .run ∧ s.permit i = true ∧
    s.picture.order.isSome = true ∧ s.alarms.observed = false ∧ s.classTrip i = false ∧ d.gate.state ≠ .jammed := by
  simp [State.diMayStart, State.tripCause, and_assoc]

theorem State.diPassage_slot (off : d.state = .off) (may : s.diMayStart i d = true) : (s.diPassage i d).slot i =
    .di { d with state := .dosing, publish := 0, call := decide (d.queue.length ≤ d.par.lowWater) } := by
  rw [State.diPassage, if_pos ⟨off, may⟩, State.markLeft_slot, State.setSlot_slot_self]
  rfl

theorem State.diPassage_stays (h : d.state ≠ .off ∨ s.diMayStart i d = false) : s.diPassage i d = s := by
  refine if_neg fun ⟨off, may⟩ => ?_
  rcases h with h | h
  · exact h off
  · rw [may] at h; exact Bool.noConfusion h

end

end Sys2Proof.Machine
end

section
/-! PROOFS. The items: the queue, the diversion, and what the gate does with an item at the moment it starts (R67, R93, R94, R97 to
R99, R103). -/

namespace Sys2Proof.Machine

section
variable {s : State} {i : Fin 4} {d : DiSlot} {it : Item}

/-! ## A gate that has just started (R98, R99) -/

theorem Gate.conflict_eq_false {g : Gate} : g.conflict = false ↔
    ¬(g.upperOpen = true ∧ g.upperClosed = true) ∧ ¬(g.lowerOpen = true ∧ g.lowerClosed = true) := by
  simp [Gate.conflict]

/-- R98: a gate that opens its upper flap goes on to close it where the flap shows open already, and no further. -/
theorem State.gateGo_upperOpening (hd : s.slot i = .di d) (calm : d.gate.conflict = false) (hg : d.gate.state = .upperOpening) :
    ∃ g, (s.gateGo i).slot i = .di { d with gate := g } ∧ (s.gateGo i).agenda = s.agenda ∧
      (d.gate.upperOpen = false → g = d.gate) := by
  cases ho : d.gate.upperOpen
  · rw [State.gateGo, State.gateRun_rests hd ⟨calm, .inr (.inr (.inl ⟨hg, ho⟩))⟩]
    exact ⟨d.gate, hd, rfl, fun _ => rfl⟩
  · have hc : d.gate.upperClosed = false := by simpa [ho] using (Gate.conflict_eq_false.1 calm).1
    have put := State.setSlot_slot_self s i (.di (d.enterGate s.now .upperClosing))
    have goes : s.gateRun 16 i = s.setSlot i (.di (d.enterGate s.now .upperClosing)) := by
      rw [State.gateRun, State.onDi_di hd, if_neg (by simp [calm]), hg]
      simp only [ho, if_true]
      exact State.gateRun_rests put ⟨calm, .inr (.inr (.inr (.inl ⟨rfl, hc⟩)))⟩ 15
    rw [State.gateGo, goes]
    exact ⟨_, put, rfl, fun h => Bool.noConfusion h⟩

/-- R99: as the gate item counts as fed, the queue, the debt and the weighed items stay. -/
theorem State.countFed_slot (hd : s.slot i = .di d) : ∃ e, (s.countFed i d).slot i = .di e ∧
    (s.countFed i d).agenda = s.agenda ∧ e.queue = d.queue ∧ e.debt = d.debt ∧ e.state = d.state ∧
    e.counters.weighed = d.counters.weighed ∧
    e.gate.conflict = d.gate.conflict ∧ e.gate.upperClosed = d.gate.upperClosed ∧ e.gate.lowerClosed = d.gate.lowerClosed := by
  unfold State.countFed; split
  · exact ⟨d, hd, rfl, rfl, rfl, rfl, rfl, rfl, rfl, rfl⟩
  · exact ⟨_, State.setSlot_slot_self s i _, rfl, rfl, rfl, rfl, rfl, rfl, rfl, rfl⟩

/-- R98, R99: a gate that opens its lower flap goes on to close it where the flap shows open already, and no further. -/
theorem State.gateGo_lowerOpening (hd : s.slot i = .di d) (calm : d.gate.conflict = false) (hg : d.gate.state = .lowerOpening) :
    ∃ e, (s.gateGo i).slot i = .di e ∧ (s.gateGo i).agenda = s.agenda ∧ e.queue = d.queue ∧ e.debt = d.debt ∧
      e.state = d.state ∧ e.counters.weighed = d.counters.weighed ∧ (d.gate.lowerOpen = false → e = d) := by
  cases ho : d.gate.lowerOpen
  · rw [State.gateGo, State.gateRun_rests hd ⟨calm, .inr (.inr (.inr (.inr (.inl ⟨hg, ho⟩))))⟩]
    exact ⟨d, hd, rfl, rfl, rfl, rfl, rfl, fun _ => rfl⟩
  · have hc : d.gate.lowerClosed = false := by simpa [ho] using (Gate.conflict_eq_false.1 calm).2
    obtain ⟨e, he, agenda, queue, debt, state, weighed, conflict, -, lower⟩ := State.countFed_slot hd
    have put := State.setSlot_slot_self (s.countFed i d) i (.di (e.enterGate s.now .lowerClosing))
    have goes : s.gateRun 16 i = (s.countFed i d).setSlot i (.di (e.enterGate s.now .lowerClosing)) := by
      rw [State.gateRun, State.onDi_di hd, if_neg (by simp [calm]), hg]
      simp only [ho, if_true]
      rw [State.onDi_di he]
      exact State.gateRun_rests put ⟨conflict.trans calm, .inr (.inr (.inr (.inr (.inr ⟨rfl, by
        simp [DiSlot.enterGate, lower, hc]⟩))))⟩ 15
    rw [State.gateGo, goes]
    exact ⟨_, put, agenda, queue, debt, state, weighed, fun h => Bool.noConfusion h⟩

/-! ## An item that joins the queue (R93, R94, R104) -/

/-- R94, R95: a DI slot with an item at its queue's tail. -/
def DiSlot.joined (d : DiSlot) (it : Item) : DiSlot := DiSlot.callAfter { d with queue := d.queue ++ [it] }

theorem DiSlot.joined_eq (d : DiSlot) (it : Item) : ∃ b, d.joined it = { d with queue := d.queue ++ [it], call := b } :=
  DiSlot.callAfter_eq _

/-- R94, R104: the station with an item at a queue's tail, FEED STARVED cleared where it stands. -/
def State.joined (s : State) (i : Fin 4) (d : DiSlot) (it : Item) : State :=
  State.clearStarved (s.setSlot i (.di (d.joined it))) i

theorem State.joined_slot (s : State) (i : Fin 4) (d : DiSlot) (it : Item) : (s.joined i d it).slot i = .di (d.joined it) :=
  (clearStarved_slot _ i i).trans (State.setSlot_slot_self s i _)

theorem State.joined_agenda (s : State) (i : Fin 4) (d : DiSlot) (it : Item) : (s.joined i d it).agenda =
    s.agenda ++ if s.stands .feedStarved i.val = true then [.clear .feedStarved i.val] else [] := by
  rw [State.joined, State.clearStarved_agenda, State.setSlot_stands]; rfl

theorem State.joined_still (s : State) (i : Fin 4) (d : DiSlot) (it : Item) : (s.joined i d it).still = s.still := by
  simp [State.joined]

theorem State.appendItem_eq (s : State) (i : Fin 4) (d : DiSlot) (it : Item) : s.appendItem i d it =
    if d.queue.isEmpty then ((s.joined i d it).tryStart i).gateGo i else s.joined i d it := rfl

/-- R94, R97, R103: an append that starts no cycle. -/
def DiSlot.appendWaits (d : DiSlot) (s : State) (it : Item) : Prop :=
  d.queue ≠ [] ∨ d.runs = false ∨ s.alarms.observed = true ∨ d.gate.state ≠ .ready ∨
    (d.gate.item = none ∧ d.debt < it.energy) ∨ (d.gate.item ≠ none ∧ d.debt = 0)

theorem State.appendItem_waits (rests : d.queue ≠ [] ∨ d.gate.rests) (h : d.appendWaits s it) :
    s.appendItem i d it = s.joined i d it := by
  rw [State.appendItem_eq]
  by_cases queue : d.queue = []
  · have hj := s.joined_slot i d it
    have observed := observed_of_still (s.joined_still i d it)
    have waits : (s.joined i d it).tryStart i = s.joined i d it := by
      refine State.tryStart_waits hj ?_
      rw [observed]
      obtain ⟨b, eq⟩ := d.joined_eq it
      rw [eq]
      rcases h with h | h | h | h | ⟨item, debt⟩ | h
      · exact absurd queue h
      · exact .inl h
      · exact .inr (.inl h)
      · exact .inr (.inr (.inl h))
      · exact .inr (.inr (.inr (.inr ⟨item, fun x hx => by simp [queue] at hx; exact hx ▸ debt⟩)))
      · exact .inr (.inr (.inr (.inl h)))
    have stays : (d.joined it).gate.rests := by
      obtain ⟨b, eq⟩ := d.joined_eq it
      rw [eq]
      exact rests.resolve_left fun h => h queue
    rw [if_pos (by simp [queue]), waits, State.gateGo, State.gateRun_rests hj stays]
  · rw [if_neg (by simpa using queue)]

/-- R94, R97: an item that joins an empty queue with debt enough begins a cycle. -/
theorem State.appendItem_head (queue : d.queue = []) (calm : d.gate.conflict = false) (may : s.gateMayStart d = true)
    (item : d.gate.item = none) (debt : it.energy ≤ d.debt) : ∃ e, (s.appendItem i d it).slot i = .di e ∧
      (s.appendItem i d it).agenda = (s.joined i d it).agenda ∧ e.queue = [] ∧ e.debt = d.debt - it.energy ∧
      e.counters = d.counters ∧ e.state = d.state ∧ (d.gate.upperOpen = false → e.gate = { d.gate with
        state := .upperOpening, upperOpenCmd := true, lowerOpenCmd := false, item := some it
        phaseDue := some (s.now + d.par.phaseTimeout * 1000) }) := by
  obtain ⟨b, eq⟩ := d.joined_eq it
  have hj : (s.joined i d it).slot i = .di { d with queue := d.queue ++ [it], call := b } := by rw [s.joined_slot, eq]
  have still := s.joined_still i d it
  have now : (s.joined i d it).now = s.now := congrArg Still.now still
  have begins : (s.joined i d it).gateMayStart { d with queue := d.queue ++ [it], call := b } = true := by
    obtain ⟨runs, released, ready⟩ := State.gateMayStart_iff.1 may
    exact State.gateMayStart_iff.2 ⟨runs, (observed_of_still still).trans released, ready⟩
  rw [State.appendItem_eq, if_pos (by simp [queue]),
    State.tryStart_head (rest := []) hj begins item (by simp [queue]) debt, now]
  obtain ⟨b', called⟩ := DiSlot.callAfter_eq
    (DiSlot.opening { d with queue := d.queue ++ [it], call := b } it [] s.now)
  have put := State.setSlot_slot_self (s.joined i d it) i (.di (DiSlot.callAfter
    (DiSlot.opening { d with queue := d.queue ++ [it], call := b } it [] s.now)))
  obtain ⟨g, slot, agenda, waits⟩ := State.gateGo_upperOpening put (by rw [called]; exact calm) (by rw [called]; rfl)
  refine ⟨_, slot, agenda, by rw [called]; rfl, by rw [called]; rfl, by rw [called]; rfl, by rw [called]; rfl, fun ho => ?_⟩
  rw [called] at waits
  exact waits ho

/-- R94, R103: an item that joins an empty queue lets a chamber item drop where any debt stands. -/
theorem State.appendItem_drop {held : Item} (queue : d.queue = []) (calm : d.gate.conflict = false)
    (may : s.gateMayStart d = true) (item : d.gate.item = some held) (debt : 0 < d.debt) :
    ∃ e, (s.appendItem i d it).slot i = .di e ∧
      (s.appendItem i d it).agenda = (s.joined i d it).agenda ∧ e.queue = [it] ∧ e.debt = d.debt - held.energy ∧
      e.counters.weighed = d.counters.weighed ∧ e.state = d.state ∧
      (d.gate.lowerOpen = false → e.counters = d.counters ∧ e.gate = { d.gate with
        state := .lowerOpening, upperOpenCmd := false, lowerOpenCmd := true
        phaseDue := some (s.now + d.par.phaseTimeout * 1000) }) := by
  obtain ⟨b, eq⟩ := d.joined_eq it
  have hj : (s.joined i d it).slot i = .di { d with queue := d.queue ++ [it], call := b } := by rw [s.joined_slot, eq]
  have still := s.joined_still i d it
  have now : (s.joined i d it).now = s.now := congrArg Still.now still
  have begins : (s.joined i d it).gateMayStart { d with queue := d.queue ++ [it], call := b } = true := by
    obtain ⟨runs, released, ready⟩ := State.gateMayStart_iff.1 may
    exact State.gateMayStart_iff.2 ⟨runs, (observed_of_still still).trans released, ready⟩
  rw [State.appendItem_eq, if_pos (by simp [queue]), State.tryStart_drop hj begins item debt, now]
  have put := State.setSlot_slot_self (s.joined i d it) i (.di
    (DiSlot.dropping { d with queue := d.queue ++ [it], call := b } held s.now))
  obtain ⟨e, slot, agenda, kept, less, state, weighed, waits⟩ := State.gateGo_lowerOpening put calm rfl
  refine ⟨e, slot, agenda, kept.trans (by simp [DiSlot.dropping, queue]), less, weighed, state, fun ho => ?_⟩
  rw [waits ho]
  exact ⟨rfl, rfl⟩

/-- R94, R97, R103: what an append leaves of its slot, whether a cycle starts with it or not. -/
theorem State.appendItem_slot (rests : d.queue ≠ [] ∨ d.gate.rests) : ∃ e, (s.appendItem i d it).slot i = .di e ∧
    e.counters.weighed = d.counters.weighed ∧ e.state = d.state ∧
    (s.appendItem i d it).agenda = (s.joined i d it).agenda ∧
    (d.appendWaits s it → e.queue = d.queue ++ [it] ∧ e.gate = d.gate ∧ e.debt = d.debt ∧ e.counters = d.counters) ∧
    (d.queue = [] → s.gateMayStart d = true →
      (d.gate.item = none → it.energy ≤ d.debt → e.queue = [] ∧ e.debt = d.debt - it.energy ∧ e.counters = d.counters ∧
        (d.gate.upperOpen = false → e.gate = { d.gate with
          state := .upperOpening, upperOpenCmd := true, lowerOpenCmd := false, item := some it
          phaseDue := some (s.now + d.par.phaseTimeout * 1000) })) ∧
      (∀ held, d.gate.item = some held → 0 < d.debt → e.queue = [it] ∧ e.debt = d.debt - held.energy ∧
        (d.gate.lowerOpen = false → e.counters = d.counters ∧ e.gate = { d.gate with
          state := .lowerOpening, upperOpenCmd := false, lowerOpenCmd := true
          phaseDue := some (s.now + d.par.phaseTimeout * 1000) }))) := by
  by_cases waits : d.appendWaits s it
  · obtain ⟨b, eq⟩ := d.joined_eq it
    rw [State.appendItem_waits rests waits]
    refine ⟨_, s.joined_slot i d it, by rw [eq], by rw [eq], rfl, fun _ => by rw [eq]; exact ⟨rfl, rfl, rfl, rfl⟩,
      fun queue may => ?_⟩
    obtain ⟨runs, released, ready⟩ := State.gateMayStart_iff.1 may
    simp only [DiSlot.appendWaits, queue, runs, released, ready, ne_eq, not_true, Bool.true_eq_false, Bool.false_eq_true,
      false_or] at waits
    refine ⟨fun item debt => ?_, fun held item debt => ?_⟩
    · rcases waits with ⟨-, short⟩ | ⟨full, -⟩
      · omega
      · exact absurd item full
    · rcases waits with ⟨empty, -⟩ | ⟨-, none⟩
      · rw [empty] at item; cases item
      · omega
  · simp only [DiSlot.appendWaits, not_or, ne_eq, not_not, Bool.not_eq_false, Bool.not_eq_true] at waits
    obtain ⟨queue, runs, released, ready, short, none⟩ := waits
    have may : s.gateMayStart d = true := State.gateMayStart_iff.2 ⟨runs, released, ready⟩
    have calm : d.gate.conflict = false := (rests.resolve_left fun h => h queue).1
    have starts : ¬d.appendWaits s it := by
      simp only [DiSlot.appendWaits, queue, runs, released, ready, ne_eq]; tauto
    cases item : d.gate.item with
    | none =>
      have debt : it.energy ≤ d.debt := Nat.not_lt.1 fun h => short ⟨item, h⟩
      obtain ⟨e, slot, agenda, empty, less, counters, state, gate⟩ := State.appendItem_head queue calm may item debt
      exact ⟨e, slot, by rw [counters], state, agenda, fun h => absurd h starts, fun _ _ =>
        ⟨fun _ _ => ⟨empty, less, counters, gate⟩, fun held h => (by cases h)⟩⟩
    | some held =>
      have debt : 0 < d.debt := Nat.pos_of_ne_zero fun h => none ⟨by simp [item], h⟩
      obtain ⟨e, slot, agenda, kept, less, weighed, state, gate⟩ := State.appendItem_drop (it := it) queue calm may item debt
      exact ⟨e, slot, weighed, state, agenda, fun h => absurd h starts, fun _ _ =>
        ⟨fun h => (by cases h), fun other h _ => (by cases h; exact ⟨kept, less, gate⟩)⟩⟩

/-! ## An item that is diverted (R94, R109) -/

theorem State.setAcc_acc (s : State) (i : Fin 4) (a : SlotAcc) (b : Bool) : (s.setAcc i a b).acc i = a := by
  simp [State.setAcc, State.acc]

theorem State.postDivertedFull_acc (s : State) (i : Fin 4) :
    ((s.postDivertedFull i).acc i).divertedFull = min 4294967295 ((s.acc i).divertedFull + 1) := by
  unfold State.postDivertedFull; simp only; rw [State.setAcc_acc]; exact Nat.min_comm _ _

theorem State.postDivertedWeight_acc (s : State) (i : Fin 4) :
    ((s.postDivertedWeight i).acc i).divertedWeight = min 4294967295 ((s.acc i).divertedWeight + 1) := by
  unfold State.postDivertedWeight; simp only; rw [State.setAcc_acc]; exact Nat.min_comm _ _

/-- R94: a diversion posts its reason, counts and drives the divert line. -/
theorem State.divert_full (s : State) (i : Fin 4) (d : DiSlot) : (s.divert i d true).slot i = .di { d with
      divertDue := some (s.now + d.par.divertMs)
      counters := { d.counters with
        diverted := up32 d.counters.diverted, divertedFull := up32 d.counters.divertedFull } } ∧
    ((s.divert i d true).acc i).divertedFull = min 4294967295 ((s.acc i).divertedFull + 1) ∧
    (s.divert i d true).agenda = s.agenda :=
  ⟨State.setSlot_slot_self s i _, State.postDivertedFull_acc (s.setSlot i _) i, rfl⟩

theorem State.divert_weight (s : State) (i : Fin 4) (d : DiSlot) : (s.divert i d false).slot i = .di { d with
      divertDue := some (s.now + d.par.divertMs)
      counters := { d.counters with
        diverted := up32 d.counters.diverted, divertedWeight := up32 d.counters.divertedWeight } } ∧
    ((s.divert i d false).acc i).divertedWeight = min 4294967295 ((s.acc i).divertedWeight + 1) ∧
    (s.divert i d false).agenda = s.agenda :=
  ⟨State.setSlot_slot_self s i _, State.postDivertedWeight_acc (s.setSlot i _) i, rfl⟩

/-! ## An item-weighed event (R67, R93) -/

/-- R107: a DI slot with one more item weighed. -/
def DiSlot.weighed (d : DiSlot) : DiSlot := { d with counters := { d.counters with weighed := up32 d.counters.weighed } }

theorem State.itemWeighed_weight (hd : s.slot i = .di d) {w : Nat} (h : w < d.par.minItem ∨ d.par.maxItem < w) :
    s.itemWeighed i w = s.divert i d.weighed false := by
  rw [State.itemWeighed, State.onDi_di hd]
  exact if_pos h

theorem State.itemWeighed_full (hd : s.slot i = .di d) {w : Nat} (least : d.par.minItem ≤ w) (most : w ≤ d.par.maxItem)
    (full : d.queue.length = 16) : s.itemWeighed i w = s.divert i d.weighed true := by
  rw [State.itemWeighed, State.onDi_di hd]
  exact (if_neg (by omega)).trans (if_pos full)

theorem State.itemWeighed_joins (hd : s.slot i = .di d) {w : Nat} (least : d.par.minItem ≤ w) (most : w ≤ d.par.maxItem)
    (room : d.queue.length ≠ 16) : s.itemWeighed i w = s.appendItem i d.weighed (s.makeItem d w) := by
  rw [State.itemWeighed, State.onDi_di hd]
  exact (if_neg (by omega)).trans (if_neg room)

/-- R67: the station as an item scale's sample arrives. -/
def State.itemSampled (s : State) (k : Fin 16) (w : Nat) : State :=
  s.begun.setInput k { s.input k with value := w, samples := up16 (s.input k).samples }

theorem exec_sampleWord_item (h : s.calm) {k : Fin 16} (role : (s.inputCfg k).role = .itemWeight)
    (slot : (s.inputCfg k).slot = some i) {raw : BitVec 16} {w : Nat}
    (hw : w = min 65535 (scaled (s.inputCfg k).lo (s.inputCfg k).hi raw.toNat).toNat) :
    exec (.sampleWord k raw true) s = .next ((s.itemSampled k w).itemWeighed i w).settle := by
  have word : s.begun.takeWord k raw.toNat true = (s.itemSampled k w).itemWeighed i w := by
    have role' : (s.begun.inputCfg k).role = .itemWeight := role
    have slot' : (s.begun.inputCfg k).slot = some i := slot
    rw [State.takeWord, if_pos rfl, role']
    simp only [State.takeItem, slot']
    rw [hw]
    rfl
  exact congrArg Host.Outcome.next ((State.takeEvent_live _ h.1).trans (congrArg State.settle word))

end

/-- Settles O43: a weighed item by the queue it meets, the start of a cycle by the gate's own test. -/
theorem weighedItemsAreQueuedOrDiverted : Obligations.WeighedItemsAreQueuedOrDiverted := by
  refine ⟨fun s k i raw d w h role slot hd hw => ?_, fun debt heat period ceiling => ?_, fun s i d hd => ?_,
    fun s i d hd => ?_⟩
  · have event := exec_sampleWord_item h role slot hw
    have hv : (s.itemSampled k w).slot i = .di d := hd
    have calm : (s.itemSampled k w).agenda = [] := h.2
    refine ⟨fun out => ?_, fun least most full => ?_, fun least most room queued calms => ?_,
      fun it least most room item can => ?_⟩
    · obtain ⟨slot, acc, agenda⟩ := (s.itemSampled k w).divert_weight i d.weighed
      rw [State.itemWeighed_weight hv out, State.settle_nil (agenda.trans calm)] at event
      exact ⟨_, event, slot, acc⟩
    · obtain ⟨slot, acc, agenda⟩ := (s.itemSampled k w).divert_full i d.weighed
      rw [State.itemWeighed_full hv least most full, State.settle_nil (agenda.trans calm)] at event
      exact ⟨_, event, slot, acc⟩
    · have joins := State.appendItem_waits (s := s.itemSampled k w) (i := i) (d := d.weighed) (it := (s.itemSampled k w).makeItem d w)
        (.inl queued) (.inl queued)
      have agenda : ((s.itemSampled k w).joined i d.weighed ((s.itemSampled k w).makeItem d w)).agenda = [] := by
        rw [State.joined_agenda, calm, show (s.itemSampled k w).stands .feedStarved i.val = false from calms]; rfl
      rw [State.itemWeighed_joins hv least most room, joins, State.settle_nil agenda] at event
      obtain ⟨b, eq⟩ := d.weighed.joined_eq ((s.itemSampled k w).makeItem d w)
      refine ⟨_, _, event, State.joined_slot _ _ _ _, ?_⟩
      rw [eq]
      exact ⟨rfl, rfl, rfl, rfl, rfl⟩
    · have made : (s.itemSampled k w).makeItem d w = it := item.symm
      rw [State.itemWeighed_joins hv least most room, made] at event
      obtain ⟨e, slot, weighed, state, agenda, waits, starts⟩ :=
        State.appendItem_slot (s := s.itemSampled k w) (i := i) (d := d.weighed) (it := it) can
      refine ⟨_, e, event, slot, weighed, state, ?_, waits, fun queue runs released ready =>
        starts queue (State.gateMayStart_iff.2 ⟨runs, released, ready⟩)⟩
      rw [agenda, State.joined_agenda, calm, List.nil_append]
      rfl
  · exact ⟨debtAfter_zero _ _ _, debtAfter_le _ _ _ _, fun h k => (debtAfter_eq h _ _ _).trans (min_eq_right k),
      fun h k => (debtAfter_eq h _ _ _).trans (min_eq_left k)⟩
  · exact ⟨s.diDebt_slot i d, State.diDebt_starves, State.diDebt_clears, State.diMayStart_iff, State.diPassage_slot,
      State.diPassage_stays⟩
  · refine ⟨State.tryStart_waits hd, fun it runs released ready item debt => ?_,
      fun it rest runs released ready item queue debt => ?_⟩
    · exact State.tryStart_drop hd (State.gateMayStart_iff.2 ⟨runs, released, ready⟩) item debt
    · exact State.tryStart_head hd (State.gateMayStart_iff.2 ⟨runs, released, ready⟩) item queue debt

end Sys2Proof.Machine
end

section
/-! PROOFS. What a consumer's reaction to its input asks the alarm unit for (R66, R84, R116, R120), and the latches that stand at 0
across the alarm unit's work (R71). -/

namespace Sys2Proof.Machine

/-! ## The requests of a reaction -/

/-- The alarm that a request names. -/
def AlarmRequest.names : AlarmRequest → AlarmCode
  | .raise c _ => c
  | .clear c _ => c

/-- Between two states requests have been sent, after those that stood, and none of them names INPUT STALE. -/
def State.AsksOther (s t : State) : Prop := ∃ l : List AlarmRequest, t.agenda = s.agenda ++ l ∧ ∀ r ∈ l, r.names ≠ .inputStale

namespace State.AsksOther

variable {s t u : State}

theorem of_eq (h : t.agenda = s.agenda) : s.AsksOther t := ⟨[], by simp [h], by simp⟩

theorem trans (h : s.AsksOther t) (k : t.AsksOther u) : s.AsksOther u := by
  obtain ⟨l, hl, other⟩ := h
  obtain ⟨m, hm, more⟩ := k
  refine ⟨l ++ m, by rw [hm, hl, List.append_assoc], fun r hr => ?_⟩
  rcases List.mem_append.1 hr with hr | hr
  · exact other r hr
  · exact more r hr

theorem ask {r : AlarmRequest} (h : s.AsksOther t) (other : r.names ≠ .inputStale) : s.AsksOther (t.ask r) :=
  h.trans ⟨[r], rfl, by simpa using other⟩

theorem mem (h : s.AsksOther t) {r : AlarmRequest} (hr : r ∈ s.agenda) : r ∈ t.agenda := by
  obtain ⟨l, hl, -⟩ := h
  rw [hl]; exact List.mem_append_left l hr

/-- The request that stood first still does. -/
theorem first (h : s.AsksOther t) {r : AlarmRequest} (hr : s.agenda = [r]) : t.agenda.head? = some r := by
  obtain ⟨l, hl, -⟩ := h
  rw [hl, hr]; rfl

/-- Where no request stood, none names INPUT STALE. -/
theorem free (h : s.AsksOther t) (none : s.agenda = []) {r : AlarmRequest} (hr : r.names = .inputStale) : r ∉ t.agenda := by
  obtain ⟨l, hl, other⟩ := h
  rw [hl, none]
  exact fun mem => other r mem hr

end State.AsksOther

section
variable {s : State} {i : Fin 4} {k : Fin 16}

@[simp] theorem State.writeLatch_agenda (s : State) (o : Fin 8) (n : Nat) : (s.writeLatch o n).agenda = s.agenda := by
  unfold State.writeLatch; split
  · rfl
  · exact State.kickStream_agenda _

@[simp] theorem State.takeCount_agenda (s : State) (o : Fin 8) (n : Nat) : (s.takeCount o n).agenda = s.agenda := by
  have uncarried : (s.uncarry o).agenda = s.agenda := by unfold State.uncarry; split <;> rfl
  unfold State.takeCount; split
  · rfl
  · rw [State.writeLatch_agenda, uncarried]

@[simp] theorem State.noteChange_agenda (s : State) (i : Fin 4) : (s.noteChange i).agenda = s.agenda := by
  obtain ⟨l, f, noted⟩ := s.noteChange_frame i; rw [noted]

theorem State.cfStop_asks (s : State) (i : Fin 4) (c : CfSlot) (st : CfState) : s.AsksOther (s.cfStop i c st) := by
  unfold State.cfStop
  extract_lets s1 s2
  have handed : s.AsksOther s1 := .of_eq (State.takeCount_agenda _ _ _)
  refine .trans ?_ (.of_eq (s2.noteChange_agenda i))
  simp only [s2]; split
  · exact handed.ask (by simp [AlarmRequest.names])
  · exact handed

theorem State.caEnter_asks (s : State) (i : Fin 4) (a : CaSlot) (st : CaState) : s.AsksOther (s.caEnter i a st) := by
  unfold State.caEnter
  extract_lets run a1 s1 s2
  have asked : s.AsksOther s2 := by
    have put : s.AsksOther s1 := .of_eq rfl
    simp only [s2]
    repeat' split
    · exact put
    · exact put.ask (by simp [AlarmRequest.names])
    · exact put.ask (by simp [AlarmRequest.names])
    · exact put
  have handed : (s2.caHand a1).agenda = s2.agenda := by unfold State.caHand; split <;> exact State.takeCount_agenda _ _ _
  exact asked.trans (.of_eq ((State.noteChange_agenda _ i).trans handed))

theorem State.cgEnter_asks {g : CgSlot} (h : g.state ≠ .flush) (st : CgState) : s.AsksOther (s.cgEnter i g st) := by
  have handed (t : State) (g : CgSlot) : (t.cgHand g).agenda = t.agenda := by
    unfold State.cgHand; split <;> exact State.takeCount_agenda _ _ _
  unfold State.cgEnter
  rw [if_neg h]
  exact .of_eq ((State.noteChange_agenda _ i).trans ((handed _ _).trans rfl))

theorem State.cfInputFailed_asks (s : State) (i : Fin 4) (c : CfSlot) : s.AsksOther (s.cfInputFailed i c) := by
  unfold State.cfInputFailed; split
  · exact s.cfStop_asks i c .fault
  · exact .of_eq rfl

theorem State.cfLeaveFault_asks (s : State) (i : Fin 4) (c : CfSlot) : s.AsksOther (s.cfLeaveFault i c) := by
  unfold State.cfLeaveFault; split
  · exact .trans (.ask (.of_eq rfl) (by simp [AlarmRequest.names])) (State.cfStop_asks _ i c .off)
  · exact .of_eq rfl

theorem State.caRelease_asks (s : State) (i : Fin 4) : s.AsksOther (s.caRelease i) := by
  rcases s.caRelease_cases i with same | ⟨a, -, entered⟩
  · exact .of_eq (congrArg State.agenda same)
  · rw [entered]; exact s.caEnter_asks i a .running

theorem State.inputLost_asks (s : State) (k : Fin 16) : s.AsksOther (s.inputLost k) := by
  unfold State.inputLost
  split
  · exact .of_eq rfl
  split
  case h_1 c _ =>
    split
    · exact s.cfInputFailed_asks _ c
    · exact .of_eq rfl
  case h_2 a _ =>
    split
    · exact s.caEnter_asks _ a .forced
    · exact .of_eq rfl
  case h_3 g _ =>
    split
    · exact State.cgEnter_asks (by simp [*]) .fault
    · exact .of_eq rfl
  case h_4 => exact .of_eq rfl

theorem State.inputBack_asks (s : State) (k : Fin 16) : s.AsksOther (s.inputBack k) := by
  unfold State.inputBack
  split
  · exact .of_eq rfl
  split
  case h_1 c _ =>
    split
    · exact s.cfLeaveFault_asks _ c
    · exact .of_eq rfl
  case h_2 a _ =>
    split
    · exact s.caRelease_asks _
    · exact .of_eq rfl
  case h_3 g _ =>
    split
    · exact State.cgEnter_asks (by simp [*]) .running
    · exact .of_eq rfl
  case h_4 => exact .of_eq rfl

/-! ## What an item slot does leaves the outputs alone -/

@[simp] theorem State.noteChange_output (s : State) (i : Fin 4) : (s.noteChange i).output = s.output := by
  obtain ⟨l, f, noted⟩ := s.noteChange_frame i; rw [noted]

theorem State.onDi_output {f : DiSlot → State} (h : ∀ d, (f d).output = s.output) : (s.onDi i f).output = s.output := by
  unfold State.onDi; split
  · exact h _
  · rfl

@[simp] theorem State.diStop_output (s : State) (i : Fin 4) (d : DiSlot) (st : DiState) :
    (s.diStop i d st).output = s.output := by
  have cleared (t : State) : (t.clearStarved i).output = t.output := by unfold State.clearStarved; split <;> rfl
  simp [State.diStop, cleared]

@[simp] theorem State.gateJam_output (s : State) (i : Fin 4) (d : DiSlot) : (s.gateJam i d).output = s.output := by
  unfold State.gateJam
  extract_lets lost d1 gate counters d2 s1 s2 s3
  have posted : s3.output = s.output := by
    simp only [s3, s2]; repeat' split
    all_goals rfl
  split
  · rw [State.diStop_output, posted]
  · exact posted

@[simp] theorem State.tryStart_output (s : State) (i : Fin 4) : (s.tryStart i).output = s.output := by
  unfold State.tryStart
  refine State.onDi_output fun d => ?_
  repeat' split
  all_goals rfl

@[simp] theorem State.countFed_output (s : State) (i : Fin 4) (d : DiSlot) : (s.countFed i d).output = s.output := by
  unfold State.countFed; split <;> rfl

@[simp] theorem State.gateReady_output (s : State) (i : Fin 4) (d : DiSlot) : (s.gateReady i d).output = s.output := by
  unfold State.gateReady
  extract_lets s1 s2
  have asked : s2.output = s.output := by simp only [s2]; split <;> rfl
  split
  · exact (State.onDi_output fun d' => s2.diStop_output i d' .off).trans asked
  · exact asked

@[simp] theorem State.gateRun_output (n : Nat) (s : State) (i : Fin 4) : (s.gateRun n i).output = s.output := by
  induction n generalizing s with
  | zero => rfl
  | succ n ih =>
    unfold State.gateRun
    refine State.onDi_output fun d => ?_
    repeat' split
    all_goals simp only [ih, State.setSlot_output, State.gateJam_output, State.tryStart_output, State.gateReady_output]
    refine Eq.trans ?_ (s.countFed_output i d)
    exact State.onDi_output fun _ => rfl

@[simp] theorem State.interrupt_output (s : State) (i : Fin 4) : (s.interrupt i).output = s.output := by
  unfold State.interrupt
  refine State.onDi_output fun d => ?_
  split
  · exact State.gateRun_output _ _ i
  · rfl
  · rfl

theorem State.diTrip_output (s : State) (i : Fin 4) (d : DiSlot) : (s.diTrip i d).output = s.output := by
  unfold State.diTrip State.diLeave
  repeat' split
  all_goals simp

/-! ## A latch at 0 stays there through the alarm unit's work (R71) -/

/-- Between two states no latch has left 0. -/
def State.ZeroesStay (s t : State) : Prop := ∀ o, (s.latch o).count = 0 → (t.latch o).count = 0

theorem State.ZeroesStay.of_output {s t : State} (h : t.output = s.output) : s.ZeroesStay t := fun o zero => by
  rw [State.latch, h]; exact zero

/-- R71: a stop hands its latch 0. -/
theorem State.takeZero_count (s : State) (o : Fin 8) : s.ZeroesStay (s.takeCount o 0) := fun p zero => by
  by_cases hp : p = o
  · subst hp
    by_cases taken : (s.latch p).carried = false ∨ s.station = .run
    · obtain ⟨b, latch⟩ := State.takeCount_latch_self (n := 0) taken
      rw [latch]; simp
    · obtain ⟨carried, out⟩ := not_or.1 taken
      rw [State.takeCount_carried (by simpa using carried) out]; exact zero
  · rw [State.takeCount_count_ne hp]; exact zero

theorem State.cfStop_output (s : State) (i : Fin 4) (c : CfSlot) (st : CfState) :
    (s.cfStop i c st).output = ((s.setSlot i (.cf (c.stopped st))).takeCount c.par.output 0).output := by
  unfold State.cfStop State.handTarget
  rw [driveCount_zero]
  extract_lets s1 s2
  rw [State.noteChange_output]
  simp only [s2]; split <;> rfl

theorem State.cfStop_zeroes (s : State) (i : Fin 4) (c : CfSlot) (st : CfState) : s.ZeroesStay (s.cfStop i c st) := fun o zero =>
  State.ZeroesStay.of_output (s.cfStop_output i c st) o (State.takeZero_count _ c.par.output o zero)

/-- R71: in RUN the latch of a slot that is stopped holds 0. -/
theorem State.cfStop_latch (hr : s.station = .run) (c : CfSlot) (st : CfState) :
    ((s.cfStop i c st).latch c.par.output).count = 0 := by
  obtain ⟨b, taken⟩ := State.takeCount_latch_self (s := s.setSlot i (.cf (c.stopped st))) (o := c.par.output) (n := 0) (.inr hr)
  rw [State.latch, s.cfStop_output i c st]
  exact (congrArg Latch.count taken).trans (by simp)

theorem State.tripReport_zeroes (s : State) (i : Fin 4) : s.ZeroesStay (s.tripReport i) := by
  unfold State.tripReport
  split
  · unfold State.cfTrip
    repeat' split
    · exact s.cfStop_zeroes i _ _
    · exact .of_output rfl
    · exact s.cfStop_zeroes i _ _
    · exact .of_output rfl
  · exact .of_output (s.diTrip_output i _)
  · exact .of_output rfl

theorem alarmWork_zeroes : AlarmWork State.ZeroesStay where
  trans h k := fun o zero => k o (h o zero)
  quiet plant _ := .of_output (congrArg Prod.snd plant)
  trips s o zero := State.tripReport_zeroes _ 3 o <| State.tripReport_zeroes _ 2 o <| State.tripReport_zeroes _ 1 o <|
    s.tripReport_zeroes 0 o zero

end

end Sys2Proof.Machine
end

section
/-! PROOFS. The freshness of an input and its consumer's reaction (R65, R66, R84, R116, R120). -/

namespace Sys2Proof.Machine

section
variable {s : State} {i : Fin 4} {k : Fin 16} {c : Nat}

/-- R66: no input of a consumer stands FAILED. -/
theorem State.failedInputs_eq_zero : s.failedInputs c = 0 ↔
    ∀ j, (s.inputCfg j).role.timed = true → (s.inputCfg j).consumer = c → (s.input j).freshness ≠ .failed := by
  simp [State.failedInputs, List.countP_eq_zero, inputList, State.inputFailed]

/-! ## An input passes to FAILED (R65, R66) -/

/-- R65: an input that has passed to FAILED. -/
def Input.failed (x : Input) : Input := { x with freshness := .failed, holdDue := none }

/-- R65, R66: the station as an input has passed to FAILED, with INPUT STALE's raise where it is its consumer's first. -/
def State.withFailed (s : State) (k : Fin 16) : State :=
  { s.setInput k (s.input k).failed with
    agenda := s.agenda ++ if s.failedInputs (s.inputCfg k).consumer = 0 then [.raise .inputStale (s.inputCfg k).consumer] else [] }

theorem State.holdExpires_eq (s : State) (k : Fin 16) : s.holdExpires k = (s.withFailed k).inputLost k := by
  unfold State.holdExpires State.withFailed
  by_cases first : s.failedInputs (s.inputCfg k).consumer = 0
  · simp only [first, decide_true, ↓reduceIte]; rfl
  · simp only [first, decide_false, Bool.false_eq_true, ↓reduceIte, List.append_nil]; rfl

theorem exec_holdTimeExpiry (h : s.calm) {due : Nat} (hd : (s.input k).holdDue = some due) :
    exec (.holdTimeExpiry k) s = .next (((s.begun.reach due).withFailed k).inputLost k).settle := by
  have event (t : State) (ht : (t.input k).holdDue = some due) :
      (match (t.input k).holdDue with
        | none => t
        | some due => (t.reach due).holdExpires k) = ((t.reach due).withFailed k).inputLost k := by
    rw [ht]; exact State.holdExpires_eq _ k
  exact congrArg Host.Outcome.next ((State.takeEvent_live _ h.1).trans (congrArg State.settle (event s.begun hd)))

/-! ## The consumer's reaction to a FAILED input (R84, R116, R120) -/

theorem State.inputLost_none (hk : (s.inputCfg k).slot = none) : s.inputLost k = s := by
  simp only [State.inputLost, hk]

theorem State.inputLost_cf (hk : (s.inputCfg k).slot = some i) {x : CfSlot} (hs : s.slot i = .cf x) :
    s.inputLost k = if x.par.input = k then s.cfInputFailed i x else s := by
  simp only [State.inputLost, hk, hs]

theorem State.inputLost_di (hk : (s.inputCfg k).slot = some i) {d : DiSlot} (hs : s.slot i = .di d) : s.inputLost k = s := by
  simp only [State.inputLost, hk, hs]

theorem State.inputLost_ca (hk : (s.inputCfg k).slot = some i) {a : CaSlot} (hs : s.slot i = .ca a) :
    s.inputLost k = if a.par.flowInput = k ∧ a.state = .running then s.caEnter i a .forced else s := by
  simp only [State.inputLost, hk, hs]

theorem State.inputLost_cg (hk : (s.inputCfg k).slot = some i) {g : CgSlot} (hs : s.slot i = .cg g) :
    s.inputLost k = if g.par.input = k ∧ g.state = .running then s.cgEnter i g .fault else s := by
  simp only [State.inputLost, hk, hs]

/-- R84: a CF slot in RUN that loses its mass input is stopped in FAULT. -/
theorem State.inputLost_stops (hk : (s.inputCfg k).slot = some i) {x : CfSlot} (hs : s.slot i = .cf x) (hx : x.par.input = k)
    (hr : s.station = .run) (hf : x.state ≠ .fault) : s.inputLost k = s.cfStop i x .fault := by
  rw [State.inputLost_cf hk hs, if_pos hx, State.cfInputFailed, if_pos ⟨hr, hf⟩]

theorem State.inputLost_cf_same (hk : (s.inputCfg k).slot = some i) {x : CfSlot} (hs : s.slot i = .cf x)
    (h : x.par.input ≠ k ∨ s.station ≠ .run ∨ x.state = .fault) : s.inputLost k = s := by
  rw [State.inputLost_cf hk hs]
  split
  case isTrue mine => exact if_neg fun ⟨run, fault⟩ => by simp_all
  case isFalse => rfl

/-! ## An input passes to FRESH (R65, R66) -/

/-- R65, R66: the station with a sample taken of a FAILED input, with INPUT STALE's clear where no other of its consumer's inputs
stands FAILED. -/
def State.withReturn (s : State) (k : Fin 16) (raw : Nat) : State :=
  { s.sampled k raw with
    agenda := s.agenda ++
      if (s.sampled k raw).failedInputs (s.inputCfg k).consumer = 0 then [.clear .inputStale (s.inputCfg k).consumer] else [] }

theorem State.takeSample_failed {raw : Nat} (hf : (s.input k).freshness = .failed) :
    s.takeSample k raw = (s.withReturn k raw).inputBack k := by
  unfold State.takeSample State.withReturn
  simp only [hf, true_and, reduceCtorEq, ↓reduceIte]
  change (if (s.sampled k raw).failedInputs (s.inputCfg k).consumer = 0 then _ else _ : State).inputBack k = _
  by_cases last : (s.sampled k raw).failedInputs (s.inputCfg k).consumer = 0
  · simp only [last, ↓reduceIte]; rfl
  · simp only [last, ↓reduceIte, List.append_nil]; rfl

theorem exec_sampleWord_failed (h : s.calm) (raw : BitVec 16) (timed : (s.inputCfg k).role.timed = true)
    (hf : (s.input k).freshness = .failed) :
    exec (.sampleWord k raw true) s = .next ((s.begun.withReturn k raw.toNat).inputBack k).settle := by
  have word : s.begun.takeWord k raw.toNat true = (s.begun.withReturn k raw.toNat).inputBack k :=
    (State.takeWord_timed s.begun k _ timed).trans (State.takeSample_failed (s := s.begun) hf)
  exact congrArg Host.Outcome.next ((State.takeEvent_live _ h.1).trans (congrArg State.settle word))

/-- R66: the sampled input stands FAILED no more; the others stand as they did. -/
theorem State.sampled_failedInputs {raw : Nat} : (s.sampled k raw).failedInputs c = 0 ↔
    ∀ j, j ≠ k → (s.inputCfg j).role.timed = true → (s.inputCfg j).consumer = c → (s.input j).freshness ≠ .failed := by
  rw [State.failedInputs_eq_zero]
  have other (j : Fin 16) (hj : j ≠ k) : (s.sampled k raw).input j = s.input j := s.setInput_input_ne k j _ hj
  refine forall_congr' fun j => ?_
  by_cases hj : j = k
  · subst hj
    simp [State.sampled_input, State.freshInput, Input.sampled]
  · rw [other j hj]
    exact ⟨fun h _ => h, fun h => h hj⟩

/-! ## The consumer's reaction to its input's return (R84, R116, R120) -/

theorem State.inputBack_cf (hk : (s.inputCfg k).slot = some i) {x : CfSlot} (hs : s.slot i = .cf x) (hx : x.par.input = k) :
    s.inputBack k = s.cfLeaveFault i x := by
  simp only [State.inputBack, hk, hs, hx, ↓reduceIte]

theorem State.inputBack_ca (hk : (s.inputCfg k).slot = some i) {a : CaSlot} (hs : s.slot i = .ca a) (ha : a.par.flowInput = k) :
    s.inputBack k = s.caRelease i := by
  simp only [State.inputBack, hk, hs, ha, ↓reduceIte]

theorem State.inputBack_cg (hk : (s.inputCfg k).slot = some i) {g : CgSlot} (hs : s.slot i = .cg g) (hg : g.par.input = k)
    (hf : g.state = .fault) : s.inputBack k = s.cgEnter i g .running := by
  simp only [State.inputBack, hk, hs, hg, hf, true_and, ↓reduceIte]

theorem State.withReturn_fresh (s : State) (k : Fin 16) (raw : Nat) : (s.withReturn k raw).inputFresh k = true :=
  congrArg (fun x : Input => x.freshness == .fresh) (s.sampled_input k raw)

theorem State.withReturn_failed (s : State) (k : Fin 16) (raw : Nat) : (s.withReturn k raw).inputFailed k = false :=
  congrArg (fun x : Input => x.freshness == .failed) (s.sampled_input k raw)

end

/-! ## The two expiries -/

theorem exec_freshTimeExpiry {s : State} {k : Fin 16} {due : Nat} (h : s.calm) (hd : (s.input k).freshDue = some due) :
    exec (.freshTimeExpiry k) s = .next ((s.begun.reach due).freshExpires k) := by
  have event (t : State) (ht : (t.input k).freshDue = some due) :
      (match (t.input k).freshDue with
        | none => t
        | some due => (t.reach due).freshExpires k) = (t.reach due).freshExpires k := by rw [ht]
  refine congrArg Host.Outcome.next ((State.takeEvent_calm _ h ?_).trans (event s.begun hd))
  exact (congrArg State.agenda (event s.begun hd)).trans h.2

/-- R65: what the expiry of a hold timer leaves of the station's still parts. -/
theorem exec_holdTimeExpiry_still {s : State} {k : Fin 16} {due : Nat} (h : s.calm) (hd : (s.input k).holdDue = some due) :
    ∃ t, exec (.holdTimeExpiry k) s = .next t ∧ t.still = ((s.begun.reach due).withFailed k).still :=
  ⟨_, exec_holdTimeExpiry h hd, (State.settle_still _).trans (State.inputLost_still _ k)⟩

/-- R65: beside its own input the expiry of a hold timer leaves the still parts as they stood. -/
theorem holdTimeExpiry_input {s : State} {k : Fin 16} {due : Nat} (h : s.calm) (hd : (s.input k).holdDue = some due) :
    ∃ t, exec (.holdTimeExpiry k) s = .next t ∧ t.input k = (s.input k).failed ∧ (∀ j, j ≠ k → t.input j = s.input j) ∧
      t.now = max s.now due ∧ t.picture = s.picture ∧ t.nv = s.nv := by
  obtain ⟨t, taken, still⟩ := exec_holdTimeExpiry_still h hd
  refine ⟨t, taken, ?_, fun j hj => ?_, congrArg Still.now still, congrArg Still.picture still, congrArg Still.nv still⟩
  · exact (input_of_still still k).trans ((s.begun.reach due).setInput_input_self k _)
  · exact (input_of_still still j).trans ((s.begun.reach due).setInput_input_ne k j _ hj)

/-! ## The reactions, announced and kept -/

section
variable {s : State} {i : Fin 4} {k : Fin 16} {c : Nat}

/-- R66: INPUT STALE is asked for at the consumer's first FAILED input, and at no other. -/
theorem State.inputLost_stale (none : s.agenda = []) (hc : c = (s.inputCfg k).consumer) :
    ((∀ j, (s.inputCfg j).role.timed = true → (s.inputCfg j).consumer = c → (s.input j).freshness ≠ .failed) →
      ((s.withFailed k).inputLost k).agenda.head? = some (.raise .inputStale c)) ∧
    ((∃ j, (s.inputCfg j).role.timed = true ∧ (s.inputCfg j).consumer = c ∧ (s.input j).freshness = .failed) →
      .raise .inputStale c ∉ ((s.withFailed k).inputLost k).agenda) := by
  subst hc
  have asks := (s.withFailed k).inputLost_asks k
  refine ⟨fun first => asks.first ?_, fun ⟨j, timed, mine, failed⟩ => asks.free ?_ rfl⟩
  · rw [State.withFailed, none, if_pos (State.failedInputs_eq_zero.2 first)]; rfl
  · rw [State.withFailed, none, if_neg fun zero => State.failedInputs_eq_zero.1 zero j timed mine failed]; rfl

/-- R66: INPUT STALE is cleared as the consumer's last FAILED input returns, and at no other return. -/
theorem State.inputBack_stale {raw : Nat} (none : s.agenda = []) (hc : c = (s.inputCfg k).consumer) :
    ((∀ j, j ≠ k → (s.inputCfg j).role.timed = true → (s.inputCfg j).consumer = c → (s.input j).freshness ≠ .failed) →
      ((s.withReturn k raw).inputBack k).agenda.head? = some (.clear .inputStale c)) ∧
    ((∃ j, j ≠ k ∧ (s.inputCfg j).role.timed = true ∧ (s.inputCfg j).consumer = c ∧ (s.input j).freshness = .failed) →
      .clear .inputStale c ∉ ((s.withReturn k raw).inputBack k).agenda) := by
  subst hc
  have asks := (s.withReturn k raw).inputBack_asks k
  refine ⟨fun last => asks.first ?_, fun ⟨j, hj, timed, mine, failed⟩ => asks.free ?_ rfl⟩
  · rw [State.withReturn, none, if_pos (State.sampled_failedInputs.2 last)]; rfl
  · rw [State.withReturn, none, if_neg fun zero => State.sampled_failedInputs.1 zero j hj timed mine failed]; rfl

/-- R84: a CF slot in RUN that loses its mass input, and what the requests leave of it. -/
theorem State.inputLost_cf_faults (hk : (s.inputCfg k).slot = some i) {x : CfSlot} (hs : s.slot i = .cf x) (hx : x.par.input = k)
    (hr : s.station = .run) (hf : x.state ≠ .fault) : s.announces (s.inputLost k) i ∧
      ((s.inputLost k).settle.latch x.par.output).count = 0 ∧ (s.inputLost k).settle.slot i = .cf (x.stopped .fault) := by
  have ho : s.offers := by simp [State.offers, hr]
  rw [State.inputLost_stops hk hs hx hr hf]
  exact ⟨State.cfStop_announces ho x .fault, alarmWork_zeroes.settle _ _ (State.cfStop_latch hr x .fault),
    State.settle_slot (cfStop_slot s i x .fault) rfl⟩

/-- R116: a running fan that loses its air flow is FORCED. -/
theorem State.inputLost_ca_forces (hk : (s.inputCfg k).slot = some i) {a : CaSlot} (hs : s.slot i = .ca a)
    (ha : a.par.flowInput = k) (hr : a.state = .running) (ho : s.offers) :
    s.announces (s.inputLost k) i ∧ (s.inputLost k).settle.slot i = .ca (a.entered .forced) := by
  rw [State.inputLost_ca hk hs, if_pos ⟨ha, hr⟩]
  exact ⟨State.caEnter_announces ho a .forced, State.settle_slot (s.caEnter_slot_self i a .forced) rfl⟩

/-- R120: a running grate that loses its pressure enters FAULT. -/
theorem State.inputLost_cg_faults (hk : (s.inputCfg k).slot = some i) {g : CgSlot} (hs : s.slot i = .cg g)
    (hg : g.par.input = k) (hr : g.state = .running) (ho : s.offers) :
    s.announces (s.inputLost k) i ∧ (s.inputLost k).settle.slot i = .cg (g.entered .fault) := by
  rw [State.inputLost_cg hk hs, if_pos ⟨hg, hr⟩]
  exact ⟨State.cgEnter_announces ho g .fault (by simp [hr]), State.settle_slot (s.cgEnter_slot_self i g .fault) rfl⟩

/-- R84: a CF slot in FAULT without a permit whose mass input is back enters OFF. -/
theorem State.inputBack_cf_leaves (hk : (s.inputCfg k).slot = some i) {x : CfSlot} (hs : s.slot i = .cf x) (hx : x.par.input = k)
    (hf : x.state = .fault) (hp : s.permit i = false) (fresh : s.inputFresh k = true) (ho : s.offers) :
    s.announces (s.inputBack k) i ∧ .clear .feedFailedToStart i.val ∈ (s.inputBack k).agenda ∧
      (s.inputBack k).settle.slot i = .cf (x.stopped .off) := by
  rw [State.inputBack_cf hk hs hx, State.cfLeaveFault, if_pos ⟨hf, hp, hx ▸ fresh⟩]
  generalize hq : s.ask (.clear .feedFailedToStart i.val) = q
  have asked : AlarmRequest.clear .feedFailedToStart i.val ∈ q.agenda := by simp [← hq]
  refine ⟨?_, (q.cfStop_asks i x .off).mem asked, State.settle_slot (cfStop_slot q i x .off) rfl⟩
  subst hq
  exact State.cfStop_announces (s := s.ask _) ho x .off

/-- R84: while the permit is asserted the slot stays in FAULT. -/
theorem State.inputBack_cf_stays (hk : (s.inputCfg k).slot = some i) {x : CfSlot} (hs : s.slot i = .cf x) (hx : x.par.input = k)
    (hp : s.permit i = true) : s.inputBack k = s := by
  rw [State.inputBack_cf hk hs hx]
  exact if_neg fun ⟨_, unasserted, _⟩ => by rw [hp] at unasserted; cases unasserted

/-- R116: a forced fan whose air flow is back, with no flush, enters RUNNING. -/
theorem State.inputBack_ca_releases (hk : (s.inputCfg k).slot = some i) {a : CaSlot} (hs : s.slot i = .ca a)
    (ha : a.par.flowInput = k) (hf : a.state = .forced) (serves : s.inputFailed k = false) (calm : s.localFlush = false)
    (ho : s.offers) : s.announces (s.inputBack k) i ∧ (s.inputBack k).settle.slot i = .ca (a.entered .running) := by
  rw [State.inputBack_ca hk hs ha, State.caRelease_forced hs hf (by rw [State.caForced, calm, ha, serves]; rfl)]
  exact ⟨State.caEnter_announces ho a .running, State.settle_slot (s.caEnter_slot_self i a .running) rfl⟩

/-- R115, R116: a flush keeps the fan forced. -/
theorem State.inputBack_ca_stays (hk : (s.inputCfg k).slot = some i) {a : CaSlot} (hs : s.slot i = .ca a)
    (ha : a.par.flowInput = k) (flush : s.localFlush = true) : s.inputBack k = s := by
  rw [State.inputBack_ca hk hs ha]
  exact State.caRelease_other fun b _ _ => by rw [State.caForced, flush]; rfl

/-- R120: a grate in FAULT whose pressure is back enters RUNNING. -/
theorem State.inputBack_cg_runs (hk : (s.inputCfg k).slot = some i) {g : CgSlot} (hs : s.slot i = .cg g) (hg : g.par.input = k)
    (hf : g.state = .fault) (ho : s.offers) :
    s.announces (s.inputBack k) i ∧ (s.inputBack k).settle.slot i = .cg (g.entered .running) := by
  rw [State.inputBack_cg hk hs hg hf]
  exact ⟨State.cgEnter_announces ho g .running (by simp [hf]), State.settle_slot (s.cgEnter_slot_self i g .running) rfl⟩

end

/-- Settles O42: each consumer's reaction on the state with the input's new freshness, which shares slots, permits and link with the
state before the event. -/
theorem silentInputsAreHeldAndFail : Obligations.SilentInputsAreHeldAndFail := by
  refine ⟨fun s k due h => ⟨exec_freshTimeExpiry h, holdTimeExpiry_input h⟩, fun s k due c h hd hc => ?_,
    fun s k raw c h timed failed hc => ?_⟩
  · obtain ⟨raised, silent⟩ := State.inputLost_stale (s := s.begun.reach due) h.2 hc
    let q := (s.begun.reach due).withFailed k
    have kept (same : q.inputLost k = q) : (q.inputLost k).channels = s.channels ∧ (q.inputLost k).link = s.link :=
      ⟨(congrArg State.channels same).trans rfl, (congrArg State.link same).trans rfl⟩
    refine ⟨_, _, exec_holdTimeExpiry h hd, rfl, raised, silent, fun hk => kept (State.inputLost_none hk), fun i hk =>
      ⟨fun x hs => ⟨fun hx hr hf => ?_, fun other => kept (State.inputLost_cf_same hk hs other)⟩,
        fun d hs => kept (State.inputLost_di hk hs),
        fun a hs => ⟨fun ha hr ho => ?_, fun other =>
          kept ((State.inputLost_ca (s := q) hk hs).trans (if_neg (not_and_or.2 other)))⟩,
        fun g hs => ⟨fun hg hr ho => ?_, fun other =>
          kept ((State.inputLost_cg (s := q) hk hs).trans (if_neg (not_and_or.2 other)))⟩⟩⟩
    · obtain ⟨told, zero, slot⟩ := State.inputLost_cf_faults (s := q) hk hs hx hr hf
      exact ⟨told, zero, _, slot, rfl, rfl, rfl, rfl, rfl, rfl, rfl⟩
    · obtain ⟨told, slot⟩ := State.inputLost_ca_forces (s := q) hk hs ha hr ho
      exact ⟨told, _, slot, rfl, rfl⟩
    · obtain ⟨told, slot⟩ := State.inputLost_cg_faults (s := q) hk hs hg hr ho
      exact ⟨told, _, slot, rfl, rfl⟩
  · obtain ⟨cleared, silent⟩ := State.inputBack_stale (s := s.begun) (raw := raw.toNat) h.2 hc
    let q := s.begun.withReturn k raw.toNat
    have kept (same : q.inputBack k = q) : (q.inputBack k).channels = s.channels ∧ (q.inputBack k).link = s.link :=
      ⟨(congrArg State.channels same).trans rfl, (congrArg State.link same).trans rfl⟩
    refine ⟨_, _, exec_sampleWord_failed h raw timed failed, rfl, cleared, silent, fun i hk =>
      ⟨fun x hs hx hf => ⟨fun hp ho => ?_, fun hp => kept (State.inputBack_cf_stays hk hs hx hp)⟩,
        fun a hs ha hf => ⟨fun calm ho => ?_, fun flush =>
          kept (State.inputBack_ca_stays hk hs ha (State.localFlush_iff.2 flush))⟩,
        fun g hs hg hf ho => ?_⟩⟩
    · obtain ⟨told, asked, slot⟩ := State.inputBack_cf_leaves (s := q) hk hs hx hf hp (s.begun.withReturn_fresh k _) ho
      exact ⟨told, asked, _, slot, rfl, rfl⟩
    · have free : q.localFlush = false := Bool.eq_false_iff.2 fun flush => by
        obtain ⟨j, g, hj, hg⟩ := State.localFlush_iff.1 flush
        exact calm j g hj hg
      obtain ⟨told, slot⟩ := State.inputBack_ca_releases (s := q) hk hs ha hf (s.begun.withReturn_failed k _) free ho
      exact ⟨told, _, slot, rfl, rfl⟩
    · obtain ⟨told, slot⟩ := State.inputBack_cg_runs (s := q) hk hs hg hf ho
      exact ⟨told, _, slot, rfl, rfl⟩

end Sys2Proof.Machine
end

section
/-! PROOFS. The trip line's event: what it does to each slot, and what the requests after it leave (R71, R82, R102, R105,
R144). -/

namespace Sys2Proof.Machine

section
variable {s t : State} {i : Fin 4} {c : CfSlot} {d : DiSlot} {asserted : Bool}

theorem now_of_still (h : t.still = s.still) : t.now = s.now := congrArg Still.now h

/-! ## The report of the trip cause to one slot (R77, R82, R105, R142) -/

theorem State.tripReport_alarms (s : State) (i : Fin 4) : (s.tripReport i).alarms = s.alarms := by
  have voiced : Voiced s (s.tripReport i) := by
    unfold State.tripReport; split <;> simp [Voiced.refl]
  exact voiced.alarms

theorem State.tripReport_still (s : State) (i : Fin 4) : (s.tripReport i).still = s.still := by
  unfold State.tripReport; split <;> simp

theorem State.classTrip_congr (ha : t.alarms = s.alarms) (hs : t.still = s.still) (i : Fin 4) :
    t.classTrip i = s.classTrip i := by
  have hc : t.cfg = s.cfg := congrArg Still.cfg hs
  simp only [State.classTrip, State.ownNumber, ha, hc]

theorem State.tripCause_congr (ha : t.alarms = s.alarms) (hs : t.still = s.still) (i : Fin 4) :
    t.tripCause i = s.tripCause i := by
  rw [State.tripCause, State.tripCause, State.classTrip_congr ha hs, ha]

/-- R142: each slot meets the report as it stands, with the alarm unit as it stands. -/
theorem State.evalTrips_meets (s : State) (i : Fin 4) : ∃ t : State, (t.alarms = s.alarms ∧ t.still = s.still) ∧
    t.slot i = s.slot i ∧ s.evalTrips.slot i = (t.tripReport i).slot i :=
  eachSlot_meets (Q := fun t => t.alarms = s.alarms ∧ t.still = s.still)
    (fun t i h => ⟨(t.tripReport_alarms i).trans h.1, (t.tripReport_still i).trans h.2⟩) State.tripReport_onlySlot ⟨rfl, rfl⟩ i

theorem State.tripReport_cf (hs : s.slot i = .cf c) : s.tripReport i = s.cfTrip i c := by rw [State.tripReport, hs]

theorem State.tripReport_di (hs : s.slot i = .di d) : s.tripReport i = s.diTrip i d := by rw [State.tripReport, hs]

theorem CfState.tripped_idle : CfState.tripped.runs = false := rfl

theorem DiSlot.tripped_idle (h : d.state = .tripped) : d.runs = false := by rw [DiSlot.runs, h]; rfl

/-- R82: a CF slot in TRIPPED without a trip cause enters OFF. -/
theorem State.evalTrips_cf_freed (hs : s.slot i = .cf c) (hc : c.state = .tripped) (free : s.tripCause i = false) :
    s.evalTrips.slot i = .cf (c.stopped .off) := by
  obtain ⟨t, ⟨alarms, still⟩, same, met⟩ := s.evalTrips_meets i
  have free' : t.tripCause i = false := (State.tripCause_congr alarms still i).trans free
  rw [met, State.tripReport_cf (same.trans hs), State.cfTrip, if_neg (by simp [free']), if_pos hc, cfStop_slot]

/-- R105: a DI slot in TRIPPED without a trip cause enters OFF, its cycle interrupted. -/
theorem State.evalTrips_di_freed (hs : s.slot i = .di d) (hd : d.state = .tripped) (calm : d.gate.conflict = false)
    (free : s.tripCause i = false) : s.evalTrips.slot i = .di ((d.stopped .off).cut s.now) := by
  obtain ⟨t, ⟨alarms, still⟩, same, met⟩ := s.evalTrips_meets i
  have free' : t.tripCause i = false := (State.tripCause_congr alarms still i).trans free
  have now : (t.diStop i d .off).now = s.now := congrArg Still.now ((t.diStop_still i d .off).trans still)
  obtain ⟨e, he, cut | ⟨fault, -⟩⟩ := State.interrupt_slot (d := d.stopped .off) (diStop_slot t i d .off) calm (.inl rfl)
  · rw [met, State.tripReport_di (same.trans hs), State.diTrip, if_neg (by simp [free']), if_pos hd, State.diLeave, he, cut, now]
  · exact absurd fault (by simp [DiSlot.stopped])

/-- R82: the report moves no CF slot that stands as its trip cause has it. -/
theorem State.evalTrips_cf_same (hs : s.slot i = .cf c)
    (h : c.state = .tripped ∧ s.tripCause i = true ∨ c.state ≠ .tripped ∧ s.tripCause i = false) :
    s.evalTrips.slot i = .cf c := by
  obtain ⟨t, ⟨alarms, still⟩, same, met⟩ := s.evalTrips_meets i
  rw [← State.tripCause_congr alarms still i] at h
  have stays : t.cfTrip i c = t := by
    rcases h with ⟨tripped, cause⟩ | ⟨running, free⟩
    · rw [State.cfTrip, if_pos cause, if_neg (by simp [tripped, CfState.tripped_idle])]
    · rw [State.cfTrip, if_neg (by simp [free]), if_neg running]
  rw [met, State.tripReport_cf (same.trans hs), stays, same, hs]

/-- R105: the report moves no DI slot that stands as its trip cause has it. -/
theorem State.evalTrips_di_same (hs : s.slot i = .di d)
    (h : d.state = .tripped ∧ s.tripCause i = true ∨ d.state ≠ .tripped ∧ s.tripCause i = false) :
    s.evalTrips.slot i = .di d := by
  obtain ⟨t, ⟨alarms, still⟩, same, met⟩ := s.evalTrips_meets i
  rw [← State.tripCause_congr alarms still i] at h
  have stays : t.diTrip i d = t := by
    rcases h with ⟨tripped, cause⟩ | ⟨running, free⟩
    · rw [State.diTrip, if_pos cause, if_neg (by simp [DiSlot.tripped_idle tripped])]
    · rw [State.diTrip, if_neg (by simp [free]), if_neg running]
  rw [met, State.tripReport_di (same.trans hs), stays, same, hs]

/-- R82, R105: the report stops a running DI slot and interrupts its cycle. -/
theorem State.evalTrips_di_tripped (hs : s.slot i = .di d) (calm : d.gate.conflict = false) (on : s.alarms.observed = true) :
    ∃ e, s.evalTrips.slot i = .di e ∧ (e = d ∨ e = (d.stopped .tripped).cut s.now) := by
  obtain ⟨t, ⟨alarms, still⟩, same, met⟩ := s.evalTrips_meets i
  have cause : t.tripCause i = true := by rw [State.tripCause, alarms, on]; rfl
  have now : (t.diStop i d .tripped).now = s.now := congrArg Still.now ((t.diStop_still i d .tripped).trans still)
  rw [met, State.tripReport_di (same.trans hs), State.diTrip, if_pos cause]
  split
  · obtain ⟨e, he, cut | ⟨fault, -⟩⟩ :=
      State.interrupt_slot (d := d.stopped .tripped) (diStop_slot t i d .tripped) calm (.inl rfl)
    · exact ⟨e, he, .inr (by rw [cut, now])⟩
    · exact absurd fault (by simp [DiSlot.stopped])
  · exact ⟨d, same.trans hs, .inl rfl⟩

/-- R142: with a trip cause at every slot and no feed slot running, the reports move nothing. -/
theorem State.evalTrips_idle (cause : ∀ i, s.tripCause i = true) (idle : ∀ i, (s.slot i).feedRuns = false) :
    s.evalTrips = s := by
  rw [State.evalTrips_eq]
  refine eachSlot_id fun i => ?_
  have runs := idle i
  unfold State.tripReport
  split
  · rename_i c hc
    have rests : c.state.runs = false := by rw [hc] at runs; exact runs
    rw [State.cfTrip, if_pos (cause i), if_neg (by simp [rests])]
  · rename_i d hd
    have rests : d.runs = false := by rw [hd] at runs; exact runs
    rw [State.diTrip, if_pos (cause i), if_neg (by simp [rests])]
  · rfl

/-! ## The event (R102, R144) -/

theorem State.interrupt_other (h : ∀ d, s.slot i ≠ .di d) : s.interrupt i = s := by
  unfold State.interrupt State.onDi; split
  · exact absurd ‹_› (h _)
  · rfl

/-- R125: the trip line touches no cooler slot. -/
theorem State.takeTrip_slot_other (h : ∀ d, s.slot i ≠ .di d) (stable : (s.slot i).stable = true) (asserted : Bool) :
    (s.takeTrip asserted).slot i = s.slot i := by
  cases asserted
  · rw [State.takeTrip_false]
    exact evalTrips_tripsOnly (s.observing false) i stable
  · have zeroed : (s.observing true).zeroFeeds.slot i = s.slot i := State.zeroFeeds_slot _ i
    have reported : (s.observing true).zeroFeeds.evalTrips.slot i = s.slot i :=
      (evalTrips_tripsOnly _ i (zeroed.symm ▸ stable)).trans zeroed
    obtain ⟨t, -, same, met⟩ :=
      eachSlot_meets (Q := fun _ => True) (fun _ _ _ => trivial) (fun t k => interrupt_onlySlot t k)
        (s := (s.observing true).zeroFeeds.evalTrips) trivial i
    rw [State.takeTrip_true, met, State.interrupt_other (fun d hd => h d ((same.trans reported).symm.trans hd)), same, reported]

/-- R102: the assertion of the trip line interrupts the cycle of a gate. -/
theorem State.takeTrip_true_di (hs : s.slot i = .di d) (calm : d.gate.conflict = false) :
    ∃ e, (s.takeTrip true).slot i = .di e ∧ e.gate = d.cutGate s.now ∧ e.queue = d.queue ∧ e.counters = d.counters := by
  have still := (s.observing true).zeroFeeds_still
  have on := s.observing_zeroFeeds_observed true
  have now : (s.observing true).zeroFeeds.now = s.now := (now_of_still still).trans rfl
  obtain ⟨d1, h1, reported⟩ :=
    State.evalTrips_di_tripped (((s.observing true).zeroFeeds_slot i).trans hs) calm on
  have cut1 : d1.cutGate s.now = d.cutGate s.now ∧ d1.queue = d.queue ∧ d1.counters = d.counters := by
    rcases reported with rfl | rfl
    · exact ⟨rfl, rfl, rfl⟩
    · rw [now]; exact ⟨DiSlot.cutGate_cut (d.stopped .tripped) s.now, rfl, rfl⟩
  have calm1 : d1.gate.conflict = false := by
    rcases reported with rfl | rfl
    · exact calm
    · exact (DiSlot.cutGate_conflict (d.stopped .tripped) _).trans calm
  obtain ⟨t, ht, same, met⟩ :=
    eachSlot_meets (Q := fun t => t.still = (s.observing true).zeroFeeds.still)
      (fun t k h => (t.interrupt_still k).trans h) (fun t k => interrupt_onlySlot t k)
      (s := (s.observing true).zeroFeeds.evalTrips) (State.evalTrips_still _) i
  obtain ⟨e, he, end1⟩ := State.interrupt_slot (same.trans h1) calm1 (.inr ((observed_of_still ht).trans on))
  have nowT : t.now = s.now := (now_of_still ht).trans now
  obtain ⟨gate, queue, counters⟩ := cut1
  rw [nowT] at end1
  refine ⟨e, by rw [State.takeTrip_true, met, he], ?_⟩
  rcases end1 with rfl | ⟨-, rfl⟩
  · exact ⟨gate, queue, counters⟩
  · exact ⟨gate, queue, counters⟩

/-- R144: the trip line taken at a new level, and FLOOR TRIP asked for. -/
def State.tripTaken (s : State) (asserted : Bool) : State :=
  if (s.takeTrip asserted).cfg.isNone then s.takeTrip asserted
  else (s.takeTrip asserted).ask (if asserted then .raise .floorTrip 255 else .clear .floorTrip 255)

theorem exec_tripLineObserved_same (h : s.calm) (same : s.alarms.observed = asserted) :
    exec (.tripLineObserved asserted) s = .next s.begun := by
  rw [execTripLineObserved_eq, State.takeEvent_live _ h.1]
  exact congrArg Host.Outcome.next ((congrArg State.settle (if_pos same)).trans (h.settle_begun rfl))

theorem exec_tripLineObserved_new (h : s.calm) (new : s.alarms.observed ≠ asserted) :
    exec (.tripLineObserved asserted) s = .next (s.begun.tripTaken asserted).settle := by
  rw [execTripLineObserved_eq, State.takeEvent_live _ h.1]
  exact congrArg Host.Outcome.next (congrArg State.settle (if_neg new))

theorem State.takeTrip_still (s : State) (asserted : Bool) : (s.takeTrip asserted).still = (s.observing asserted).still := by
  cases asserted
  · rw [State.takeTrip_false]
    exact State.evalTrips_still _
  · rw [State.takeTrip_true]
    exact (eachSlot_still State.interrupt_still _).trans ((State.evalTrips_still _).trans (State.zeroFeeds_still _))

theorem State.tripTaken_still (s : State) (asserted : Bool) : (s.tripTaken asserted).still = (s.observing asserted).still := by
  unfold State.tripTaken; split
  · exact s.takeTrip_still asserted
  · exact (State.ask_still _ _).trans (s.takeTrip_still asserted)

theorem State.tripTaken_slot (s : State) (asserted : Bool) (i : Fin 4) :
    (s.tripTaken asserted).slot i = (s.takeTrip asserted).slot i := by
  unfold State.tripTaken; split <;> rfl

theorem State.tripTaken_interlocked (s : State) (asserted : Bool) : (s.tripTaken asserted).interlocked := by
  have taken := s.takeTrip_interlocked asserted
  unfold State.tripTaken; split
  · exact taken
  · exact taken

theorem State.tripTaken_asks (hc : s.cfg.isSome = true) (asserted : Bool) :
    (if asserted = true then AlarmRequest.raise .floorTrip 255 else .clear .floorTrip 255) ∈ (s.tripTaken asserted).agenda := by
  have configured : ¬(s.takeTrip asserted).cfg.isNone = true := by
    have cfg : (s.takeTrip asserted).cfg = s.cfg := congrArg Still.cfg (s.takeTrip_still asserted)
    rw [cfg, Option.isNone_iff_eq_none]
    exact Option.isSome_iff_ne_none.1 hc
  rw [State.tripTaken, if_neg configured]
  simp

/-! ## While the trip line is asserted the requests move no slot -/

/-- Between two states: where the trip line is observed asserted and no feed slot runs, that is so still, and every slot stands as
it did. -/
def State.TrippedStays (s t : State) : Prop := s.alarms.observed = true → (∀ i, (s.slot i).feedRuns = false) →
  t.alarms.observed = true ∧ ∀ i, t.slot i = s.slot i

theorem alarmWork_trippedStays : AlarmWork State.TrippedStays where
  trans h k on idle := by
    obtain ⟨on', same⟩ := h on idle
    obtain ⟨on'', same'⟩ := k on' fun i => by rw [same i]; exact idle i
    exact ⟨on'', fun i => (same' i).trans (same i)⟩
  quiet plant still on _ := ⟨(observed_of_still still).trans on, fun i => State.slot_of_channels (congrArg Prod.fst plant) i⟩
  trips s on idle := by
    rw [State.evalTrips_idle (fun i => by rw [State.tripCause, on]; rfl) idle]
    exact ⟨on, fun _ => rfl⟩

/-- R71, R82, R105: after the assertion every slot stands as the event left it. -/
theorem State.tripTaken_true_settle (s : State) (i : Fin 4) :
    (s.tripTaken true).settle.slot i = (s.takeTrip true).slot i := by
  have on : (s.tripTaken true).alarms.observed = true := observed_of_still (s.tripTaken_still true)
  obtain ⟨-, idle⟩ := s.tripTaken_interlocked true on
  obtain ⟨-, same⟩ := alarmWork_trippedStays.settle (s.tripTaken true) on idle
  exact (same i).trans (s.tripTaken_slot true i)

/-! ## The release -/

theorem State.observing_tripCause (s : State) (i : Fin 4) : (s.observing false).tripCause i = s.classTrip i := rfl

theorem State.tripTaken_false_slot (s : State) (i : Fin 4) :
    (s.tripTaken false).slot i = (s.observing false).evalTrips.slot i := by
  rw [State.tripTaken_slot, State.takeTrip_false]

end

end Sys2Proof.Machine
end

section
/-! PROOFS. The release of the trip line where FLOOR TRIP alone bears on a slot: the clear ends the entry, and the slot leaves
TRIPPED (R132, R140, R142, R144). -/

namespace Sys2Proof.Machine

/-! ## What a clear leaves of the entries that bear on a slot (R132, R137, R140) -/

/-- An entry that grew from another without beginning to stand. -/
structure AlarmEntry.Follows (f g : AlarmEntry) : Prop where
  origin : f.origin = g.origin
  cls : f.cls = g.cls
  channel : f.channel = g.channel
  state : f.state ≠ .returned → g.state ≠ .returned

theorem AlarmEntry.Follows.refl (f : AlarmEntry) : f.Follows f := ⟨rfl, rfl, rfl, id⟩

theorem AlarmEntry.Follows.trans {f g h : AlarmEntry} (a : f.Follows g) (b : g.Follows h) : f.Follows h :=
  ⟨a.origin.trans b.origin, a.cls.trans b.cls, a.channel.trans b.channel, fun k => b.state (a.state k)⟩

/-- Between two states no entry has been made and none has begun to stand. -/
structure State.Abates (s t : State) : Prop where
  own : t.ownNumber = s.ownNumber
  entries : ∀ f ∈ t.alarms.all, ∃ g ∈ s.alarms.all, f.Follows g

section
variable {s t u : State} {i : Fin 4} {e : AlarmEntry}

/-- R142: no own entry of class 1 that stands bears on a slot. -/
theorem State.classTrip_eq_false : s.classTrip i = false ↔ ∀ f ∈ s.alarms.all, f.origin = s.ownNumber → f.cls = 1 →
    f.state ≠ .returned → ¬(f.channel = i.val ∨ f.channel = 255) := by
  simp [State.classTrip, AlarmEntry.stands]

namespace State.Abates

theorem of_board (h : t.board = s.board) : s.Abates t := by
  obtain ⟨own, table, flood⟩ : t.ownNumber = s.ownNumber ∧ t.alarms.table = s.alarms.table ∧
      t.alarms.flood = s.alarms.flood := by simpa [State.board] using h
  have all : t.alarms.all = s.alarms.all := by rw [Alarms.all, Alarms.all, table, flood]
  exact ⟨own, fun f hf => ⟨f, all ▸ hf, .refl f⟩⟩

theorem trans (h : s.Abates t) (k : t.Abates u) : s.Abates u := by
  refine ⟨k.own.trans h.own, fun f hf => ?_⟩
  obtain ⟨g, hg, fg⟩ := k.entries f hf
  obtain ⟨e, he, ge⟩ := h.entries g hg
  exact ⟨e, he, fg.trans ge⟩

theorem classTrip (h : s.Abates t) (free : s.classTrip i = false) : t.classTrip i = false := by
  rw [State.classTrip_eq_false] at free ⊢
  intro f hf origin cls stands
  obtain ⟨g, hg, follows⟩ := h.entries f hf
  rw [follows.channel]
  exact free g hg (follows.origin.symm.trans (origin.trans h.own)) (follows.cls.symm.trans cls) (follows.state stands)

theorem replace {f : AlarmEntry} (he : e ∈ s.alarms.all) (hf : f.Follows e) :
    s.Abates { s with alarms := s.alarms.replace f } := by
  refine ⟨rfl, fun g hg => ?_⟩
  change g ∈ (s.alarms.replace f).all at hg
  rw [Alarms.replace_all] at hg
  obtain ⟨h, hh, rfl⟩ := List.mem_map.1 hg
  split
  · exact ⟨e, he, hf⟩
  · exact ⟨h, hh, .refl h⟩

end State.Abates

theorem State.dropAlarm_abates (s : State) (e : AlarmEntry) : s.Abates (s.dropAlarm e) := by
  unfold State.dropAlarm
  split
  · exact ⟨rfl, fun f hf => ⟨f, List.mem_append_left _ (by simpa [Alarms.all] using hf), .refl f⟩⟩
  · refine ⟨rfl, fun f hf => ⟨f, ?_, .refl f⟩⟩
    rcases List.mem_append.1 hf with hf | hf
    · exact List.mem_append_left _ (List.mem_of_mem_filter hf)
    · exact List.mem_append_right _ hf

/-- R137: a notice that is handed back marks its entry as unpublished. -/
theorem State.handBack_abates (s : State) (n : Notice) : s.Abates (s.handBack n) := by
  have superseded : s.Abates { s with alarms := s.alarms.supersede } := .of_board rfl
  have pushed (n : Notice) : s.Abates { s with alarms := s.alarms.retryPush n } := by
    unfold Alarms.retryPush; split <;> exact .of_board rfl
  have marked {k o ch : Nat} {e f : AlarmEntry} (he : ((AlarmCode.ofNumber k).bind fun c => s.findAlarm o c ch) = some e)
      (hf : f.Follows e) : s.Abates { s with alarms := s.alarms.replace f } := by
    obtain ⟨c, -, found⟩ := Option.bind_eq_some_iff.1 he
    exact .replace (State.mem_of_findAlarm found) hf
  unfold State.handBack
  split
  · repeat' split
    · exact superseded
    · rename_i e he _
      exact marked he ⟨rfl, rfl, rfl, id⟩
    · exact superseded
    · exact pushed _
    · exact superseded
  · repeat' split
    · exact superseded
    · rename_i e he _
      exact marked he ⟨rfl, rfl, rfl, id⟩
    · exact superseded
    · exact pushed _
  · exact .of_board rfl

theorem State.offer_abates (s : State) (n : Notice) : s.Abates (s.offer n) := by
  have linked (l : Link) : s.Abates { s with link := l } := .of_board rfl
  unfold State.offer
  extract_lets l r s'
  split
  · exact (linked _).trans (State.handBack_abates _ n)
  repeat' split
  · exact linked _
  · exact (linked _).trans (.of_board (State.enterBackoff_board _))
  · exact (linked _).trans (.of_board (State.kickAccess_board _))
  · exact (linked _).trans (State.handBack_abates _ n)

/-- R132: the record and the notice of a clear. -/
theorem State.offerClear_abates (s : State) (n r a l : Nat) (e f : AlarmEntry) :
    s.Abates ((s.journal n e r a l).offerClear f) := by
  have journalled : s.Abates (s.journal n e r a l) := .of_board (State.journal_board _ _ _ _ _ _)
  unfold State.offerClear; split
  · exact journalled.trans (State.offer_abates _ _)
  · exact journalled

theorem State.clearEntry_abates (he : e ∈ s.alarms.all) : s.Abates (s.clearEntry e) := by
  unfold State.clearEntry
  extract_lets lost latched returned
  have latches : s.Abates (s.setAlarm latched) := .replace he ⟨rfl, rfl, rfl, id⟩
  have returns : s.Abates (s.setAlarm returned) := .replace he ⟨rfl, rfl, rfl, fun h => absurd rfl h⟩
  split
  · exact latches.trans (State.offerClear_abates _ _ _ _ _ _ _)
  split
  · split
    · exact .of_board rfl
    · exact returns.trans (State.offerClear_abates _ _ _ _ _ _ _)
  · exact (s.dropAlarm_abates e).trans (State.offerClear_abates _ _ _ _ _ _ _)
  · exact .of_board rfl

theorem State.floodCheck_abates (s : State) : s.Abates s.floodCheck := by
  unfold State.floodCheck State.clearKey
  repeat' split
  · exact .of_board (State.logClear_board _ _ _)
  · exact .of_board rfl
  · exact State.clearEntry_abates (State.mem_of_findAlarm ‹_›)
  · exact .of_board rfl

/-! ## The clear of the one entry that bears on a slot (R132) -/

/-- An entry alone bears on a slot. -/
def State.aloneBears (s : State) (i : Fin 4) (e : AlarmEntry) : Prop :=
  ∀ f ∈ s.alarms.all, f.origin = s.ownNumber → f.cls = 1 → f.state ≠ .returned → (f.channel = i.val ∨ f.channel = 255) → f = e

theorem State.aloneBears.setAlarm {f : AlarmEntry} (alone : s.aloneBears i e) (hf : f.state = .returned)
    (key : e.hasKey f.origin f.code f.channel = true) : (s.setAlarm f).classTrip i = false := by
  refine State.classTrip_eq_false.2 fun g hg origin cls stands bears => ?_
  change g ∈ (s.alarms.replace f).all at hg
  rw [Alarms.replace_all] at hg
  obtain ⟨h, hh, rfl⟩ := List.mem_map.1 hg
  by_cases same : h.hasKey f.origin f.code f.channel = true
  · rw [if_pos same] at stands
    exact stands hf
  · rw [if_neg same] at origin cls stands bears
    rw [alone h hh origin cls stands bears] at same
    exact same key

theorem State.aloneBears.dropAlarm (alone : s.aloneBears i e) (legal : s.alarmsLegal) (plain : s.isFloodKey e = false) :
    (s.dropAlarm e).classTrip i = false := by
  obtain ⟨-, -, -, flood⟩ := legal
  rw [State.dropAlarm, if_neg (by simp [plain])]
  refine State.classTrip_eq_false.2 fun g hg origin cls stands bears => ?_
  rcases List.mem_append.1 hg with hg | hg
  · obtain ⟨inside, other⟩ := List.mem_filter.1 hg
    have same : g = e := alone g (List.mem_append_left _ inside) origin cls stands bears
    rw [same] at other
    simp [AlarmEntry.hasKey] at other
  · have same : g = e := alone g (List.mem_append_right _ hg) origin cls stands bears
    have key := flood g (Option.mem_toList.1 hg)
    rw [same, plain] at key
    cases key

/-- R132: an entry that the clear does not latch stands no more. -/
theorem State.aloneBears.clearEntry (alone : s.aloneBears i e) (legal : s.alarmsLegal) (plain : s.isFloodKey e = false)
    (stands : e.state ≠ .returned) (unlatched : e.latched = false) (floor : (s.response e.code).floor = false) :
    (s.clearEntry e).classTrip i = false := by
  have passes : s.latches e = false := by simp [State.latches, floor]
  unfold State.clearEntry
  extract_lets lost latched returned
  have key : e.hasKey returned.origin returned.code returned.channel = true := by simp [AlarmEntry.hasKey, returned]
  rw [if_neg (by simp [passes])]
  split
  · rw [if_neg (by simp [unlatched])]
    exact (State.offerClear_abates _ _ _ _ _ _ _).classTrip (alone.setAlarm rfl key)
  · exact (State.offerClear_abates _ _ _ _ _ _ _).classTrip (alone.dropAlarm legal plain)
  · exact absurd ‹_› stands

/-! ## The release through the requests (R144) -/

/-- The first request decides over a slot that the later ones do not move. -/
theorem State.settle_slot_first {v : SlotUnit} (h : s.agenda ≠ []) (first : s.takeFirst.slot i = v) (stable : v.stable = true) :
    s.settle.slot i = v := by
  have taken : s.settleSome Config.settleFuel = s.takeFirst.settleSome (Config.settleFuel - 1) :=
    if_neg (by simpa using h)
  have kept : (s.settleSome Config.settleFuel).slot i = v := by
    rw [taken]
    exact (settleSome_tripsOnly _ s.takeFirst i (first.symm ▸ stable)).trans first
  exact kept

/-- R142, R144: the station's reports as FLOOR TRIP has been cleared. -/
def State.floorCleared (s : State) : State := (s.clearKey .floorTrip 255).floodCheck

theorem State.takeFirst_floorClear (hc : s.cfg.isSome = true) (ha : s.agenda = [.clear .floorTrip 255]) (i : Fin 4) :
    s.takeFirst.slot i = s.floorCleared.evalTrips.slot i := by
  have configured : ¬s.cfg.isNone = true := by
    rw [Option.isNone_iff_eq_none]; exact Option.isSome_iff_ne_none.1 hc
  have taken : s.takeRequest (.clear .floorTrip 255) = s.floorCleared.evalTrips := if_neg configured
  have first : s.takeFirst.slot i = (s.takeRequest (.clear .floorTrip 255)).slot i := by
    unfold State.takeFirst
    rw [ha]; rfl
  rw [first, taken]

/-- R132, R144: without the floor flag FLOOR TRIP's clear frees the slot that it alone bears on. -/
theorem State.floorCleared_classTrip (legal : s.alarmsLegal) (cls : (s.response .floorTrip).cls ≠ 4)
    (floor : (s.response .floorTrip).floor = false) (found : s.findAlarm s.ownNumber .floorTrip 255 = some e)
    (stands : e.state ≠ .returned) (unlatched : e.latched = false) (alone : s.aloneBears i e) :
    s.floorCleared.classTrip i = false := by
  obtain ⟨origin, code, channel⟩ := AlarmEntry.hasKey_iff.1 (State.hasKey_of_findAlarm found)
  have plain : s.isFloodKey e = false := by simp [State.isFloodKey, AlarmEntry.hasKey, code]
  have cleared : s.clearKey .floorTrip 255 = s.clearEntry e := by rw [State.clearKey, if_neg cls, found]
  refine (State.floodCheck_abates _).classTrip ?_
  rw [cleared]
  exact alone.clearEntry legal plain stands unlatched (code ▸ floor)

theorem State.floorCleared_slot (s : State) (i : Fin 4) : s.floorCleared.slot i = s.slot i :=
  State.slot_of_channels (congrArg Prod.fst ((State.floodCheck_plant _).trans (s.clearKey_plant _ _))) i

theorem State.floorCleared_still (s : State) : s.floorCleared.still = s.still :=
  (State.floodCheck_still _).trans (s.clearKey_still _ _)

/-- R71, R142, R144: while FLOOR TRIP stands against every slot the release itself moves no slot and asks for the clear. -/
theorem State.tripTaken_floorTrip (hc : s.cfg.isSome = true) (on : s.alarms.observed = true) (locked : s.interlocked)
    (found : s.findAlarm s.ownNumber .floorTrip 255 = some e) (cls : e.cls = 1) (stands : e.state ≠ .returned) :
    s.tripTaken false = (s.observing false).ask (.clear .floorTrip 255) := by
  obtain ⟨origin, code, channel⟩ := AlarmEntry.hasKey_iff.1 (State.hasKey_of_findAlarm found)
  have cause (i : Fin 4) : (s.observing false).tripCause i = true := by
    rw [State.observing_tripCause]
    refine List.any_eq_true.2 ⟨e, State.mem_of_findAlarm found, ?_⟩
    simp [origin, cls, channel, AlarmEntry.stands, stands]
  have stays : s.takeTrip false = s.observing false := by
    rw [State.takeTrip_false]
    exact State.evalTrips_idle cause (locked on).2
  have configured : ¬(s.observing false).cfg.isNone = true := by
    change ¬s.cfg.isNone = true
    rw [Option.isNone_iff_eq_none]; exact Option.isSome_iff_ne_none.1 hc
  rw [State.tripTaken, stays, if_neg configured]
  rfl

end

end Sys2Proof.Machine
end

section
/-! PROOFS. The trip line is observed, asserted and released (R71, R82, R102, R105, R125, R144). -/

namespace Sys2Proof.Machine

section
variable {s : State} {i : Fin 4}

/-- R71, R102: what the assertion does to the gate of an item slot, through the requests after it. -/
theorem State.tripAsserted_gate {d : DiSlot} (hs : s.slot i = .di d) (calm : d.gate.conflict = false) :
    ∃ e, (s.tripTaken true).settle.slot i = .di e ∧
      (d.gate.state = .upperOpening → d.gate.upperClosed = false → e.gate = { d.gate with
        state := .upperClosing, upperOpenCmd := false, lowerOpenCmd := false, interrupted := true
        phaseDue := some (s.now + d.par.phaseTimeout * 1000) }) ∧
      (d.gate.state = .upperOpening → d.gate.upperClosed = true → e.gate = { d.gate with
        state := .ready, upperOpenCmd := false, lowerOpenCmd := false, interrupted := false, phaseDue := none }) ∧
      (d.gate.state = .upperClosing → e.gate = { d.gate with interrupted := true }) ∧
      (d.gate.state ≠ .upperOpening → d.gate.state ≠ .upperClosing → e.gate = d.gate) ∧
      e.queue = d.queue ∧ e.counters = d.counters := by
  obtain ⟨e, he, gate, queue, counters⟩ := State.takeTrip_true_di hs calm
  exact ⟨e, (s.tripTaken_true_settle i).trans he, fun opening hc => gate.trans (DiSlot.cutGate_opening opening hc _),
    fun opening hc => gate.trans (DiSlot.cutGate_closed opening hc _), fun closing => gate.trans (DiSlot.cutGate_closing closing _),
    fun opening closing => gate.trans (DiSlot.cutGate_other opening closing _), queue, counters⟩

/-- R82: the release lets a CF slot in TRIPPED without a class-1 entry of its own pass to OFF. -/
theorem State.tripReleased_cf {c : CfSlot} (hs : s.slot i = .cf c) (tripped : c.state = .tripped) (free : s.classTrip i = false) :
    (s.tripTaken false).settle.slot i = .cf (c.stopped .off) :=
  State.settle_slot ((s.tripTaken_false_slot i).trans
    (State.evalTrips_cf_freed (s := s.observing false) hs tripped ((s.observing_tripCause i).trans free))) rfl

/-- R105: the release lets a DI slot in TRIPPED without a class-1 entry of its own pass to OFF. -/
theorem State.tripReleased_di {d : DiSlot} (hs : s.slot i = .di d) (tripped : d.state = .tripped) (free : s.classTrip i = false)
    (calm : d.gate.conflict = false) : (s.tripTaken false).settle.slot i = .di ((d.stopped .off).cut s.now) :=
  State.settle_slot ((s.tripTaken_false_slot i).trans
    (State.evalTrips_di_freed (s := s.observing false) hs tripped calm ((s.observing_tripCause i).trans free))) rfl

/-- R125: the trip line touches no cooler slot, nor do the requests after it. -/
theorem State.tripTaken_cooler (h : ∀ d, s.slot i ≠ .di d) (stable : (s.slot i).stable = true) (asserted : Bool) :
    (s.tripTaken asserted).settle.slot i = s.slot i :=
  State.settle_slot ((s.tripTaken_slot asserted i).trans (State.takeTrip_slot_other h stable asserted)) stable

/-! ## FLOOR TRIP's clear after the release (R144) -/

/-- R144: FLOOR TRIP stands at its defaults against every feed slot, and bears alone on one. -/
structure State.FloorTripAlone (s : State) (i : Fin 4) (e : AlarmEntry) : Prop where
  legal : s.alarmsLegal
  cls : (s.response .floorTrip).cls ≠ 4
  floor : (s.response .floorTrip).floor = false
  found : s.findAlarm s.ownNumber .floorTrip 255 = some e
  stands : e.state ≠ .returned
  unlatched : e.latched = false
  alone : s.aloneBears i e

/-- R142, R144: what the slot stands as once its trip cause has gone stands after all requests. -/
theorem State.floorTrip_released {e : AlarmEntry} {v : SlotUnit} (hc : s.cfg.isSome = true) (ha : s.agenda = [])
    (on : s.alarms.observed = true) (locked : s.interlocked) (h : s.FloorTripAlone i e) (cls : e.cls = 1)
    (freed : ∀ t : State, t.slot i = s.slot i → t.now = s.now → t.tripCause i = false → t.evalTrips.slot i = v)
    (stable : v.stable = true) : (s.tripTaken false).settle.slot i = v := by
  obtain ⟨legal, notLog, floor, found, stands, unlatched, alone⟩ := h
  rw [State.tripTaken_floorTrip hc on locked found cls stands]
  generalize hu : (s.observing false).ask (.clear .floorTrip 255) = u
  have asked : u.agenda = [.clear .floorTrip 255] := by
    rw [← hu, State.ask_agenda]
    exact congrArg (· ++ _) ha
  have still := u.floorCleared_still
  have released : u.floorCleared.alarms.observed = false := (observed_of_still still).trans (by rw [← hu]; rfl)
  have classFree : u.floorCleared.classTrip i = false := by
    subst hu
    exact State.floorCleared_classTrip (s := (s.observing false).ask _) legal notLog floor found stands unlatched alone
  have free : u.floorCleared.tripCause i = false := by rw [State.tripCause, released, classFree]; rfl
  have slot : u.floorCleared.slot i = s.slot i := (u.floorCleared_slot i).trans (by rw [← hu]; rfl)
  have now : u.floorCleared.now = s.now := (now_of_still still).trans (by rw [← hu]; rfl)
  refine State.settle_slot_first (by simp [asked]) ?_ stable
  rw [State.takeFirst_floorClear (by rw [← hu]; exact hc) asked]
  exact freed _ slot now free

end

/-- Settles O49: the event slot by slot, and the requests after it by what each leaves of a slot that no trip cause moves. -/
theorem tripLineIsObserved : Obligations.TripLineIsObserved := by
  refine ⟨fun s asserted h => ⟨exec_tripLineObserved_same h, fun new => ?_⟩,
    fun s i e h on hc legal locked notLog floor found cls stands unlatched alone => ?_⟩
  · have still := (State.settle_still _).trans (s.begun.tripTaken_still asserted)
    refine ⟨_, _, exec_tripLineObserved_new h new, rfl, observed_of_still still,
      fun hc => State.tripTaken_asks (s := s.begun) hc asserted, fun asserts i d hs calm => ?_, fun releases i => ?_,
      fun i a hs => ?_, fun i g hs => ?_, (State.settle_guards _).interlocked (s.begun.tripTaken_interlocked asserted),
      congrArg Still.picture still, congrArg Still.fields still, congrArg Still.nv still⟩
    · subst asserts
      exact State.tripAsserted_gate (s := s.begun) hs calm
    · subst releases
      refine ⟨fun c hs tripped free => ?_, fun d hs tripped free calm => ?_, fun c hs stays => ?_, fun d hs stays => ?_⟩
      · exact ⟨_, State.tripReleased_cf (s := s.begun) hs tripped free, rfl, rfl, rfl, rfl⟩
      · exact ⟨_, State.tripReleased_di (s := s.begun) hs tripped free calm, rfl, rfl, rfl, rfl⟩
      · exact ((s.begun.tripTaken_false_slot i).trans
          (State.evalTrips_cf_same (s := s.begun.observing false) hs stays)).trans hs.symm
      · exact ((s.begun.tripTaken_false_slot i).trans
          (State.evalTrips_di_same (s := s.begun.observing false) hs stays)).trans hs.symm
    · have hs' : s.begun.slot i = .ca a := hs
      exact (State.tripTaken_cooler (by simp [hs']) (by rw [hs']; rfl) asserted).trans hs'
    · have hs' : s.begun.slot i = .cg g := hs
      exact (State.tripTaken_cooler (by simp [hs']) (by rw [hs']; rfl) asserted).trans hs'
  · have bears : s.begun.FloorTripAlone i e := ⟨legal, notLog, floor, found, stands, unlatched, alone⟩
    refine ⟨_, exec_tripLineObserved_new h (by simp [on]), fun c hs tripped => ?_, fun d hs tripped calm => ?_⟩
    · have slot := State.floorTrip_released (s := s.begun) (v := .cf (c.stopped .off)) hc h.2 on locked bears cls
        (fun t same _ free => State.evalTrips_cf_freed (same.trans hs) tripped free) rfl
      exact ⟨_, slot, rfl, rfl, rfl, rfl, rfl⟩
    · have slot := State.floorTrip_released (s := s.begun) (v := .di ((d.stopped .off).cut s.begun.now)) hc h.2 on locked bears cls
        (fun t same now free => (State.evalTrips_di_freed (same.trans hs) tripped calm free).trans (by rw [now])) rfl
      exact ⟨_, slot, rfl, rfl, rfl, rfl, rfl⟩

end Sys2Proof.Machine
end

section
/-! PROOFS. The start timer of a CF slot: what its expiry in STARTING does (R80, R49, R71). -/

namespace Sys2Proof.Machine

section
variable {s : State} {i : Fin 4} {c : CfSlot}

theorem State.onCf_cf (h : s.slot i = .cf c) (f : CfSlot → State) : s.onCf i f = f c := by rw [State.onCf, h]

/-- R71, R74: the latch of a slot that is stopped holds 0, unless it is carried outside RUN. -/
theorem State.cfStop_latch_taken (taken : (s.latch c.par.output).carried = false ∨ s.station = .run) (st : CfState) :
    ((s.cfStop i c st).latch c.par.output).count = 0 := by
  obtain ⟨b, latch⟩ := State.takeCount_latch_self (s := s.setSlot i (.cf (c.stopped st))) (o := c.par.output) (n := 0) taken
  rw [State.latch, s.cfStop_output i c st]
  exact (congrArg Latch.count latch).trans (by simp)

/-- R82, R105: a slot that neither runs nor stands TRIPPED is one that no report of the trip cause moves. -/
theorem SlotUnit.stable_of_idle {u : SlotUnit} (idle : u.feedRuns = false) (cf : ∀ d, u = .cf d → d.state ≠ .tripped)
    (di : ∀ d, u = .di d → d.state ≠ .tripped) : u.stable = true := by
  cases u with
  | cf d =>
    cases hd : d.state with
    | tripped => exact absurd hd (cf d rfl)
    | _ => simp_all [SlotUnit.feedRuns, SlotUnit.stable, CfState.runs]
  | di d =>
    cases hd : d.state with
    | tripped => exact absurd hd (di d rfl)
    | _ => simp_all [SlotUnit.feedRuns, SlotUnit.stable, DiSlot.runs]
  | _ => rfl

/-- R80: a CF slot that could not be shown to run enters FAULT, and FEED FAILED TO START is asked for. -/
def State.cfStartFails (s : State) (i : Fin 4) (c : CfSlot) : State :=
  (s.cfStop i c .fault).ask (.raise .feedFailedToStart i.val)

theorem State.cfStartFails_still (s : State) (i : Fin 4) (c : CfSlot) : (s.cfStartFails i c).still = s.still :=
  s.cfStop_still i c .fault

theorem exec_startTimerExpiry_starting (h : s.calm) (hs : s.slot i = .cf c) {due : Nat} (hd : c.startDue = some due)
    (starting : c.state = .starting) :
    exec (.startTimerExpiry i) s = .next ((s.begun.reach due).cfStartFails i c).settle := by
  refine congrArg Host.Outcome.next ((State.takeEvent_live _ h.1).trans (congrArg State.settle ?_))
  refine (State.onCf_cf (s := s.begun) hs _).trans ?_
  simp only [hd]
  exact if_pos starting

end

/-- Settles O39: the slot stops in FAULT, which the requests settled after it do not move, and they leave its latch at 0. -/
theorem failedStartsFault : Obligations.FailedStartsFault := by
  intro s i c due h hs hd starting
  let q := s.begun.reach due
  have still : (q.cfStartFails i c).settle.still = q.still := (State.settle_still _).trans (q.cfStartFails_still i c)
  have slot : (q.cfStartFails i c).settle.slot i = .cf (c.stopped .fault) := State.settle_slot (cfStop_slot q i c .fault) rfl
  refine ⟨_, _, exec_startTimerExpiry_starting h hs hd starting, slot, rfl, rfl, rfl, rfl, rfl, rfl, now_of_still still,
    fun taken => ?_, fun j hj idle cf di => ?_,
    congrArg Still.picture still, congrArg Still.fields still, congrArg Still.nv still⟩
  · exact alarmWork_zeroes.settle _ _ (State.cfStop_latch_taken (s := q) taken .fault)
  · exact State.settle_slot (cfStop_onlySlot q i c .fault j hj) (SlotUnit.stable_of_idle idle cf di)

end Sys2Proof.Machine
end

section
/-! PROOFS. The item gate's cycle: how each waiting state ends, READY, the jam, and what the requests after either leave of
the slot (R97 to R103, R106). -/

namespace Sys2Proof.Machine

section
variable {s : State} {i : Fin 4} {d : DiSlot} {it : Item} {rest : List Item} {n : Nat}

/-! ## What the requests leave of a gate that no interruption moves (R102, R105, R142) -/

theorem State.setSlot_setSlot (s : State) (i : Fin 4) (u v : SlotUnit) : (s.setSlot i u).setSlot i v = s.setSlot i v := by
  simp [State.setSlot]

theorem State.setSlot_gateRun_rests (s : State) (i : Fin 4) (n : Nat) (rests : d.gate.rests) :
    (s.setSlot i (.di d)).gateRun n i = s.setSlot i (.di d) :=
  State.gateRun_rests (State.setSlot_slot_self s i _) rests n

/-- R102: the gate stands neither in UPPER OPENING nor in UPPER CLOSING, where an interruption would move or mark it. -/
def Gate.uncut (g : Gate) : Prop := g.state ≠ .upperOpening ∧ g.state ≠ .upperClosing

theorem State.interrupt_uncut (hd : s.slot i = .di d) (uncut : d.gate.uncut) : s.interrupt i = s := by
  rw [State.interrupt, State.onDi_di hd]
  split
  · exact absurd ‹_› uncut.1
  · exact absurd ‹_› uncut.2
  · rfl

/-- R105: what reports of the trip cause leave of a DI slot whose gate no interruption moves. -/
structure DiSlot.Reported (d e : DiSlot) : Prop where
  gate : e.gate = d.gate
  queue : e.queue = d.queue
  counters : e.counters = d.counters
  idle : d.runs = false → e.runs = false
  stable : d.state = .off ∨ d.state = .fault → e.state = d.state

theorem DiSlot.Reported.refl (d : DiSlot) : d.Reported d := ⟨rfl, rfl, rfl, id, fun _ => rfl⟩

theorem DiSlot.Reported.trans {d e f : DiSlot} (h : d.Reported e) (k : e.Reported f) : d.Reported f where
  gate := k.gate.trans h.gate
  queue := k.queue.trans h.queue
  counters := k.counters.trans h.counters
  idle runs := k.idle (h.idle runs)
  stable state := (k.stable ((h.stable state).symm ▸ state)).trans (h.stable state)

/-- R105: a slot that enters OFF or TRIPPED with its cycle interrupted. -/
theorem State.diLeave_reported (uncut : d.gate.uncut) (left : d.runs = true ∨ d.state = .tripped) {st : DiState}
    (idle : (d.stopped st).runs = false) : ∃ e, (s.diLeave i d st).slot i = .di e ∧ d.Reported e := by
  have put : (s.diStop i d st).slot i = .di (d.stopped st) := diStop_slot s i d st
  rw [State.diLeave, State.interrupt_uncut put uncut]
  refine ⟨_, put, rfl, rfl, rfl, fun _ => idle, fun state => ?_⟩
  rcases state with state | state <;> simp [DiSlot.runs, state] at left

theorem State.diTrip_reported (hd : s.slot i = .di d) (uncut : d.gate.uncut) :
    ∃ e, (s.diTrip i d).slot i = .di e ∧ d.Reported e := by
  unfold State.diTrip
  split
  · split
    · exact State.diLeave_reported uncut (.inl ‹_›) rfl
    · exact ⟨d, hd, .refl d⟩
  · split
    · exact State.diLeave_reported uncut (.inr ‹_›) rfl
    · exact ⟨d, hd, .refl d⟩

/-- Between two states: a DI slot whose gate no interruption moves has met reports of the trip cause alone. -/
def State.ReportsDi (i : Fin 4) (s t : State) : Prop := ∀ d, s.slot i = .di d → d.gate.uncut →
  ∃ e, t.slot i = .di e ∧ d.Reported e

theorem alarmWork_reportsDi (i : Fin 4) : AlarmWork (State.ReportsDi i) where
  trans h k d hd uncut := by
    obtain ⟨e, he, first⟩ := h d hd uncut
    obtain ⟨f, hf, second⟩ := k e he (first.gate.symm ▸ uncut)
    exact ⟨f, hf, first.trans second⟩
  quiet plant _ d hd _ := ⟨d, (State.slot_of_channels (congrArg Prod.fst plant) i).trans hd, .refl d⟩
  trips s d hd uncut := by
    obtain ⟨t, -, same, met⟩ := s.evalTrips_meets i
    rw [met, State.tripReport_di (same.trans hd)]
    exact State.diTrip_reported (same.trans hd) uncut

theorem State.settle_reported (hd : s.slot i = .di d) (uncut : d.gate.uncut) :
    ∃ e, s.settle.slot i = .di e ∧ d.Reported e :=
  (alarmWork_reportsDi i).settle s d hd uncut

/-! ## The end of a waiting state (R98, R99) -/

/-- R98: the upper flap is open, and is commanded closed. -/
theorem State.gateGo_opened (hd : s.slot i = .di d) (calm : d.gate.conflict = false) (hg : d.gate.state = .upperOpening)
    (ho : d.gate.upperOpen = true) : s.gateGo i = s.setSlot i (.di (d.enterGate s.now .upperClosing)) := by
  have hc : d.gate.upperClosed = false := by simpa [ho] using (Gate.conflict_eq_false.1 calm).1
  rw [State.gateGo, State.gateRun, State.onDi_di hd, if_neg (by simp [calm]), hg]
  simp only [ho, if_true]
  exact State.setSlot_gateRun_rests s i 15 ⟨calm, .inr (.inr (.inr (.inl ⟨rfl, hc⟩)))⟩

/-- R98: the upper flap is closed, and the lower one is commanded open. -/
theorem State.gateGo_loaded (hd : s.slot i = .di d) (calm : d.gate.conflict = false) (hg : d.gate.state = .upperClosing)
    (hc : d.gate.upperClosed = true) (hi : d.gate.interrupted = false) (ho : d.gate.lowerOpen = false) :
    s.gateGo i = s.setSlot i (.di (d.enterGate s.now .lowerOpening)) := by
  rw [State.gateGo, State.gateRun, State.onDi_di hd, if_neg (by simp [calm]), hg]
  simp only [hc, hi, if_true, Bool.false_eq_true, if_false]
  exact State.setSlot_gateRun_rests s i 15 ⟨calm, .inr (.inr (.inr (.inr (.inl ⟨rfl, ho⟩))))⟩

/-- R56, R99, R107: a DI slot whose gate item has been fed. -/
def DiSlot.fed (d : DiSlot) (it : Item) (now : Nat) : DiSlot :=
  { d with
    gate := { d.gate with item := none }
    history := addHistory d.history (now, it.energy)
    counters := { d.counters with fed := up32 d.counters.fed } }

theorem State.countFed_some (item : d.gate.item = some it) :
    (s.countFed i d).slot i = .di (d.fed it s.now) ∧ (s.countFed i d).agenda = s.agenda := by
  unfold State.countFed
  rw [item]
  exact ⟨State.setSlot_slot_self s i _, rfl⟩

/-- R99: the lower flap is open: the item is fed and the flap commanded closed. -/
theorem State.gateGo_feeds (hd : s.slot i = .di d) (calm : d.gate.conflict = false) (hg : d.gate.state = .lowerOpening)
    (ho : d.gate.lowerOpen = true) (item : d.gate.item = some it) :
    (s.gateGo i).slot i = .di ((d.fed it s.now).enterGate s.now .lowerClosing) ∧ (s.gateGo i).agenda = s.agenda := by
  have hc : d.gate.lowerClosed = false := by simpa [ho] using (Gate.conflict_eq_false.1 calm).2
  obtain ⟨slot, agenda⟩ := State.countFed_some (s := s) (i := i) item
  have put := State.setSlot_slot_self (s.countFed i d) i (.di ((d.fed it s.now).enterGate s.now .lowerClosing))
  have goes : s.gateGo i = (s.countFed i d).setSlot i (.di ((d.fed it s.now).enterGate s.now .lowerClosing)) := by
    rw [State.gateGo, State.gateRun, State.onDi_di hd, if_neg (by simp [calm]), hg]
    simp only [ho, if_true]
    rw [State.onDi_di slot]
    exact State.gateRun_rests put ⟨calm, .inr (.inr (.inr (.inr (.inr ⟨rfl, by
      simp [DiSlot.enterGate, DiSlot.fed, hc]⟩))))⟩ 15
  rw [goes]
  exact ⟨put, agenda⟩

/-- R98, R102: the flaps that let a gate enter READY are confirmed closed; an interruption is over with it. -/
theorem State.gateGo_closed {g : Gate} (hd : s.slot i = .di d) (calm : d.gate.conflict = false)
    (closed : d.gate.upperClosed = true)
    (h : (d.gate.state = .lowerClosing ∧ d.gate.lowerClosed = true ∧ g = d.gate) ∨
      (d.gate.state = .upperClosing ∧ d.gate.interrupted = true ∧ g = { d.gate with interrupted := false })) :
    s.gateGo i = ((s.gateReady i { d with gate := g }).tryStart i).gateRun 15 i := by
  rcases h with ⟨hg, hl, rfl⟩ | ⟨hg, hi, rfl⟩
  · rw [State.gateGo, State.gateRun, State.onDi_di hd, if_neg (by simp [calm]), hg]
    exact if_pos (by simp [closed, hl])
  · exact State.gateRun_interrupted hd calm hg closed hi 15

/-! ## The gate in READY (R97, R101, R103, R106) -/

/-- R98: a gate as it enters READY. -/
def Gate.ready (g : Gate) : Gate :=
  { g with state := .ready, upperOpenCmd := false, lowerOpenCmd := false, phaseDue := none }

/-- R98, R102: a gate whose confirmations let it enter READY does so, and goes on from there. -/
theorem State.setSlot_gateGo_closed (s : State) (i : Fin 4) (d : DiSlot) {g r : Gate} (calm : g.conflict = false)
    (closed : g.upperClosed = true)
    (h : (g.state = .lowerClosing ∧ g.lowerClosed = true ∧ r = g.ready) ∨
      (g.state = .upperClosing ∧ g.interrupted = true ∧ r = Gate.ready { g with interrupted := false })) :
    ∃ k : Gate, (s.setSlot i (.di { d with gate := g })).gateGo i =
        (((s.setSlot i (.di { d with gate := g })).gateReady i { d with gate := k }).tryStart i).gateRun 15 i ∧
      k.ready = r ∧ k.conflict = false ∧ k.upperClosed = true ∧ k.item = g.item ∧ k.lowerOpen = g.lowerOpen := by
  have put := State.setSlot_slot_self s i (.di { d with gate := g })
  rcases h with ⟨state, shown, rfl⟩ | ⟨state, shown, rfl⟩
  · exact ⟨g, State.gateGo_closed (d := { d with gate := g }) put calm closed (.inl ⟨state, shown, rfl⟩), rfl, calm, closed,
      rfl, rfl⟩
  · exact ⟨_, State.gateGo_closed (d := { d with gate := g }) put calm closed (.inr ⟨state, shown, rfl⟩), rfl, calm, closed,
      rfl, rfl⟩

/-- R106: a slot in FAULT leaves it with READY where its permit is not asserted, and not otherwise. -/
theorem State.gateReady_fault (s : State) (i : Fin 4) (d : DiSlot) : ∃ e, (s.gateReady i d).slot i = .di e ∧
    e.gate = d.gate.ready ∧ e.queue = d.queue ∧ e.counters = d.counters ∧ (d.runs = false → e.runs = false) ∧
    (d.state = .fault → e.state = if s.permit i then .fault else .off) := by
  unfold State.gateReady
  extract_lets s1 s2
  have put : s2.slot i = .di { d with gate := d.gate.ready } := by
    have ready : s1.slot i = .di { d with gate := d.gate.ready } := State.setSlot_slot_self s i _
    simp only [s2]; split <;> exact ready
  split
  case isTrue left =>
    rw [State.onDi_di put]
    exact ⟨_, diStop_slot _ _ _ _, rfl, rfl, rfl, fun _ => rfl, fun _ => by simp [left.2]⟩
  case isFalse stays =>
    exact ⟨_, put, rfl, rfl, rfl, id, fun fault => by simpa [fault] using stays⟩

/-- R101, R106: the requests that follow leave a slot that does not run with its gate READY, in FAULT or OFF as it stood. -/
theorem State.gateReady_settles (s : State) (i : Fin 4) (d : DiSlot) (idle : d.runs = false) :
    ∃ e, (s.gateReady i d).settle.slot i = .di e ∧ e.gate = d.gate.ready ∧ e.queue = d.queue ∧ e.counters = d.counters ∧
      e.runs = false ∧ (d.state = .fault → e.state = if s.permit i then .fault else .off) := by
  obtain ⟨e, he, gate, queue, counters, runs, fault⟩ := s.gateReady_fault i d
  obtain ⟨f, hf, reported⟩ := State.settle_reported he (by rw [gate]; exact ⟨nofun, nofun⟩)
  refine ⟨f, hf, reported.gate.trans gate, reported.queue.trans queue, reported.counters.trans counters,
    reported.idle (runs idle), fun h => ?_⟩
  have state := fault h
  rw [reported.stable (by rw [state]; split <;> simp), state]

/-- R101: a slot that runs, whose GATE JAM does not stand, has its gate in READY and nothing more. -/
theorem State.gateReady_running (runs : d.runs = true) (jam : s.stands .gateJam i.val = false) :
    s.gateReady i d = s.setSlot i (.di { d with gate := d.gate.ready }) := by
  have fault : d.state ≠ .fault := fun h => by simp [DiSlot.runs, h] at runs
  unfold State.gateReady
  extract_lets s1 s2
  have calm : s2 = s1 := if_neg (by rw [State.setSlot_stands, jam]; exact Bool.false_ne_true)
  rw [if_neg fun h => fault h.1, calm]
  rfl

/-- R97, R103: the gate stays READY where no cycle may start. -/
theorem State.gateReady_waits (runs : d.runs = true) (jam : s.stands .gateJam i.val = false) (calm : d.gate.conflict = false)
    (h : s.alarms.observed = true ∨ (d.gate.item ≠ none ∧ d.debt = 0) ∨
      (d.gate.item = none ∧ ∀ it ∈ d.queue.head?, d.debt < it.energy)) :
    ((s.gateReady i d).tryStart i).gateRun n i = s.setSlot i (.di { d with gate := d.gate.ready }) := by
  have stays := State.tryStart_waits (State.setSlot_slot_self s i (.di { d with gate := d.gate.ready }))
    (h.elim (.inr ∘ .inl) (.inr ∘ .inr ∘ .inr))
  rw [State.gateReady_running runs jam, stays]
  exact State.setSlot_gateRun_rests s i n ⟨calm, .inl rfl⟩

/-- R97: a gate that enters READY goes on with the head item once the debt is its energy. -/
theorem State.gateReady_opens (runs : d.runs = true) (jam : s.stands .gateJam i.val = false) (calm : d.gate.conflict = false)
    (released : s.alarms.observed = false) (item : d.gate.item = none) (queue : d.queue = it :: rest)
    (debt : it.energy ≤ d.debt) (closed : d.gate.upperClosed = true) : ((s.gateReady i d).tryStart i).gateRun n i =
      s.setSlot i (.di (DiSlot.opening { d with gate := d.gate.ready } it rest s.now).callAfter) := by
  have shut : d.gate.upperOpen = false := by simpa [closed] using (Gate.conflict_eq_false.1 calm).1
  have begins := State.tryStart_head (State.setSlot_slot_self s i (.di { d with gate := d.gate.ready }))
    (State.gateMayStart_iff.2 ⟨runs, released, rfl⟩) item queue debt
  rw [State.gateReady_running runs jam, begins, State.setSlot_setSlot]
  refine State.setSlot_gateRun_rests s i n ?_
  obtain ⟨b, called⟩ := (DiSlot.opening { d with gate := d.gate.ready } it rest s.now).callAfter_eq
  rw [State.setSlot_now, called]
  exact ⟨calm, .inr (.inr (.inl ⟨rfl, shut⟩))⟩

/-- R103: a gate that enters READY drops its chamber item where any debt stands. -/
theorem State.gateReady_drops (runs : d.runs = true) (jam : s.stands .gateJam i.val = false) (calm : d.gate.conflict = false)
    (released : s.alarms.observed = false) (item : d.gate.item = some it) (debt : 0 < d.debt)
    (shut : d.gate.lowerOpen = false) : ((s.gateReady i d).tryStart i).gateRun n i =
      s.setSlot i (.di (DiSlot.dropping { d with gate := d.gate.ready } it s.now)) := by
  have drops := State.tryStart_drop (State.setSlot_slot_self s i (.di { d with gate := d.gate.ready }))
    (State.gateMayStart_iff.2 ⟨runs, released, rfl⟩) item debt
  rw [State.gateReady_running runs jam, drops, State.setSlot_setSlot]
  exact State.setSlot_gateRun_rests s i n ⟨calm, .inr (.inr (.inr (.inr (.inl ⟨rfl, shut⟩))))⟩

/-! ## The jam (R95, R100, R106) -/

/-- R95, R100, R107: a DI slot whose gate has jammed: the item in it is lost. -/
def DiSlot.jammed (d : DiSlot) : DiSlot :=
  { d with
    gate := { d.gate with state := .jammed, item := none, interrupted := false, phaseDue := none }
    call := false
    counters := { d.counters with
      jams := up32 d.counters.jams
      lost := if d.gate.item.isSome then up32 d.counters.lost else d.counters.lost } }

/-- R100, R106: a jam takes the item and the call line, and a slot in RUN to FAULT. -/
theorem State.gateJam_slot (s : State) (i : Fin 4) (d : DiSlot) : ∃ e, (s.gateJam i d).slot i = .di e ∧
    (e = d.jammed ∨ e = d.jammed.stopped .fault) ∧ (s.station = .run → e.state = .fault) := by
  unfold State.gateJam
  extract_lets lost d1 g n d2 s1 s2 s3
  have put : s3.slot i = .di d.jammed := by
    have jams : s1.slot i = .di d.jammed := State.setSlot_slot_self s i _
    simp only [s3, s2]
    split <;> split <;> exact jams
  split
  case isTrue => exact ⟨_, diStop_slot s3 i d2 .fault, .inr rfl, fun _ => rfl⟩
  case isFalse stays =>
    have stands (run : s.station = .run) : d.state = .fault := by simpa [run] using stays
    exact ⟨_, put, .inl rfl, stands⟩

/-- R100: what the requests after a jam leave of it; in RUN the slot stands in FAULT. -/
theorem State.gateJam_settles (s : State) (i : Fin 4) (d : DiSlot) : ∃ e, (s.gateJam i d).settle.slot i = .di e ∧
    e.gate = d.jammed.gate ∧ e.queue = d.queue ∧ e.counters = d.jammed.counters ∧
    (s.station = .run → e.state = .fault ∧ e.call = false) := by
  obtain ⟨e, he, jams, fault⟩ := s.gateJam_slot i d
  have jammed : e.gate = d.jammed.gate ∧ e.queue = d.queue ∧ e.counters = d.jammed.counters ∧ e.call = false := by
    rcases jams with rfl | rfl <;> exact ⟨rfl, rfl, rfl, rfl⟩
  obtain ⟨gate, queue, counters, call⟩ := jammed
  obtain ⟨f, hf, reported⟩ := State.settle_reported he (by rw [gate]; exact ⟨nofun, nofun⟩)
  refine ⟨f, hf, reported.gate.trans gate, reported.queue.trans queue, reported.counters.trans counters, fun run => ?_⟩
  have stays := State.settle_slot he (by simp [SlotUnit.stable, fault run])
  cases hf.symm.trans stays
  exact ⟨fault run, call⟩

/-- R100: conflicting confirmations jam the gate first. -/
theorem State.gateGo_jams (hd : s.slot i = .di d) (conflict : d.gate.conflict = true) (h : d.gate.state ≠ .jammed) :
    s.gateGo i = s.gateJam i d := by
  rw [State.gateGo, State.gateRun, State.onDi_di hd]
  exact if_pos ⟨h, conflict⟩

end

end Sys2Proof.Machine
end

section
/-! PROOFS. The item gate's events: confirmations, the phase timer, jam clear and the divert timer (R94, R98 to R103, R106). -/

namespace Sys2Proof.Machine

section
variable {s : State} {i : Fin 4} {d : DiSlot}

theorem State.calm.takeEvent_eq {f : State → State} {t : State} (h : s.calm) (eq : f s.begun = t) : s.takeEvent f = t.settle :=
  (State.takeEvent_live f h.1).trans (congrArg State.settle eq)

theorem State.calm.settle_setSlot (h : s.calm) (i : Fin 4) (u v : SlotUnit) :
    ((s.begun.setSlot i u).setSlot i v).settle = s.begun.setSlot i v := by
  rw [State.setSlot_setSlot]
  exact h.settle_begun rfl

theorem exec_gateConfirmation (h : s.calm) (hs : s.slot i = .di d) {g : Gate} {sw : GateSwitch} {level : Bool}
    (hg : g = d.gate.withSwitch sw level) : exec (.gateConfirmation i sw level) s =
      .next ((s.begun.setSlot i (.di { d with gate := g })).gateGo i).settle := by
  subst hg
  exact congrArg Host.Outcome.next (h.takeEvent_eq (State.onDi_di (s := s.begun) hs _))

/-- R98: a confirmation that does no more than replace its slot. -/
theorem exec_gateConfirmation_puts (h : s.calm) (hs : s.slot i = .di d) {g : Gate} {sw : GateSwitch} {level : Bool} {u : SlotUnit}
    (hg : g = d.gate.withSwitch sw level) (goes : (s.begun.setSlot i (.di { d with gate := g })).gateGo i =
      (s.begun.setSlot i (.di { d with gate := g })).setSlot i u) :
    exec (.gateConfirmation i sw level) s = .next (s.begun.setSlot i u) := by
  rw [exec_gateConfirmation h hs hg, goes, h.settle_setSlot]

theorem exec_phaseTimerExpiry (h : s.calm) (hs : s.slot i = .di d) {due : Nat} (hd : d.gate.phaseDue = some due) :
    exec (.phaseTimerExpiry i) s = .next ((s.begun.reach due).gateJam i d).settle := by
  refine congrArg Host.Outcome.next (h.takeEvent_eq ((State.onDi_di (s := s.begun) hs _).trans ?_))
  simp only [hd]

theorem exec_jamClear_jammed (h : s.calm) (hs : s.slot i = .di d) (hg : d.gate.state = .jammed) : exec (.jamClear i) s =
    .next ((s.begun.setSlot i (.di (d.enterGate s.now .lowerClosing))).gateGo i).settle :=
  congrArg Host.Outcome.next (h.takeEvent_eq ((State.onDi_di (s := s.begun) hs _).trans (if_pos hg)))

theorem exec_jamClear_other (h : s.calm) (hs : s.slot i = .di d) (hg : d.gate.state ≠ .jammed) :
    exec (.jamClear i) s = .next s.begun :=
  congrArg Host.Outcome.next
    ((h.takeEvent_eq ((State.onDi_di (s := s.begun) hs _).trans (if_neg hg))).trans (h.settle_begun rfl))

theorem exec_divertTimerExpiry (h : s.calm) (hs : s.slot i = .di d) {due : Nat} (hd : d.divertDue = some due) :
    exec (.divertTimerExpiry i) s = .next ((s.begun.reach due).setSlot i (.di { d with divertDue := none })) := by
  refine congrArg Host.Outcome.next
    ((h.takeEvent_eq ((State.onDi_di (s := s.begun) hs _).trans ?_)).trans (h.settle_begun rfl))
  simp only [hd]

end

/-- Settles O46: each waiting state by how its gate goes on, READY by whether the slot runs and what its debt allows. -/
theorem gateCyclesAdvance : Obligations.GateCyclesAdvance := by
  intro s i sw level d g h hs hg calm
  have put := State.setSlot_slot_self s.begun i (.di { d with gate := g })
  refine ⟨fun state shown => ?_, fun state shown whole shut => ?_, fun it state shown item => ?_, fun rests => ?_,
    fun r enters closed => ?_⟩
  · exact exec_gateConfirmation_puts h hs hg (State.gateGo_opened put calm state shown)
  · exact exec_gateConfirmation_puts h hs hg (State.gateGo_loaded put calm state shown whole shut)
  · obtain ⟨slot, agenda⟩ := State.gateGo_feeds put calm state shown item
    exact ⟨_, _, exec_gateConfirmation h hs hg, (congrArg (State.slot · i) (h.settle_begun agenda)).trans slot,
      rfl, rfl, rfl, rfl, rfl, rfl, rfl, rfl⟩
  · rw [exec_gateConfirmation h hs hg, State.gateGo, State.gateRun_rests put ⟨calm, rests⟩]
    exact congrArg Host.Outcome.next (h.settle_begun rfl)
  · obtain ⟨k, goes, rfl, still, flap, item, lower⟩ := State.setSlot_gateGo_closed s.begun i d calm closed enters
    refine ⟨fun idle => ?_, fun runs jam => ⟨fun waits => ?_, fun it rest released empty queue debt => ?_,
      fun it released held debt shut => ?_⟩⟩
    · have event := exec_gateConfirmation h hs hg
      rw [goes, State.gateReady_stays (d := { d with gate := k }) (.inl idle) still] at event
      obtain ⟨e, slot, settled⟩ := State.gateReady_settles _ i { d with gate := k } idle
      exact ⟨_, e, event, slot, settled⟩
    · rw [← item] at waits
      exact exec_gateConfirmation_puts h hs hg
        (goes.trans (State.gateReady_waits runs jam still (waits.imp_right Or.symm)))
    · exact exec_gateConfirmation_puts h hs hg
        (goes.trans (State.gateReady_opens runs jam still released (item.trans empty) queue debt flap))
    · exact exec_gateConfirmation_puts h hs hg
        (goes.trans (State.gateReady_drops runs jam still released (item.trans held) debt (lower.trans shut)))

/-- Settles O47: a jam by what it leaves of its slot, which the requests after it keep. -/
theorem latePhasesJamTheGate : Obligations.LatePhasesJamTheGate := by
  refine ⟨fun s i d due h hs hd run => ?_, fun s i sw level d g h hs hg conflict state run => ?_⟩
  · obtain ⟨e, slot, gate, queue, counters, stops⟩ := (s.begun.reach due).gateJam_settles i d
    obtain ⟨fault, call⟩ := stops run
    have still := (State.settle_still _).trans ((s.begun.reach due).gateJam_still i d)
    exact ⟨_, e, exec_phaseTimerExpiry h hs hd, slot, gate, fault, call, queue, counters, now_of_still still,
      congrArg Still.picture still, congrArg Still.fields still, congrArg Still.nv still⟩
  · let q := s.begun.setSlot i (.di { d with gate := g })
    have event := exec_gateConfirmation h hs hg
    rw [State.gateGo_jams (State.setSlot_slot_self s.begun i _) conflict state] at event
    obtain ⟨e, slot, gate, queue, counters, stops⟩ := q.gateJam_settles i { d with gate := g }
    obtain ⟨fault, call⟩ := stops run
    have still := (State.settle_still _).trans (q.gateJam_still i { d with gate := g })
    have item : g.item = d.gate.item := by rw [hg]; cases sw <;> rfl
    refine ⟨_, e, event, slot, gate, fault, call, queue, counters.trans ?_,
      congrArg Still.picture still, congrArg Still.fields still, congrArg Still.nv still⟩
    simp only [DiSlot.jammed, item]

/-- Settles O48: a gate that was JAMMED by what its confirmations show as it enters LOWER CLOSING. -/
theorem jamClearAndDivertTimers : Obligations.JamClearAndDivertTimers := by
  refine ⟨fun s i d h hs => ⟨fun state calm shown => ?_, fun state calm upper lower idle => ?_, fun state conflict => ?_,
    exec_jamClear_other h hs⟩, fun s i d due h hs hd => exec_divertTimerExpiry h hs hd⟩
  all_goals
    let k := d.enterGate s.now .lowerClosing
    let q := s.begun.setSlot i (.di k)
    have put : q.slot i = .di k := State.setSlot_slot_self s.begun i _
    have event : exec (.jamClear i) s = .next (q.gateGo i).settle := exec_jamClear_jammed h hs state
  · have waits : k.gate.rests := ⟨calm, .inr (.inr (.inr (.inr (.inr ⟨rfl, shown⟩))))⟩
    rw [event, State.gateGo, State.gateRun_rests put waits]
    exact congrArg Host.Outcome.next (h.settle_begun rfl)
  · rw [State.gateGo_closed put calm upper (.inl ⟨rfl, lower, rfl⟩),
      State.gateReady_stays (d := k) (.inl idle) calm] at event
    obtain ⟨e, slot, gate, queue, counters, runs, fault⟩ := q.gateReady_settles i k idle
    have still := (State.settle_still _).trans (q.gateReady_still i k)
    exact ⟨_, e, event, slot, gate, queue, counters, runs, fault,
      congrArg Still.picture still, congrArg Still.fields still, congrArg Still.nv still⟩
  · rw [State.gateGo_jams put conflict nofun] at event
    obtain ⟨e, slot, gate, queue, counters, stops⟩ := q.gateJam_settles i k
    have still := (State.settle_still _).trans (q.gateJam_still i k)
    exact ⟨_, e, event, slot, gate, queue, fun run => (stops run).1, counters,
      congrArg Still.picture still, congrArg Still.fields still, congrArg Still.nv still⟩

end Sys2Proof.Machine
end

section
/-! PROOFS. What the blocks beside the alarm unit leave of it: `State.slate`, the mark of a control update, the station's own number,
the alarm table and the flood slot. -/

namespace Sys2Proof.Machine

/-- The mark of a control update, with the station's own number, the alarm table and the flood slot. -/
def State.slate (s : State) : Bool × Nat × List AlarmEntry × Option AlarmEntry := (s.channels.updating, s.board)

section
variable {s t : State}

theorem board_of_slate (h : t.slate = s.slate) : t.board = s.board := congrArg Prod.snd h

theorem updating_of_slate (h : t.slate = s.slate) : t.channels.updating = s.channels.updating := congrArg Prod.fst h

theorem updating_of_still (h : t.still = s.still) : t.channels.updating = s.channels.updating := congrArg Still.updating h

theorem desk_of_wire (h : t.wire = s.wire) (k : t.still = s.still) : t.slate = s.slate :=
  Prod.ext (updating_of_still k) (board_of_wire h k)

/-- What a slot's work leaves of the alarm unit. -/
theorem Voiced.slate (h : Voiced s t) (k : t.still = s.still) : t.slate = s.slate := by
  have number : t.ownNumber = s.ownNumber := State.ownNumber_of_cfg (congrArg Still.cfg k)
  refine Prod.ext (updating_of_still k) ?_
  simp [State.slate, State.board, number, h.alarms]

theorem foldl_slate {α : Type} {f : State → α → State} (h : ∀ s a, (f s a).slate = s.slate) (l : List α) (s : State) :
    (l.foldl f s).slate = s.slate := by
  induction l generalizing s with
  | nil => rfl
  | cons a l ih => rw [List.foldl_cons, ih, h]

theorem eachSlot_slate {f : State → Fin 4 → State} (h : ∀ s i, (f s i).slate = s.slate) (s : State) :
    (s.eachSlot f).slate = s.slate := by
  simp [State.eachSlot, h]

end

section
variable (s : State)

/-! ## The report store and the link -/

@[simp] theorem State.ask_slate (r : AlarmRequest) : (s.ask r).slate = s.slate := rfl
@[simp] theorem State.reach_slate (n : Nat) : (s.reach n).slate = s.slate := rfl

@[simp] theorem State.runStore_slate : s.runStore.slate = s.slate := desk_of_wire s.runStore_wire s.runStore_still

@[simp] theorem State.append_slate (type : RecordType) (rest : List Byte) (b : Binding) (p q : Bool) :
    (s.append type rest b p q).slate = s.slate :=
  desk_of_wire (s.append_wire type rest b p q) (s.append_still type rest b p q)

@[simp] theorem State.requestStep_slate (f : Option (Fin 32)) (st : FileStep) : (s.requestStep f st).slate = s.slate :=
  desk_of_wire (s.requestStep_wire f st) (s.requestStep_still f st)

@[simp] theorem State.clearStoreFull_slate : s.clearStoreFull.slate = s.slate :=
  desk_of_wire s.clearStoreFull_wire s.clearStoreFull_still

@[simp] theorem State.dequeue_slate (gone : QRecord → Bool) : (s.dequeue gone).slate = s.slate :=
  desk_of_wire (s.dequeue_wire gone) (s.dequeue_still gone)

@[simp] theorem State.dropRecord_slate (r : QRecord) : (s.dropRecord r).slate = s.slate :=
  desk_of_wire (s.dropRecord_wire r) (s.dropRecord_still r)

@[simp] theorem State.lateSummary_slate (f : Option (Fin 32)) : (s.lateSummary f).slate = s.slate := by
  unfold State.lateSummary; repeat' split
  all_goals rfl

@[simp] theorem State.kickAccess_slate : s.kickAccess.slate = s.slate :=
  Prod.ext (updating_of_still s.kickAccess_still) s.kickAccess_board

@[simp] theorem State.publish_slate (i : Fin 4) : (s.publish i).slate = s.slate :=
  (State.publish_voiced (.refl s) i).slate (s.publish_still i)

@[simp] theorem State.mediumBusy_slate : s.mediumBusy.slate = s.slate := by
  unfold State.mediumBusy; split <;> rfl

@[simp] theorem State.mediumQuiet_slate : s.mediumQuiet.slate = s.slate := by
  unfold State.mediumQuiet; split
  · rfl
  · exact State.kickAccess_slate _

@[simp] theorem State.countSlot_slate : s.countSlot.slate = s.slate := by
  unfold State.countSlot; repeat' split
  all_goals rfl

@[simp] theorem State.setSilence_slate : s.setSilence.slate = s.slate := by
  obtain ⟨_, h⟩ := s.setSilence_frame; rw [h]; rfl

@[simp] theorem State.clearSilence_slate : s.clearSilence.slate = s.slate := by
  obtain ⟨_, h⟩ := s.clearSilence_frame; rw [h]; rfl

@[simp] theorem State.setExhaustion_slate : s.setExhaustion.slate = s.slate := by
  unfold State.setExhaustion; simp only; repeat' split
  all_goals rfl

@[simp] theorem State.clearExhaustion_slate : s.clearExhaustion.slate = s.slate := by
  unfold State.clearExhaustion; simp only; repeat' split
  all_goals rfl

@[simp] theorem State.ownOrigin_slate : s.ownOrigin.slate = s.slate := by
  obtain ⟨_, h⟩ := s.ownOrigin_frame; rw [h]; rfl

/-! ## The floor picture (R21 to R37) -/

@[simp] theorem State.startLossHold_slate : s.startLossHold.slate = s.slate := by
  unfold State.startLossHold; repeat' split
  all_goals rfl

@[simp] theorem State.removePeer_slate (e : PeerEntry) : (s.removePeer e).slate = s.slate := by
  unfold State.removePeer
  extract_lets rest q s1 s2 s3
  have h3 : s3.slate = s.slate := by
    simp only [s3]; split
    · exact s2.startLossHold_slate
    · rfl
  split
  · exact h3
  · exact h3

@[simp] theorem State.useNotice_slate (e : PeerEntry) : (s.useNotice e).slate = s.slate := by
  have created : (s.createPeer e).slate = s.slate := by
    unfold State.createPeer; simp only; repeat' split
    all_goals rfl
  unfold State.useNotice; simp only; repeat' split
  · exact created
  · rfl
  · exact State.startLossHold_slate _
  · rfl

@[simp] theorem State.heatNotice_slate (a b c d e f g : Nat) (h k : Bool) :
    (s.heatNotice a b c d e f g h k).slate = s.slate := by
  unfold State.heatNotice; split
  · rfl
  · exact s.useNotice_slate _

@[simp] theorem State.airNotice_slate (a b c : Nat) (h k : Bool) (d e f g : Nat) :
    (s.airNotice a b c h k d e f g).slate = s.slate := by
  unfold State.airNotice; split
  · rfl
  · exact s.useNotice_slate _

@[simp] theorem State.signOfLife_slate (n : Nat) : (s.signOfLife n).slate = s.slate := by
  unfold State.signOfLife; simp only; repeat' split
  all_goals rfl

@[simp] theorem State.restartRefresh_slate : s.restartRefresh.slate = s.slate := by
  unfold State.restartRefresh; repeat' split
  all_goals rfl

@[simp] theorem State.considerOrder_slate (c : FiringOrder) (b : Bool) : (s.considerOrder c b).slate = s.slate := by
  have adopted : (s.adopt c b).slate = s.slate := by
    unfold State.adopt
    extract_lets q s1 s2 s3
    have h2 : s2.slate = s.slate := State.append_slate _ _ _ _ _ _
    have h3 : s3.slate = s2.slate := by simp only [s3]; split <;> rfl
    rw [State.restartRefresh_slate, h3, h2]
  unfold State.considerOrder; split
  · exact adopted
  · rfl
  · rfl

@[simp] theorem State.orderNotice_slate (n : Nat) (e : Serial) (t : Nat) : (s.orderNotice n e t).slate = s.slate := by
  unfold State.orderNotice; split
  · rfl
  · exact s.considerOrder_slate _ _

/-! ## The shift accountant (R150 to R161) -/

@[simp] theorem State.takeNumber_slate (n : Serial) : (s.takeNumber n).slate = s.slate := rfl

@[simp] theorem State.openShiftFile_slate (n : Serial) : (s.openShiftFile n).slate = s.slate :=
  desk_of_wire (t := (s.openFile n).1) (s.openFile_wire n) (s.openFile_still n)

@[simp] theorem State.offerRestart_slate (b : Bool) : (s.offerRestart b).slate = s.slate := by
  unfold State.offerRestart; split
  · exact State.append_slate _ _ _ _ _ _
  · rfl

@[simp] theorem State.endCollation_slate (b : Bool) : (s.endCollation b).slate = s.slate := s.requestStep_slate _ (.closed b)

@[simp] theorem State.beginCollation_slate (n : Serial) : (s.beginCollation n).slate = s.slate := s.requestStep_slate _ .collating

@[simp] theorem State.summaryNotice_slate (o : Nat) (p : List Byte) : (s.summaryNotice o p).slate = s.slate := by
  have late (f : Option (Fin 32)) : (s.summaryLate f).slate = s.slate := State.lateSummary_slate _ _
  unfold State.summaryNotice; simp only; repeat' split
  · exact late _
  · rfl
  · exact State.append_slate _ _ _ _ _ _
  · exact late _
  · exact late _

@[simp] theorem State.firstShift_slate (n : Serial) : (s.firstShift n).slate = s.slate := by simp [State.firstShift]

@[simp] theorem State.takeReport_slate (r : FileReport) : (s.takeReport r).slate = s.slate := by
  have resumed (e : Fin 32) (n : Nat) : (s.resumeShift e n).slate = s.slate := by
    have file : (s.resumeFile e n).slate = s.slate := by
      unfold State.resumeFile; simp only; split <;> exact State.runStore_slate _
    unfold State.resumeShift; simp only; rw [State.offerRestart_slate]
    exact file
  unfold State.takeReport; repeat' split
  all_goals simp [resumed]

/-! ## The control update beside the slots (R36, R58 to R61, R111, R147, R152) -/

@[simp] theorem State.slew_slate : s.slew.slate = s.slate := by
  unfold State.slew; split <;> rfl

@[simp] theorem State.updateEstimate_slate : s.updateEstimate.slate = s.slate := by
  unfold State.updateEstimate; repeat' split
  all_goals rfl

@[simp] theorem State.fireSupervision_slate : s.fireSupervision.slate = s.slate := by
  have run (t : State) (c : AlarmCode) (b : Bool) (n : Nat) (r : Option Nat) : (t.fireRun c b n r).1.slate = t.slate := by
    unfold State.fireRun; simp only; split <;> rfl
  unfold State.fireSupervision; repeat' split
  · rfl
  · exact (run _ _ _ _ _).trans (run _ _ _ _ _)
  · unfold State.ceaseFire; simp only; repeat' split
    all_goals rfl

theorem State.slotPublish_slate (noticed left : Vector Bool 4) (i : Fin 4) :
    (State.slotPublish noticed left s i).slate = s.slate := by
  obtain ⟨l, f, h⟩ := s.slotPublish_frame i noticed left
  rw [h]; rfl

@[simp] theorem State.setSlot_slate (i : Fin 4) (u : SlotUnit) : (s.setSlot i u).slate = s.slate := rfl
@[simp] theorem State.setAcc_slate (i : Fin 4) (a : SlotAcc) (b : Bool) : (s.setAcc i a b).slate = s.slate := rfl

theorem State.slotPost_slate (arrived : Vector SlotUnit 4) (i : Fin 4) : (State.slotPost arrived s i).slate = s.slate := by
  unfold State.slotPost; split
  · unfold State.cfPostTime State.cfPostAmounts State.onCf; repeat' split
    all_goals simp [State.postRunning, State.postTripped, State.postMass, State.postHeat]
  · unfold State.diPostTime State.onDi; repeat' split
    all_goals simp [State.postRunning, State.postTripped]
  · unfold State.caPost State.onCa; simp only; repeat' split
    all_goals simp [State.postRunning, State.postRecovered, State.postAir, State.postForced]
  · unfold State.cgPost State.onCg; simp only; repeat' split
    all_goals simp [State.postStrokes, State.postFlushSeconds]
  · rfl

/-- R88: an update's publications and postings leave the alarm table alone. -/
theorem State.controlAccounts_board (arrived : Vector SlotUnit 4) (b : Bool) :
    (s.controlAccounts arrived b).board = s.board := by
  have published : s.publishAll.board = s.board := by
    unfold State.publishAll
    rw [board_of_slate (eachSlot_slate (fun t i => t.slotPublish_slate _ _ i) _)]; rfl
  have timed (t : State) : (t.postAlarmTime b).board = t.board := by
    unfold State.postAlarmTime; split <;> rfl
  have cooled (t : State) : t.postCooler.board = t.board := by
    unfold State.postCooler; split <;> rfl
  unfold State.controlAccounts; split
  · rw [timed, cooled, board_of_slate (eachSlot_slate (fun t i => t.slotPost_slate arrived i) _), published]
  · rfl

/-! ## The inputs and the outputs (R63 to R74) -/

theorem State.inputLost_slate (k : Fin 16) : (s.inputLost k).slate = s.slate := by
  have v := Voiced.refl s
  refine Voiced.slate ?_ (s.inputLost_still k)
  unfold State.inputLost; repeat' split
  all_goals simp [v]

theorem State.inputBack_slate (k : Fin 16) : (s.inputBack k).slate = s.slate := by
  have v := Voiced.refl s
  refine Voiced.slate ?_ (s.inputBack_still k)
  unfold State.inputBack; repeat' split
  case h_2.isTrue => exact State.caRelease_voiced s _ v
  all_goals simp [v]

theorem State.takeWord_slate (k : Fin 16) (n : Nat) (b : Bool) : (s.takeWord k n b).slate = s.slate := by
  unfold State.takeWord
  repeat' split
  · rfl
  · unfold State.takeItem
    extract_lets c w x s1
    split
    · rfl
    · exact ((State.itemWeighed_voiced (.refl s1) _ _).slate (State.itemWeighed_still _ _ _)).trans rfl
  · unfold State.takeSample
    extract_lets c was s1 s2
    have sampled : s2.slate = s.slate := by simp only [s2]; split <;> rfl
    split
    · exact sampled
    · exact (s2.inputBack_slate k).trans sampled
  · rfl

theorem State.holdExpires_slate (k : Fin 16) : (s.holdExpires k).slate = s.slate := by
  unfold State.holdExpires
  extract_lets x c first s1 s2
  have failed : s2.slate = s.slate := by simp only [s2]; split <;> rfl
  exact (s2.inputLost_slate k).trans failed

@[simp] theorem State.kickStream_slate : s.kickStream.slate = s.slate := desk_of_wire s.kickStream_wire s.kickStream_still

@[simp] theorem State.writeLatch_slate (o : Fin 8) (n : Nat) : (s.writeLatch o n).slate = s.slate :=
  desk_of_wire (s.writeLatch_wire o n) (s.writeLatch_still o n)

/-! ## The service port and the completions of the engine (R163 to R173, R180 to R183) -/

@[simp] theorem State.closeWindow_slate : s.closeWindow.slate = s.slate := by
  unfold State.closeWindow; split
  · exact State.runStore_slate _
  · rfl

@[simp] theorem State.portKick_slate : s.portKick.slate = s.slate := by
  unfold State.portKick; repeat' split
  · rfl
  · exact State.runStore_slate _
  · rfl

theorem State.openWindow_slate (e m : Byte) (o : BitVec 24) : (s.openWindow e m o).slate = s.slate := by
  unfold State.openWindow; simp only; repeat' split
  · exact (State.portKick_slate _).trans s.closeWindow_slate
  · exact s.closeWindow_slate
  · exact s.closeWindow_slate

theorem State.readEnds_slate : s.readEnds.slate = s.slate := by
  unfold State.readEnds; simp only; repeat' split
  · rfl
  · exact State.runStore_slate _
  · exact State.runStore_slate _
  · rfl

theorem State.unitMissed_slate (w : ReadWindow) : (s.unitMissed w).slate = s.slate := by
  unfold State.unitMissed; simp only; split
  · rfl
  · exact State.runStore_slate _

theorem State.unitDone_slate : s.unitDone.slate = s.slate := by
  unfold State.unitDone; simp only; repeat' split
  · rfl
  · rfl
  · exact State.portKick_slate _
  · exact State.portKick_slate _
  · exact s.unitMissed_slate _

theorem State.unitCut_slate : s.unitCut.slate = s.slate := by
  unfold State.unitCut; repeat' split
  · rfl
  · rfl
  · rfl
  · exact s.unitMissed_slate _

theorem State.units_slate (n r : Nat) (s : State) (out : List Byte) : (State.units n r s out).1.slate = s.slate := by
  induction n generalizing s out with
  | zero =>
    unfold State.units; split
    · rfl
    · exact s.unitCut_slate
  | succ n ih => unfold State.units; rw [ih, State.unitDone_slate]

theorem State.streamUnits_slate (n : Nat) : (s.streamUnits n).slate = s.slate := by
  have h := State.units_slate (n / 17) (n % 17) s []
  unfold State.streamUnits
  generalize State.units _ _ _ _ = r at h ⊢
  exact h

theorem State.answer_slate (f : State → List Byte) : (s.answer f).slate = s.slate := s.closeWindow_slate

theorem State.areaCommand_slate (r : Option Result) (op : AreaOp) : (s.areaCommand r op).slate = s.slate := by
  unfold State.areaCommand; simp only; repeat' split
  all_goals exact s.closeWindow_slate

theorem State.flushQueue_slate : s.flushQueue.slate = s.slate := (State.runStore_slate _).trans s.closeWindow_slate

theorem State.tearArea_slate (op : AreaOp) : (s.tearArea op).slate = s.slate := by
  cases op <;> simp only [State.tearArea, State.useFree, State.slate, State.board, State.ownNumber]

@[simp] theorem State.areaDone_slate (r : Result) : (s.areaDone r).slate = s.slate := by
  unfold State.areaDone; rw [State.runStore_slate]; rfl

theorem State.configCompletes_slate (b : Bool) : (s.configCompletes b).slate = s.slate := by
  unfold State.configCompletes; repeat' split
  · exact (State.areaDone_slate _ _).trans rfl
  · exact (State.areaDone_slate _ _).trans (s.tearArea_slate _)
  · exact (State.areaDone_slate _ _).trans rfl
  · exact (State.areaDone_slate _ _).trans (s.tearArea_slate _)
  · rfl

theorem State.otpCompletes_slate (b : Bool) : (s.otpCompletes b).slate = s.slate := by
  have programmed (i : Fin 16) (d : List Byte) (l : Bool) : (s.otpProgrammed i d l).1.slate = s.slate := rfl
  have frozen : (s.freezeWritten b).slate = s.slate := by
    have h : (if b then s.otpProgrammed 15 freezeMark true else (s.tearArea .freeze, false)).1.slate = s.slate := by
      split
      · exact programmed _ _ _
      · exact s.tearArea_slate _
    unfold State.freezeWritten
    generalize (if b then s.otpProgrammed 15 freezeMark true else (s.tearArea .freeze, false)) = r at h
    exact (State.areaDone_slate _ _).trans h
  unfold State.otpCompletes; repeat' split
  · exact (State.areaDone_slate _ _).trans (programmed _ _ _)
  · exact (State.areaDone_slate _ _).trans (s.tearArea_slate _)
  · exact frozen
  · rfl

theorem State.programEnds_slate (b : Bool) : (s.programEnds b).slate = s.slate := by
  have passes (t : State) (op : ProgramOp) : (t.programPasses op).slate = t.slate := State.dequeue_slate _ _
  have fails (t : State) (op : ProgramOp) : (t.programFails op).slate = t.slate := foldl_slate (fun _ _ => by simp) _ _
  unfold State.programEnds; split
  · rfl
  · rw [State.runStore_slate]; split
    · exact passes _ _
    · exact fails _ _

theorem State.eraseEnds_slate (b : Bool) : (s.eraseEnds b).slate = s.slate := by
  unfold State.eraseEnds; repeat' split
  · rfl
  · rfl
  · exact (State.runStore_slate _).trans (State.clearStoreFull_slate _)
  · exact State.runStore_slate _

end

end Sys2Proof.Machine
end

section
/-! PROOFS. The alarm table stays legal through the alarm unit's work (R130, R139, R140): what makes no entry takes keys away at
most, and an entry that is made finds room or takes the place of the one of its key. -/

namespace Sys2Proof.Machine

/-! ## Keys -/

/-- R130: the key of an entry. -/
def AlarmEntry.key (e : AlarmEntry) : Nat × AlarmCode × Nat := (e.origin, e.code, e.channel)

theorem AlarmEntry.hasKey_key {e f : AlarmEntry} : f.hasKey e.origin e.code e.channel = true ↔ f.key = e.key := by
  simp [AlarmEntry.hasKey_iff, AlarmEntry.key]

theorem AlarmEntry.hasKey_congr {e f : AlarmEntry} (h : e.key = f.key) (o : Nat) (c : AlarmCode) (ch : Nat) :
    e.hasKey o c ch = f.hasKey o c ch := by
  obtain ⟨ho, hc, hch⟩ : e.origin = f.origin ∧ e.code = f.code ∧ e.channel = f.channel := by
    simpa [AlarmEntry.key] using h
  simp [AlarmEntry.hasKey, ho, hc, hch]

/-- The keys of the alarm table. -/
def Alarms.keys (a : Alarms) : List (Nat × AlarmCode × Nat) := a.table.map AlarmEntry.key

/-- Between two states of the alarm unit entries have changed in their places or been taken out, and none has been made. -/
structure State.Thins (s t : State) : Prop where
  own : t.ownNumber = s.ownNumber
  keys : t.alarms.keys.Sublist s.alarms.keys
  flood : ∀ e ∈ t.alarms.flood, ∃ f ∈ s.alarms.flood, e.key = f.key

section
variable {s t u : State} {e : AlarmEntry}

theorem State.isFloodKey_congr {e f : AlarmEntry} (h : e.key = f.key) (own : t.ownNumber = s.ownNumber) :
    t.isFloodKey e = s.isFloodKey f := by
  rw [State.isFloodKey, State.isFloodKey, own, AlarmEntry.hasKey_congr h]

namespace State.Thins

theorem trans (h : s.Thins t) (k : t.Thins u) : s.Thins u := by
  refine ⟨k.own.trans h.own, k.keys.trans h.keys, fun e he => ?_⟩
  obtain ⟨f, hf, ef⟩ := k.flood e he
  obtain ⟨g, hg, fg⟩ := h.flood f hf
  exact ⟨g, hg, ef.trans fg⟩

theorem of_board (h : t.board = s.board) : s.Thins t := by
  obtain ⟨own, table, flood⟩ : t.ownNumber = s.ownNumber ∧ t.alarms.table = s.alarms.table ∧
      t.alarms.flood = s.alarms.flood := by simpa [State.board] using h
  refine ⟨own, ?_, fun e he => ⟨e, flood ▸ he, rfl⟩⟩
  rw [Alarms.keys, table]
  exact .refl _

theorem refl (s : State) : s.Thins s := of_board rfl

theorem length_le (h : s.Thins t) : t.alarms.table.length ≤ s.alarms.table.length := by
  simpa [Alarms.keys] using h.keys.length_le

/-- R130, R140: what makes no entry keeps the alarm table legal. -/
theorem legal (h : s.Thins t) (legal : s.alarmsLegal) : t.alarmsLegal := by
  obtain ⟨room, distinct, plain, flood⟩ := legal
  refine ⟨h.length_le.trans room, distinct.sublist h.keys, fun e he => ?_, fun e he => ?_⟩
  · obtain ⟨f, hf, fe⟩ := List.mem_map.1 (h.keys.subset (List.mem_map_of_mem he))
    rw [State.isFloodKey_congr fe.symm h.own]
    exact plain f hf
  · obtain ⟨f, hf, ef⟩ := h.flood e he
    rw [State.isFloodKey_congr ef h.own]
    exact flood f hf

theorem foldl {α : Type} {f : State → α → State} (hf : ∀ (s : State) a, s.Thins (f s a)) (as : List α) (s : State) :
    s.Thins (as.foldl f s) := by
  induction as generalizing s with
  | nil => exact .refl s
  | cons a as ih => exact (hf s a).trans (ih _)

end State.Thins

/-! ## Entries that change and entries that go -/

theorem State.replace_thins (s : State) (e : AlarmEntry) : s.Thins { s with alarms := s.alarms.replace e } := by
  have put (f : AlarmEntry) : (if f.hasKey e.origin e.code e.channel then e else f).key = f.key := by
    split
    · exact (AlarmEntry.hasKey_key.1 ‹_›).symm
    · rfl
  refine ⟨rfl, ?_, fun f hf => ?_⟩
  · have same : (s.alarms.replace e).keys = s.alarms.keys := by
      simp only [Alarms.keys, Alarms.replace, List.map_map]
      exact List.map_congr_left fun f _ => put f
    exact same ▸ List.Sublist.refl _
  · obtain ⟨g, hg, rfl⟩ := Option.map_eq_some_iff.1 hf
    exact ⟨g, hg, put g⟩

theorem State.setAlarm_thins (s : State) (e : AlarmEntry) : s.Thins (s.setAlarm e) := s.replace_thins e

theorem State.dropAlarm_thins (s : State) (e : AlarmEntry) : s.Thins (s.dropAlarm e) := by
  unfold State.dropAlarm; split
  · exact ⟨rfl, .refl _, by simp⟩
  · exact ⟨rfl, List.filter_sublist.map _, fun f hf => ⟨f, hf, rfl⟩⟩

theorem State.retryPush_thins (s : State) (n : Notice) : s.Thins { s with alarms := s.alarms.retryPush n } := by
  unfold Alarms.retryPush; split <;> exact .of_board rfl

theorem State.handBack_thins (s : State) (n : Notice) : s.Thins (s.handBack n) := by
  have superseded : s.Thins { s with alarms := s.alarms.supersede } := .of_board rfl
  unfold State.handBack
  split
  · repeat' split
    · exact superseded
    · exact s.replace_thins _
    · exact superseded
    · exact s.retryPush_thins _
    · exact superseded
  · repeat' split
    · exact superseded
    · exact s.replace_thins _
    · exact superseded
    · exact s.retryPush_thins _
  · exact .refl s

theorem State.offer_thins (s : State) (n : Notice) : s.Thins (s.offer n) := by
  have linked (l : Link) : s.Thins { s with link := l } := .of_board rfl
  unfold State.offer
  extract_lets l r s'
  split
  · exact (linked _).trans (State.handBack_thins _ n)
  repeat' split
  · exact linked _
  · exact (linked _).trans (.of_board (State.enterBackoff_board _))
  · exact (linked _).trans (.of_board (State.kickAccess_board _))
  · exact (linked _).trans (State.handBack_thins _ n)

/-! ## Notices that are offered again (R138) -/

theorem State.reoffer_thins (s : State) (n : Notice) : s.Thins (s.reoffer n) := by
  unfold State.reoffer
  refine .trans ?_ (State.offer_thins _ n)
  exact .of_board rfl

theorem State.room_thins (s : State) : s.Thins s.room := by
  have alarm (t : State) (k : AlarmEntry) : t.Thins (t.reofferAlarm k) := by
    unfold State.reofferAlarm; repeat' split
    · exact .refl t
    · exact (t.replace_thins _).trans (State.reoffer_thins _ _)
    · exact .refl t
  have ack (t : State) (k : AlarmEntry) : t.Thins (t.reofferAck k) := by
    unfold State.reofferAck; repeat' split
    · exact .refl t
    · exact (t.replace_thins _).trans (State.reoffer_thins _ _)
    · exact .refl t
  have retry (n : Nat) (t : State) : t.Thins (t.reofferRetry n) := by
    induction n generalizing t with
    | zero => exact .refl t
    | succ n ih =>
      unfold State.reofferRetry; split
      · exact .refl t
      · rename_i r rs _
        have taken : t.Thins { t with alarms := { t.alarms with retry := rs } } := .of_board rfl
        exact (taken.trans (State.reoffer_thins _ r)).trans (ih _)
  unfold State.room
  exact (State.Thins.foldl (fun t k => (alarm t k).trans (ack _ k)) _ s).trans (retry _ _)

/-! ## Clears, acknowledgements and orphans (R132 to R136, R141) -/

/-- A change of the table, with its journal record. -/
theorem State.Thins.journal (h : s.Thins t) (n : Nat) (e : AlarmEntry) (r a l : Nat) : s.Thins (t.journal n e r a l) :=
  h.trans (.of_board (State.journal_board _ _ _ _ _ _))

theorem State.Thins.offerClear (h : s.Thins t) (e : AlarmEntry) : s.Thins (t.offerClear e) := by
  unfold State.offerClear; split
  · exact h.trans (State.offer_thins _ _)
  · exact h

theorem State.clearEntry_thins (s : State) (e : AlarmEntry) : s.Thins (s.clearEntry e) := by
  unfold State.clearEntry
  extract_lets lost latched returned
  repeat' split
  · exact ((s.setAlarm_thins _).journal _ _ _ _ _).offerClear _
  · exact .refl s
  · exact ((s.setAlarm_thins _).journal _ _ _ _ _).offerClear _
  · exact ((s.dropAlarm_thins _).journal _ _ _ _ _).offerClear _
  · exact .refl s

theorem State.clearKey_thins (s : State) (c : AlarmCode) (ch : Nat) : s.Thins (s.clearKey c ch) := by
  unfold State.clearKey; repeat' split
  · exact .of_board (State.logClear_board _ _ _)
  · exact .refl s
  · exact s.clearEntry_thins _

theorem State.afterChange_thins (s : State) : s.Thins s.afterChange := by
  have checked : s.Thins s.floodCheck := by
    unfold State.floodCheck; split
    · exact s.clearKey_thins _ _
    · exact .refl s
  exact checked.trans (.of_board (State.evalTrips_board _))

theorem State.takeClear_thins (s : State) (c : AlarmCode) (ch : Nat) : s.Thins (s.takeClear c ch) := by
  unfold State.takeClear; split
  · exact .of_board rfl
  · exact (s.clearKey_thins c ch).trans (State.afterChange_thins _)

theorem State.peerClear_thins (s : State) (o : Nat) (c : AlarmCode) (ch : Nat) (occ : Serial) :
    s.Thins (s.peerClear o c ch occ) := by
  unfold State.peerClear
  repeat' split
  · exact .of_board rfl
  · exact .of_board rfl
  · exact (s.dropAlarm_thins _).journal _ _ _ _ _
  · exact (s.setAlarm_thins _).journal _ _ _ _ _
  · exact (s.dropAlarm_thins _).journal _ _ _ _ _
  · exact .of_board rfl
  · exact .of_board rfl

theorem State.acknowledgeEntry_thins (s : State) (e : AlarmEntry) (n : Nat) : s.Thins (s.acknowledgeEntry e n) := by
  unfold State.acknowledgeEntry
  repeat' split
  · exact (s.dropAlarm_thins _).journal _ _ _ _ _
  · exact (s.setAlarm_thins _).journal _ _ _ _ _
  · exact (s.dropAlarm_thins _).journal _ _ _ _ _
  · exact .refl s

theorem State.ackNotice_thins (s : State) (st o c ch : Nat) (occ : Serial) : s.Thins (s.ackNotice st o c ch occ) := by
  unfold State.ackNotice
  repeat' split
  · exact .of_board rfl
  · exact .of_board rfl
  · exact .of_board rfl
  · exact (s.acknowledgeEntry_thins _ _).trans (State.afterChange_thins _)
  · exact .of_board rfl

theorem State.panelAck_thins (s : State) (k : AlarmEntry) : s.Thins (s.panelAck k) := by
  unfold State.panelAck
  split
  · exact .refl s
  split
  · exact .refl s
  extract_lets e1 s1 s2
  have h1 : s.Thins s1 := (s.setAlarm_thins e1).trans (State.acknowledgeEntry_thins _ _ _)
  have h2 : s.Thins s2 := by
    simp only [s2]; split
    · exact h1.trans (State.offer_thins _ _)
    · exact h1
  exact h2.trans s2.afterChange_thins

theorem State.panelAckAll_thins (s : State) : s.Thins s.panelAckAll := by
  unfold State.panelAckAll; split
  · exact .refl s
  · exact .foldl State.panelAck_thins _ s

theorem State.orphan_thins (s : State) (o : Nat) : s.Thins (s.orphan o) := by
  have entry (t : State) (e : AlarmEntry) : t.Thins (t.orphanEntry e) := by
    unfold State.orphanEntry
    repeat' split
    · exact (t.setAlarm_thins _).journal _ _ _ _ _
    · exact (t.dropAlarm_thins _).journal _ _ _ _ _
    · exact .refl t
    · exact (t.setAlarm_thins _).journal _ _ _ _ _
  exact (State.Thins.foldl entry _ s).trans (State.afterChange_thins _)

/-! ## Entries that are made (R131, R134, R139, R140) -/

theorem evictAlarm_eq_board (s : State) (e : AlarmEntry) : (s.evictAlarm e).board = (s.dropAlarm e).board := by
  unfold State.evictAlarm
  extract_lets s1 s2
  have h2 : s2.board = s1.board := by
    simp only [s2, Alarms.retryPush]; repeat' split
    all_goals rfl
  rw [State.journal_board, h2]
  rfl

theorem length_without_lt {as : List AlarmEntry} (h : e ∈ as) :
    (as.filter fun f => !f.hasKey e.origin e.code e.channel).length < as.length := by
  refine List.length_filter_lt_length_iff_exists.2 ⟨e, h, ?_⟩
  simp [AlarmEntry.hasKey]

/-- R139: an eviction makes room. -/
theorem State.makeRoom_spec (h : s.makeRoom = some t) (legal : s.alarmsLegal) :
    t.ownNumber = s.ownNumber ∧ t.alarmsLegal ∧ t.alarms.table.length < 48 := by
  unfold State.makeRoom at h
  split at h
  · cases h; exact ⟨rfl, legal, ‹_›⟩
  · obtain ⟨e, he, rfl⟩ := Option.map_eq_some_iff.1 h
    have inside := (evictedAlarm_spec he).1
    have thins : s.Thins (s.evictAlarm e) := (s.dropAlarm_thins e).trans (.of_board (evictAlarm_eq_board s e))
    refine ⟨thins.own, thins.legal legal, ?_⟩
    have table : (s.evictAlarm e).alarms.table = (s.dropAlarm e).alarms.table :=
      congrArg (fun b => b.2.1) (evictAlarm_eq_board s e)
    obtain ⟨room, -, plain, -⟩ := legal
    rw [table, State.dropAlarm, if_neg (by simp [plain e inside])]
    exact (length_without_lt inside).trans_le room

theorem insertAlarm_perm (e : AlarmEntry) (as : List AlarmEntry) : (insertAlarm e as).Perm (e :: as) := by
  induction as with
  | nil => exact .refl _
  | cons f as ih =>
    unfold insertAlarm; split
    · exact (ih.cons f).trans (.swap e f as)
    · exact .refl _

/-- R130, R140: there is a place for an entry of a key: the flood slot, room in the table, or the place of the one entry of
the key. -/
def State.admits (s : State) (k : Nat × AlarmCode × Nat) : Prop :=
  k = (s.ownNumber, .alarmFlood, 255) ∨ s.alarms.table.length < 48 ∨ ∃ f ∈ s.alarms.all, f.key = k

theorem State.admits_of_findAlarm {o ch : Nat} {c : AlarmCode} (h : s.findAlarm o c ch = some e) : s.admits (o, c, ch) := by
  obtain ⟨ho, hc, hch⟩ := AlarmEntry.hasKey_iff.1 (State.hasKey_of_findAlarm h)
  exact .inr (.inr ⟨e, State.mem_of_findAlarm h, by simp [AlarmEntry.key, ho, hc, hch]⟩)

theorem State.isFloodKey_iff : s.isFloodKey e = true ↔ e.key = (s.ownNumber, .alarmFlood, 255) := by
  simp [State.isFloodKey, AlarmEntry.hasKey_iff, AlarmEntry.key]

/-- R130, R140: an entry that is admitted takes its place. -/
theorem State.placeAlarm_legal (legal : s.alarmsLegal) (admits : s.admits e.key) : (s.placeAlarm e).alarmsLegal := by
  obtain ⟨len, distinct, plain, flood⟩ := legal
  unfold State.placeAlarm
  split
  · rename_i key
    exact ⟨len, distinct, plain, fun f hf => Option.some.inj hf ▸ key⟩
  rename_i key
  extract_lets rest
  have perm : (insertAlarm e rest).Perm (e :: rest) := insertAlarm_perm e rest
  have sub : rest.Sublist s.alarms.table := List.filter_sublist
  have fits : rest.length < 48 := by
    rcases admits with flooded | room | ⟨f, hf, fe⟩
    · exact absurd (State.isFloodKey_iff.2 flooded) key
    · exact (sub.length_le).trans_lt room
    · have inside : f ∈ s.alarms.table := by
        rcases List.mem_append.1 hf with hf | hf
        · exact hf
        · exact absurd ((State.isFloodKey_congr fe rfl).symm.trans (flood f (Option.mem_toList.1 hf))) key
      have same : rest = s.alarms.table.filter fun g => !g.hasKey f.origin f.code f.channel := by
        refine List.filter_congr fun g _ => congrArg _ ?_
        rw [Bool.eq_iff_iff, AlarmEntry.hasKey_key, AlarmEntry.hasKey_key, fe]
      exact (congrArg List.length same).trans_lt ((length_without_lt inside).trans_le len)
  refine ⟨perm.length_eq.trans_le fits, (perm.map _).nodup_iff.2 (List.nodup_cons.2 ⟨?_, distinct.sublist (sub.map _)⟩),
    fun f hf => ?_, flood⟩
  · rintro (hk : e.key ∈ rest.map AlarmEntry.key)
    obtain ⟨f, hf, fe⟩ := List.mem_map.1 hk
    have other := (List.mem_filter.1 hf).2
    simp [AlarmEntry.hasKey_key.2 fe] at other
  · rcases List.mem_cons.1 (perm.mem_iff.1 hf) with rfl | hf
    · exact Bool.eq_false_iff.2 key
    · exact plain f (sub.subset hf)

theorem State.alarmsLegal.congr (legal : s.alarmsLegal) (h : t.board = s.board) : t.alarmsLegal :=
  (State.Thins.of_board h).legal legal

theorem State.enterNew_board (s : State) (e : AlarmEntry) : (s.enterNew e).board = (s.placeAlarm e).board :=
  (State.journal_board { s.placeAlarm e with alarms := _ } _ _ _ _ _).trans rfl

theorem State.enterNew_legal (legal : s.alarmsLegal) (admits : s.admits e.key) : (s.enterNew e).alarmsLegal :=
  (State.placeAlarm_legal legal admits).congr (s.enterNew_board e)

/-- R131: an own entry is made, or made again. -/
theorem State.enterOwn_legal {c : AlarmCode} {ch : Nat} (legal : s.alarmsLegal) (admits : s.admits (s.ownNumber, c, ch)) :
    (s.enterOwn c ch).alarmsLegal := by
  unfold State.enterOwn
  extract_lets e a s1 s2 s3
  have counted : State.alarmsLegal { s with alarms := { s.alarms with occurrence := e.occurrence } } := legal.congr rfl
  have h2 : s2.alarmsLegal := (State.enterNew_legal (e := e) counted admits).congr rfl
  have h3 : s3.alarmsLegal := by
    simp only [s3]; split
    · exact (s2.offer_thins _).legal h2
    · exact h2
  exact h3.congr s3.evalTrips_board

/-- R140: a raise that is lost. -/
theorem State.loseRaise_legal (legal : s.alarmsLegal) : s.loseRaise.alarmsLegal := by
  have flooded (u : State) (h : u.alarmsLegal) : u.raiseFlood.alarmsLegal := by
    unfold State.raiseFlood
    simp only; split
    all_goals
      refine State.enterOwn_legal ?_ (.inl rfl)
      exact h.congr rfl
  unfold State.loseRaise
  simp only; repeat' split
  · exact legal.congr (State.logRaise_board _ _ _)
  · exact legal.congr rfl
  · exact flooded _ (legal.congr rfl)

/-- R131, R139, R140: a raise request. -/
theorem State.takeRaise_legal (legal : s.alarmsLegal) (c : AlarmCode) (ch : Nat) : (s.takeRaise c ch).alarmsLegal := by
  unfold State.takeRaise
  repeat' split
  · exact legal.congr rfl
  · exact legal.congr (State.logRaise_board _ _ _)
  · exact State.enterOwn_legal legal (State.admits_of_findAlarm ‹_›)
  · exact legal
  · exact State.loseRaise_legal legal
  · obtain ⟨own, made, room⟩ := State.makeRoom_spec ‹_› legal
    exact State.enterOwn_legal (made.congr rfl) (.inr (.inl room))

/-- R134, R139, R140: a raise notice of a peer. -/
theorem State.peerRaise_legal (legal : s.alarmsLegal) (o : Nat) (c : AlarmCode) (ch cls : Nat) (occ : Serial) :
    (s.peerRaise o c ch cls occ).alarmsLegal := by
  unfold State.peerRaise
  repeat' split
  · exact State.loseRaise_legal legal
  · obtain ⟨own, made, room⟩ := State.makeRoom_spec ‹_› legal
    exact State.enterNew_legal (made.congr rfl) (.inr (.inl room))
  · exact State.enterNew_legal legal (State.admits_of_findAlarm ‹_›)
  · exact legal.congr rfl
  · exact legal.congr rfl

theorem State.alarmNotice_legal (legal : s.alarmsLegal) (o c ch cls ev : Nat) (occ : Serial) :
    (s.alarmNotice o c ch cls ev occ).alarmsLegal := by
  unfold State.alarmNotice
  simp only
  repeat' split
  · exact legal.congr rfl
  · exact legal.congr rfl
  · exact legal.congr rfl
  · exact legal.congr (State.journal_board _ _ _ _ _ _)
  · exact legal.congr (State.journal_board _ _ _ _ _ _)
  · exact (State.afterChange_thins _).legal (State.peerRaise_legal legal _ _ _ _ _)
  · exact ((s.peerClear_thins _ _ _ _).trans (State.afterChange_thins _)).legal legal

/-! ## The settling of requests -/

/-- R130, R140: the requests that the alarm unit takes keep its table legal. -/
theorem State.settle_legal (legal : s.alarmsLegal) : s.settle.alarmsLegal := by
  have first {u : State} (h : u.alarmsLegal) : u.takeFirst.alarmsLegal := by
    have taken (r : AlarmRequest) : (u.takeRequest r).alarmsLegal := by
      cases r with
      | raise c ch => exact State.takeRaise_legal h c ch
      | clear c ch => exact (u.takeClear_thins c ch).legal h
    unfold State.takeFirst; split
    · exact h
    · exact (taken _).congr rfl
  have some (n : Nat) {u : State} (h : u.alarmsLegal) : (State.settleSome n u).alarmsLegal := by
    induction n generalizing u with
    | zero => exact h
    | succ n ih =>
      unfold State.settleSome; split
      · exact h
      · exact ih (first h)
  exact (some _ legal).congr rfl

end

end Sys2Proof.Machine
end

section
/-! PROOFS. Every command keeps the alarm table legal, and ends with no request left over and no mark of a control update (R88,
R130, R140). -/

namespace Sys2Proof.Machine

/-- Between two states the alarm table stays legal, and no mark of a control update begins to stand. -/
structure State.Tidy (s t : State) : Prop where
  updating : s.channels.updating = false → t.channels.updating = false
  legal : s.alarmsLegal → t.alarmsLegal

section
variable {r s t u : State}

namespace State.Tidy

theorem refl (s : State) : s.Tidy s := ⟨id, id⟩

theorem trans (h : s.Tidy t) (k : t.Tidy u) : s.Tidy u := ⟨k.updating ∘ h.updating, k.legal ∘ h.legal⟩

theorem of_still (k : t.still = s.still) (h : s.alarmsLegal → t.alarmsLegal) : s.Tidy t :=
  ⟨(updating_of_still k).trans, h⟩

theorem of_thins (h : s.Thins t) (k : t.still = s.still) : s.Tidy t := of_still k h.legal

/-- What leaves the alarm table alone. -/
theorem of_slate (h : t.slate = s.slate) : s.Tidy t :=
  ⟨(updating_of_slate h).trans, fun legal => legal.congr (board_of_slate h)⟩

/-- What follows and leaves the alarm table alone. -/
theorem of_eq (h : s.Tidy t) (k : u.slate = t.slate) : s.Tidy u := h.trans (of_slate k)

theorem foldl {α : Type} {f : State → α → State} (hf : ∀ (s : State) a, s.Tidy (f s a)) (as : List α) (s : State) :
    s.Tidy (as.foldl f s) := by
  induction as generalizing s with
  | nil => exact refl s
  | cons a as ih => exact (hf s a).trans (ih _)

theorem settle (h : r.Tidy s) : r.Tidy s.settle := h.trans (of_still s.settle_still State.settle_legal)

theorem offer (h : r.Tidy s) (n : Notice) : r.Tidy (s.offer n) :=
  h.trans (of_thins (s.offer_thins n) (s.offer_still n))

end State.Tidy

variable (s)

/-! ## The link (R14 to R18) -/

theorem State.discard_tidy (f : QFrame) : s.Tidy (s.discard f) := by
  unfold State.discard
  extract_lets s1 n l s2 s3
  have h3 : s3.slate = s.slate := by
    simp only [s3]; split
    · exact s2.setExhaustion_slate
    · rfl
  exact ((State.Tidy.of_slate h3).trans (.of_thins (s3.handBack_thins _) (s3.handBack_still _))).trans
    (.of_thins (State.room_thins _) (State.room_still _))

theorem State.collide_tidy : s.Tidy s.collide := by
  unfold State.collide
  split
  · exact .refl s
  extract_lets s1 bump l s2 s3
  have h3 : s.Tidy s3 := by
    have struck : s.Tidy s2 := .of_slate rfl
    simp only [s3]; split
    · exact struck.trans (s2.discard_tidy _)
    · exact struck
  exact h3.of_eq rfl

theorem State.sent_tidy : s.Tidy s.sent := by
  unfold State.sent
  split
  · exact .refl s
  extract_lets s1 l s2
  have h2 : s.Tidy s2.clearExhaustion := .of_slate s2.clearExhaustion_slate
  exact (h2.trans (.of_thins (State.room_thins _) (State.room_still _))).of_eq rfl

/-! ## The floor picture and the accountant -/

theorem State.goAbsent_tidy (n : Nat) : s.Tidy (s.goAbsent n) := by
  unfold State.goAbsent
  extract_lets mark q s1 s2
  have removed : s.Tidy s2 := .of_slate (foldl_slate (fun t e => t.removePeer_slate e) _ s1)
  exact removed.settle.trans (.of_thins (State.orphan_thins _ n) (State.orphan_still _ n))

theorem State.originate_tidy : s.Tidy s.originate := by
  unfold State.originate; simp only; repeat' split
  · exact .of_slate rfl
  · exact (State.Tidy.of_slate (s.considerOrder_slate _ true)).offer _
  · exact .of_slate rfl

theorem State.refreshOrder_tidy : s.Tidy s.refreshOrder := by
  unfold State.refreshOrder; split
  · exact .refl s
  · exact ((State.Tidy.refl s).offer _).of_eq (State.restartRefresh_slate _)

theorem State.closeShift_tidy (n : Serial) (r : Nat) (m : Serial) : s.Tidy (s.closeShift n r m) := by
  unfold State.closeShift
  extract_lets bound sat payload s1 s2 s3 s4 s5 s6
  have h3 : s3.slate = s.slate := by
    have h2 : s2.slate = s.slate := (State.append_slate _ _ _ _ _ _).trans (State.append_slate _ _ _ _ _ _)
    simp only [s3]; split
    · rw [State.endCollation_slate, h2]
    · exact h2
  have h4 : s.Tidy s4 := .of_slate ((s3.beginCollation_slate n).trans h3)
  exact (h4.offer _).of_eq ((s6.openShiftFile_slate m).trans rfl)

theorem State.closeByTimer_tidy : s.Tidy s.closeByTimer := by
  unfold State.closeByTimer; split
  · exact .refl s
  · exact ((s.closeShift_tidy _ _ _).of_eq (State.takeNumber_slate _ _)).offer _

theorem State.markNotice_tidy (m : Serial) : s.Tidy (s.markNotice m) := by
  unfold State.markNotice; repeat' split
  · exact .of_slate (s.firstShift_slate m)
  · exact (s.closeShift_tidy _ _ _).of_eq (State.takeNumber_slate _ _)
  · exact .of_slate rfl
  · exact .of_slate rfl

/-! ## What the receive side hands on (R3 to R7) -/

theorem State.handOn_tidy (o : Nat) (n : Notice) : s.Tidy (s.handOn o n) := by
  cases n with
  | alarm => exact .of_still (s.alarmNotice_still _ _ _ _ _ _) fun legal => State.alarmNotice_legal legal _ _ _ _ _ _
  | ack => exact .of_thins (s.ackNotice_thins _ _ _ _ _) (s.ackNotice_still _ _ _ _ _)
  | mark m => exact s.markNotice_tidy m
  | heat => exact .of_slate (s.heatNotice_slate _ _ _ _ _ _ _ _ _)
  | air => exact .of_slate (s.airNotice_slate _ _ _ _ _ _ _ _ _)
  | order => exact .of_slate (s.orderNotice_slate _ _ _)
  | summary => exact .of_slate (s.summaryNotice_slate _ _)

theorem State.checkFrame_tidy (o k : Nat) (p : List Byte) (ok : Bool) : s.Tidy (s.checkFrame o k p ok) := by
  have accepted (n : Notice) : s.Tidy (s.accept o n) := by
    unfold State.accept
    extract_lets s1 l s2
    have heard : s2.slate = s.slate := by
      simp only [s2]; split
      · exact State.clearSilence_slate _
      · rfl
    exact ((State.Tidy.of_slate heard).of_eq (s2.signOfLife_slate o)).trans (State.handOn_tidy _ o n)
  unfold State.checkFrame
  repeat' split
  · exact .of_slate rfl
  · exact .of_slate rfl
  · exact .of_slate rfl
  · exact .of_slate rfl
  · exact .of_slate s.ownOrigin_slate
  · exact .refl s
  · exact accepted _

theorem State.hearBurst_tidy (b : List Byte) : s.Tidy (s.hearBurst b) := by
  have busy : s.Tidy s.mediumBusy := .of_slate s.mediumBusy_slate
  unfold State.hearBurst
  simp only
  repeat' split
  · exact .refl s
  · exact busy
  · exact busy.of_eq rfl
  · exact busy.of_eq rfl
  · exact busy.trans (State.checkFrame_tidy _ _ _ _ _)

/-! ## The control update and the entry to RUN (R37, R39) -/

theorem eachSlot_legal {s : State} {f : State → Fin 4 → State}
    (hf : ∀ (s : State) i, s.alarmsLegal → (f s i).alarmsLegal) (h : s.alarmsLegal) : (s.eachSlot f).alarmsLegal :=
  hf _ _ (hf _ _ (hf _ _ (hf _ _ h)))

variable {s}

theorem State.feedPassage_legal (i : Fin 4) (h : s.alarmsLegal) : (s.feedPassage i).alarmsLegal := by
  have v := Voiced.refl s
  unfold State.feedPassage; split
  · exact h.congr (board_of_slate ((State.cfPassage_voiced v i _).slate (s.cfPassage_still i _)))
  · exact h.congr (board_of_slate ((State.diPassage_voiced v i _).slate (s.diPassage_still i _)))
  · exact h

theorem State.feedHandOn_legal (i : Fin 4) (h : s.alarmsLegal) : (s.feedHandOn i).alarmsLegal := by
  have v := Voiced.refl s
  unfold State.feedHandOn; split
  · exact State.settle_legal (h.congr (board_of_slate ((State.cfHandOn_voiced v i).slate (s.cfHandOn_still i))))
  · exact State.settle_legal (h.congr (board_of_slate ((State.diHandOn_voiced v i).slate (s.diHandOn_still i))))
  · exact h

theorem State.coolerAct_legal (i : Fin 4) (h : s.alarmsLegal) : (s.coolerAct i).alarmsLegal := by
  have v := Voiced.refl s
  unfold State.coolerAct; split
  · exact State.settle_legal (h.congr (board_of_slate ((State.caUpdate_voiced v i).slate (s.caUpdate_still i))))
  · exact State.settle_legal (h.congr (board_of_slate ((State.cgUpdate_voiced v i).slate (s.cgUpdate_still i))))
  · exact h

theorem State.controlSlots_legal (h : s.alarmsLegal) : s.controlSlots.alarmsLegal := by
  unfold State.controlSlots
  extract_lets s1 q s2
  have h1 : s1.alarmsLegal := h.congr (board_of_slate (s.slew.updateEstimate_slate.trans s.slew_slate))
  have h2 : s2.alarmsLegal := eachSlot_legal (fun _ => State.feedPassage_legal) (h1.congr rfl)
  clear_value s2
  have allocated : s2.allocate.alarmsLegal := h2.congr rfl
  exact eachSlot_legal (fun _ => State.coolerAct_legal) (eachSlot_legal (fun _ => State.feedHandOn_legal) allocated)

variable (s)

/-- R39, R88: a control update ends with no mark of its own. -/
theorem State.control_tidy : s.Tidy s.control := by
  have unmarked {t : State} {l : List AlarmRequest} {b : Bool} (h : t.repose = (l, b)) : t.channels.updating = b :=
    congrArg Prod.snd h
  refine ⟨fun _ => unmarked s.control_repose, fun h => ?_⟩
  have acted := State.controlSlots_legal h
  unfold State.control
  generalize s.controlSlots = u at acted
  have supervised : u.fireSupervision.settle.alarmsLegal :=
    State.settle_legal (acted.congr (board_of_slate u.fireSupervision_slate))
  exact supervised.congr (State.controlAccounts_board _ _ _)

theorem State.slotToRun_slate (i : Fin 4) : (s.slotToRun i).slate = s.slate := by
  have faults : (s.faultAtRun i).slate = s.slate := by
    have v := Voiced.refl s
    unfold State.faultAtRun
    repeat' split
    · exact (State.cfInputFailed_voiced v i _).slate (s.cfInputFailed_still i _)
    · rfl
    · exact (State.diStop_voiced v i _ _).slate (s.diStop_still i _ _)
    · rfl
    · rfl
  unfold State.slotToRun State.firstNotice
  extract_lets s1
  split
  · exact faults
  · exact (s1.publish_slate i).trans faults

/-- R37, R88: the entry to RUN ends with no mark of an update. -/
theorem State.enterRun_tidy : s.Tidy s.enterRun := by
  unfold State.enterRun
  extract_lets p q s1 s3 s4 desk s5
  have board1 : s1.board = s.board := rfl
  have run : (s1.kickAccess.eachSlot State.slotToRun).slate = s1.slate :=
    (eachSlot_slate State.slotToRun_slate s1.kickAccess).trans s1.kickAccess_slate
  clear_value s1
  have slots : s.Tidy s3 := by
    simp only [s3]
    generalize s1.kickAccess.eachSlot State.slotToRun = v at run
    exact ⟨fun _ => rfl, fun legal => legal.congr ((board_of_slate run).trans board1)⟩
  clear_value s3
  have asks : s.Tidy s4 := by
    simp only [s4]; split
    · exact slots.of_eq rfl
    · exact slots
  have refreshes : s.Tidy s5 := by
    simp only [s5]; split
    · exact asks.trans s4.refreshOrder_tidy
    · exact asks
  split
  · exact refreshes.of_eq (s5.firstShift_slate _)
  · exact refreshes

/-! ## A start (R20, R149, R176) -/

/-- R149: an alarm unit at its values after a start. -/
theorem State.alarmsLegal_of_empty {s : State} (table : s.alarms.table = []) (flood : s.alarms.flood = none) : s.alarmsLegal := by
  refine ⟨by simp [table], by simp [table], ?_, ?_⟩
  · rw [table]; nofun
  · rw [flood]; nofun

theorem State.mapOutput_slate (o : Fin 8) : (s.mapOutput o).slate = s.slate := by
  rw [State.mapOutput_eq]; split
  · rfl
  · exact (State.writeLatch_slate _ _ _).trans rfl

/-- R178: the acceptance of an image, with an empty alarm table. -/
theorem State.acceptImage_tidy (img : List Byte) (table : s.alarms.table = []) (flood : s.alarms.flood = none) :
    s.Tidy (s.acceptImage img) := by
  unfold State.acceptImage
  extract_lets g slots heat fields chan s1 chan' s2 s3 s4
  have h2 : s.Tidy s2 := ⟨id, fun _ => State.alarmsLegal_of_empty table flood⟩
  clear_value s2
  have h3 : s.Tidy s3 := h2.of_eq (foldl_slate State.mapOutput_slate outputList s2)
  clear_value s3
  have h4 : s.Tidy s4 := by
    simp only [s4]; split
    · exact h3.of_eq rfl
    · exact h3
  exact h4.settle

theorem State.startScan_slate : s.startScan.slate = s.slate := by
  have repairs (t : State) (e : Fin 32) : (t.repairChain e).slate = t.slate := by
    unfold State.repairChain; simp only; repeat' split
    all_goals rfl
  have orphans (c : List (Fin 128)) (t : State) (g : Fin 128) : (State.orphanGranule c t g).slate = t.slate := by
    unfold State.orphanGranule; split <;> rfl
  have scans (t : State) (e : Fin 32) : (t.scanFile e).slate = t.slate := by
    unfold State.scanFile; simp only; repeat' split
    all_goals rfl
  unfold State.startScan
  simp only
  rw [foldl_slate scans, foldl_slate (orphans _), foldl_slate repairs]

theorem State.enterNext_slate : s.enterNext.slate = s.slate := by
  unfold State.enterNext; simp only; repeat' split
  · exact State.runStore_slate _
  · exact State.runStore_slate _
  · exact (State.runStore_slate _).trans (foldl_slate State.takeReport_slate _ _)

/-- R149, R176: a start ends with a legal alarm table and no mark of an update. -/
theorem State.start_tidy (line strap : Bool) : r.Tidy (s.start line strap) := by
  unfold State.start
  extract_lets s1 a s2 s3
  have read : s2.slate = (false, s1.ownNumber, [], none) := State.kickStream_slate _
  clear_value s2
  have table : s2.alarms.table = [] := congrArg (fun x => x.2.2.1) read
  have flood : s2.alarms.flood = none := congrArg (fun x => x.2.2.2) read
  have h2 : r.Tidy s2 := ⟨fun _ => congrArg Prod.fst read, fun _ => State.alarmsLegal_of_empty table flood⟩
  have h3 : r.Tidy s3 := by
    simp only [s3]; split
    · exact h2
    · exact h2.trans (s2.acceptImage_tidy _ table flood)
  exact (h3.of_eq ((State.enterNext_slate _).trans (State.startScan_slate _))).settle

end

/-! ## Events and commands -/

/-- Between two states the alarm table stays legal, and rest stays rest. -/
structure State.Orderly (s t : State) : Prop where
  legal : s.alarmsLegal → t.alarmsLegal
  rested : s.rested = true → t.rested = true

theorem State.rested_iff {s : State} : s.rested = true ↔ s.agenda = [] ∧ s.channels.updating = false := by
  simp [State.rested]

theorem State.Orderly.refl (s : State) : s.Orderly s := ⟨id, id⟩

/-- What leaves no request. -/
theorem State.Tidy.orderly {s t : State} (h : s.Tidy t) (quiet : t.agenda = []) : s.Orderly t :=
  ⟨h.legal, fun k => State.rested_iff.2 ⟨quiet, h.updating (State.rested_iff.1 k).2⟩⟩

/-- R149: a part held in reset or without supply. -/
theorem State.Orderly.of_empty {s t : State} (alarms : t.alarms = {}) (quiet : t.rested = true) : s.Orderly t :=
  ⟨fun _ => State.alarmsLegal_of_empty (by rw [alarms]) (by rw [alarms]), fun _ => quiet⟩

/-- A command's meaning keeps the alarm table legal, and rest. -/
def KeepsOrder (c : Instr) : Prop := ∀ s : State, ∃ t, exec c s = .next t ∧ s.Orderly t

/-- A command that is an event. -/
theorem order_of_event {c : Instr} {f : State → State} (hc : ∀ s, exec c s = .next (s.takeEvent f))
    (h : ∀ t : State, t.Tidy (f t)) : KeepsOrder c := by
  refine fun s => ⟨_, hc s, ?_⟩
  cases live : s.live
  · rw [State.takeEvent_dead f live]
    exact .refl s
  · rw [State.takeEvent_live f live]
    have begun : s.Tidy s.begun := .of_slate rfl
    exact (begun.trans (h s.begun)).settle.orderly rfl

/-- A command that is an event which leaves the alarm table alone. -/
theorem order_of_slate {c : Instr} {f : State → State} (hc : ∀ s, exec c s = .next (s.takeEvent f))
    (h : ∀ t : State, (f t).slate = t.slate) : KeepsOrder c :=
  order_of_event hc fun t => .of_slate (h t)

/-! ### The starts, RESET and the supply (R20, R149, R176) -/

theorem keepsOrder_powerOnStart (b : Bool) : KeepsOrder (.powerOnStart b) :=
  fun s => ⟨_, rfl, (State.start_tidy (r := s) _ _ _).orderly rfl⟩

theorem keepsOrder_resetAsserted : KeepsOrder .resetAsserted := by
  refine fun s => ⟨_, rfl, ?_⟩
  split
  · exact .of_empty rfl rfl
  · exact .refl s

theorem keepsOrder_lineRestart (b : Bool) : KeepsOrder (.lineRestart b) := by
  refine fun s => ⟨_, rfl, ?_⟩
  split
  · exact (State.start_tidy _ _ _).orderly rfl
  · exact .refl s

theorem keepsOrder_supplyFailure (w : Option Nat) : KeepsOrder (.supplyFailure w) := by
  refine fun s => ⟨_, rfl, ?_⟩
  split
  · exact .of_empty rfl rfl
  · exact .refl s

theorem keepsOrder_listenTimerExpiry : KeepsOrder .listenTimerExpiry := by
  refine order_of_event (fun _ => rfl) fun t => ?_
  split
  · exact .refl t
  · exact .trans (.of_slate (t.reach_slate _)) (State.enterRun_tidy _)

/-! ### The link, the floor picture, the alarm unit and the accountant -/

theorem keepsOrder_duplicateTimerExpiry : KeepsOrder .duplicateTimerExpiry := by
  refine order_of_slate (fun _ => rfl) fun t => ?_
  split <;> rfl

theorem keepsOrder_silenceTimerExpiry : KeepsOrder .silenceTimerExpiry := by
  refine order_of_slate (fun _ => rfl) fun t => ?_
  split
  · rfl
  · exact State.setSilence_slate _

theorem keepsOrder_collision : KeepsOrder .collision := by
  refine order_of_event (fun _ => rfl) fun t => ?_
  split
  · exact t.collide_tidy
  · exact .refl t

theorem keepsOrder_sentCleanly : KeepsOrder .sentCleanly := by
  refine order_of_event (fun _ => rfl) fun t => ?_
  split
  · exact t.sent_tidy
  · exact .refl t

theorem keepsOrder_staleTimeExpiry (n ch : Nat) : KeepsOrder (.staleTimeExpiry n ch) := by
  refine order_of_slate (fun _ => rfl) fun t => ?_
  repeat' split
  all_goals rfl

theorem keepsOrder_lostTimeExpiry (n ch : Nat) : KeepsOrder (.lostTimeExpiry n ch) := by
  refine order_of_slate (fun _ => rfl) fun t => ?_
  split
  · rfl
  · exact State.removePeer_slate _ _

theorem keepsOrder_lossHoldExpiry : KeepsOrder .lossHoldExpiry := by
  refine order_of_slate (fun _ => rfl) fun t => ?_
  split <;> rfl

theorem keepsOrder_stationAbsent (n : Nat) : KeepsOrder (.stationAbsent n) := by
  refine order_of_event (fun _ => rfl) fun t => ?_
  repeat' split
  · exact .refl t
  · exact .trans (.of_slate (t.reach_slate _)) (State.goAbsent_tidy _ n)
  · exact .refl t

theorem keepsOrder_take : KeepsOrder .take := by
  refine order_of_event (fun _ => rfl) fun t => ?_
  repeat' split
  · exact .of_slate rfl
  · exact t.originate_tidy
  · exact .of_slate rfl
  · exact .refl t

theorem keepsOrder_refreshTimerExpiry : KeepsOrder .refreshTimerExpiry := by
  refine order_of_event (fun _ => rfl) fun t => ?_
  split
  · exact .refl t
  · exact .trans (.of_slate (t.reach_slate _)) (State.refreshOrder_tidy _)

/-- R71, R102, R142: the trip line's own work at the slots and the outputs. -/
theorem State.takeTrip_slate (s : State) (b : Bool) : (s.takeTrip b).slate = s.slate := by
  have interrupts (t : State) (i : Fin 4) : (t.interrupt i).slate = t.slate :=
    (State.interrupt_voiced (.refl t) i).slate (t.interrupt_still i)
  have reports (t : State) : t.evalTrips.slate = t.slate := (State.evalTrips_voiced (.refl t)).slate t.evalTrips_still
  have zeroes (t : State) : t.zeroFeeds.slate = t.slate := by
    refine foldl_slate (fun t o => ?_) _ _
    split
    · exact t.writeLatch_slate o 0
    · rfl
  cases b
  · rw [State.takeTrip_false, reports]; rfl
  · rw [State.takeTrip_true, eachSlot_slate interrupts, reports, zeroes]; rfl

theorem keepsOrder_tripLineObserved (b : Bool) : KeepsOrder (.tripLineObserved b) := by
  refine order_of_slate (execTripLineObserved_eq b) fun t => ?_
  repeat' split
  · rfl
  all_goals exact t.takeTrip_slate b

theorem keepsOrder_silence : KeepsOrder .silence := by
  refine order_of_slate (fun _ => rfl) fun t => ?_
  split <;> rfl

theorem keepsOrder_shiftTimerExpiry : KeepsOrder .shiftTimerExpiry := by
  refine order_of_event (fun _ => rfl) fun t => ?_
  split
  · exact .refl t
  · exact .trans (.of_slate (t.reach_slate _)) (State.closeByTimer_tidy _)

theorem keepsOrder_collationTimerExpiry : KeepsOrder .collationTimerExpiry := by
  refine order_of_slate (fun _ => rfl) fun t => ?_
  split
  · rfl
  · exact State.endCollation_slate _ _

/-! ### The control update, the inputs and the slots -/

theorem keepsOrder_controlUpdate : KeepsOrder .controlUpdate := by
  refine order_of_event (fun _ => rfl) fun t => ?_
  split
  · exact .refl t
  · refine State.Tidy.trans ?_ (State.control_tidy _)
    exact .of_slate rfl

theorem keepsOrder_startTimerExpiry (i : Fin 4) : KeepsOrder (.startTimerExpiry i) := by
  refine order_of_slate (fun _ => rfl) fun t => ?_
  unfold State.onCf; simp only; repeat' split
  · rfl
  · exact (State.cfStop_voiced (.refl (t.reach _)) i _ _).slate (State.cfStop_still _ _ _ _)
  · rfl
  · rfl

theorem keepsOrder_freshTimeExpiry (k : Fin 16) : KeepsOrder (.freshTimeExpiry k) := by
  refine order_of_slate (fun _ => rfl) fun t => ?_
  split <;> rfl

theorem keepsOrder_holdTimeExpiry (k : Fin 16) : KeepsOrder (.holdTimeExpiry k) := by
  refine order_of_slate (fun _ => rfl) fun t => ?_
  split
  · rfl
  · exact State.holdExpires_slate _ k

theorem keepsOrder_runPermitEdge (i : Fin 4) (b : Bool) : KeepsOrder (.runPermitEdge i b) := by
  refine order_of_slate (fun _ => rfl) fun t => ?_
  split
  · rfl
  extract_lets p u
  have v := Voiced.refl u
  repeat' split
  · rfl
  · rfl
  · exact (State.cfPermitFalls_voiced v i _).slate (u.cfPermitFalls_still i _)
  · exact (State.diPermitFalls_voiced v i _).slate (u.diPermitFalls_still i _)
  · exact (State.caPermitFalls_voiced v i _).slate (u.caPermitFalls_still i _)
  · exact (State.cgPermitFalls_voiced v i _).slate (u.cgPermitFalls_still i _)

theorem State.confirm_slate (s : State) (i : Fin 4) (w : GateSwitch) (b : Bool) : (s.confirm i w b).slate = s.slate :=
  (State.confirm_voiced (.refl s) i w b).slate (s.confirm_still i w b)

theorem keepsOrder_initialLevel (line : InputLine) (b : Bool) : KeepsOrder (.initialLevel line b) := by
  refine order_of_slate (fun _ => rfl) fun t => ?_
  repeat' split
  case h_2 => exact t.confirm_slate _ _ b
  all_goals rfl

theorem keepsOrder_driveRefreshTimerExpiry : KeepsOrder .driveRefreshTimerExpiry := by
  refine order_of_slate (fun _ => rfl) fun t => ?_
  split
  · rfl
  · exact State.kickStream_slate _

theorem keepsOrder_phaseTimerExpiry (i : Fin 4) : KeepsOrder (.phaseTimerExpiry i) := by
  refine order_of_slate (fun _ => rfl) fun t => ?_
  unfold State.onDi; simp only; repeat' split
  · rfl
  · exact (State.gateJam_voiced (.refl (t.reach _)) i _).slate (State.gateJam_still _ _ _)
  · rfl

theorem keepsOrder_jamClear (i : Fin 4) : KeepsOrder (.jamClear i) := by
  refine order_of_slate (fun _ => rfl) fun t => ?_
  unfold State.onDi; simp only; repeat' split
  · exact (State.gateGo_voiced (.refl (t.setSlot i _)) i).slate (State.gateGo_still _ _)
  · rfl
  · rfl

theorem keepsOrder_divertTimerExpiry (i : Fin 4) : KeepsOrder (.divertTimerExpiry i) := by
  refine order_of_slate (fun _ => rfl) fun t => ?_
  unfold State.onDi; simp only; repeat' split
  all_goals rfl

/-! ### Every command and every step -/

/-- R88, R130, R140: every command keeps the alarm table legal, and rest. -/
theorem exec_keepsOrder : ∀ c : Instr, KeepsOrder c
  | .powerOnStart b => keepsOrder_powerOnStart b
  | .resetAsserted => keepsOrder_resetAsserted
  | .lineRestart b => keepsOrder_lineRestart b
  | .listenTimerExpiry => keepsOrder_listenTimerExpiry
  | .frameReceived b => order_of_event (fun _ => rfl) fun t => t.hearBurst_tidy b
  | .frameCutShort b => order_of_event (fun _ => rfl) fun t => t.hearBurst_tidy b
  | .duplicateTimerExpiry => keepsOrder_duplicateTimerExpiry
  | .silenceTimerExpiry => keepsOrder_silenceTimerExpiry
  | .quietGap => order_of_slate (fun _ => rfl) fun t => t.mediumQuiet_slate
  | .backoffSlot => order_of_slate (fun _ => rfl) fun t => t.countSlot_slate
  | .defer => order_of_slate (fun _ => rfl) fun t => t.mediumBusy_slate
  | .collision => keepsOrder_collision
  | .sentCleanly => keepsOrder_sentCleanly
  | .staleTimeExpiry n ch => keepsOrder_staleTimeExpiry n ch
  | .lostTimeExpiry n ch => keepsOrder_lostTimeExpiry n ch
  | .lossHoldExpiry => keepsOrder_lossHoldExpiry
  | .stationAbsent n => keepsOrder_stationAbsent n
  | .take => keepsOrder_take
  | .refreshTimerExpiry => keepsOrder_refreshTimerExpiry
  | .controlUpdate => keepsOrder_controlUpdate
  | .startTimerExpiry i => keepsOrder_startTimerExpiry i
  | .sampleWord k n b => order_of_slate (fun _ => rfl) fun t => t.takeWord_slate k n.toNat b
  | .freshTimeExpiry k => keepsOrder_freshTimeExpiry k
  | .holdTimeExpiry k => keepsOrder_holdTimeExpiry k
  | .runPermitEdge i b => keepsOrder_runPermitEdge i b
  | .gateConfirmation i w b => order_of_slate (fun _ => rfl) fun t => t.confirm_slate i w b
  | .phaseTimerExpiry i => keepsOrder_phaseTimerExpiry i
  | .jamClear i => keepsOrder_jamClear i
  | .divertTimerExpiry i => keepsOrder_divertTimerExpiry i
  | .driveWord => order_of_slate (fun _ => rfl) fun _ => State.kickStream_slate _
  | .driveRefreshTimerExpiry => keepsOrder_driveRefreshTimerExpiry
  | .tripLineObserved b => keepsOrder_tripLineObserved b
  | .acknowledge => order_of_event (fun _ => rfl) fun t => .of_thins t.panelAckAll_thins t.panelAckAll_still
  | .silence => keepsOrder_silence
  | .shiftTimerExpiry => keepsOrder_shiftTimerExpiry
  | .collationTimerExpiry => keepsOrder_collationTimerExpiry
  | .programCompletion b => order_of_slate (fun _ => rfl) fun t => t.programEnds_slate b
  | .eraseCompletion b => order_of_slate (fun _ => rfl) fun t => t.eraseEnds_slate b
  | .status => order_of_slate (fun _ => rfl) fun _ => rfl
  | .ident => order_of_slate (fun _ => rfl) fun t => t.answer_slate _
  | .dirEntry _ => order_of_slate (fun _ => rfl) fun t => t.answer_slate _
  | .pictureEntry _ => order_of_slate (fun _ => rfl) fun t => t.answer_slate _
  | .alarmEntry _ => order_of_slate (fun _ => rfl) fun t => t.answer_slate _
  | .channelView _ => order_of_slate (fun _ => rfl) fun t => t.answer_slate _
  | .window e m o => order_of_slate (fun _ => rfl) fun t => t.openWindow_slate e m o
  | .stream n => order_of_slate (fun _ => rfl) fun t => t.streamUnits_slate n
  | .prefetchReadDone => order_of_slate (fun _ => rfl) fun t => t.readEnds_slate
  | .writeEnable => order_of_slate (fun _ => rfl) fun t => t.closeWindow_slate
  | .configWrite _ _ _ => order_of_slate (fun _ => rfl) fun t => t.areaCommand_slate _ _
  | .configErase => order_of_slate (fun _ => rfl) fun t => t.areaCommand_slate _ _
  | .configOperationCompletion b => order_of_slate (fun _ => rfl) fun t => t.configCompletes_slate b
  | .otpWrite _ _ _ => order_of_slate (fun _ => rfl) fun t => t.areaCommand_slate _ _
  | .freeze => order_of_slate (fun _ => rfl) fun t => t.areaCommand_slate _ _
  | .otpProgramCompletion b => order_of_slate (fun _ => rfl) fun t => t.otpCompletes_slate b
  | .flush => order_of_slate (fun _ => rfl) fun t => t.flushQueue_slate
  | .commandDiscarded => order_of_slate (fun _ => rfl) fun _ => rfl
  | .unknownCommand _ => order_of_slate (fun _ => rfl) fun _ => rfl
  | .supplyFailure w => keepsOrder_supplyFailure w
  | .initialLevel l b => keepsOrder_initialLevel l b

theorem idle_orderly (s : State) : ∃ t, idle s = .next t ∧ s.Orderly t := by
  unfold idle
  repeat' split
  · exact ⟨_, rfl, id, id⟩
  · exact exec_keepsOrder _ s
  · obtain ⟨t, ht, order⟩ := exec_keepsOrder _ (s.useFree 1)
    exact ⟨t, ht, order.legal, order.rested⟩
  · exact ⟨_, rfl, .refl s⟩

/-- R88, R130, R140: every step keeps the alarm table legal, and rest. -/
theorem step_orderly {s t : State} (h : step s = .next t) : s.Orderly t := by
  have steps : ∃ t, step s = .next t ∧ s.Orderly t := by
    unfold step
    split
    · rename_i c rest _
      obtain ⟨t, ht, order⟩ := exec_keepsOrder c { s with pending := rest }
      exact ⟨t, ht, order.legal, order.rested⟩
    · exact idle_orderly s
  obtain ⟨u, hu, order⟩ := steps
  cases hu.symm.trans h
  exact order

/-- Settles O13: every event settles its requests, and the two that mark a control update take the mark back. -/
theorem stepsEndAtRest : Obligations.StepsEndAtRest := fun _ _ h k => (step_orderly k).rested h

end Sys2Proof.Machine
end

section
/-! PROOFS. What a raise and a clear of an own key leave in the alarm table, the flood slot and the log set (R131 to R133, R137,
R140). -/

namespace Sys2Proof.Machine

section
variable {s t : State} {own ch : Nat} {c : AlarmCode} {e : AlarmEntry}

/-! ## What an offer does to the alarm unit (R8, R137) -/

/-- R8: what holds whatever the link holds, and across a hand-back, holds across an offer. -/
theorem State.offer_induct {P : State → Prop} {n : Notice} (congr : ∀ {t u : State}, u.wire.2 = t.wire.2 → u.cfg = t.cfg → P t → P u)
    (back : ∀ {t : State}, P t → P (t.handBack n)) (h : P s) : P (s.offer n) := by
  have linked (l : Link) : P { s with link := l } := congr (t := s) rfl rfl h
  have backoff (t : State) : t.enterBackoff.wire.2 = t.wire.2 := by
    unfold State.enterBackoff; repeat' split
    all_goals rfl
  have kick (t : State) : t.kickAccess.wire.2 = t.wire.2 := by
    unfold State.kickAccess; repeat' split
    · rfl
    · exact backoff t
    · rfl
    · exact backoff t
    · rfl
    · rfl
    · rfl
  unfold State.offer
  extract_lets l r s'
  split
  · exact back (linked _)
  repeat' split
  · exact linked _
  · exact congr (backoff _) (congrArg Still.cfg (State.enterBackoff_still _)) (linked _)
  · exact congr (kick _) (congrArg Still.cfg (State.kickAccess_still _)) (linked _)
  · exact back (linked _)

/-- What the alarm unit counts and marks beside its entries: the occurrence count, the silenced mark, the lost count and the log
set. -/
def State.tally (s : State) : Serial × Bool × Nat × List (AlarmCode × Nat × Serial) :=
  (s.alarms.occurrence, s.alarms.silenced, s.alarms.lostCount, s.alarms.logSet)

theorem tally_of_alarms (h : t.alarms = s.alarms) : t.tally = s.tally := by simp only [State.tally, h]

@[simp] theorem State.journal_alarms (s : State) (n : Nat) (e : AlarmEntry) (r a l : Nat) :
    (s.journal n e r a l).alarms = s.alarms := alarms_of_wire (State.append_wire _ _ _ _ _ _)

theorem State.evalTrips_alarms (s : State) : s.evalTrips.alarms = s.alarms := (State.evalTrips_voiced (.refl s)).alarms

theorem State.handBack_tally (s : State) (n : Notice) : (s.handBack n).tally = s.tally := by
  have push (n : Notice) : State.tally { s with alarms := s.alarms.retryPush n } = s.tally := by
    unfold Alarms.retryPush; split <;> rfl
  unfold State.handBack
  repeat' split
  · rfl
  · rfl
  · rfl
  · exact push _
  · rfl
  · rfl
  · rfl
  · rfl
  · exact push _
  · rfl

theorem State.offer_tally (s : State) (n : Notice) : (s.offer n).tally = s.tally :=
  State.offer_induct (P := fun t => t.tally = s.tally) (fun h _ k => (tally_of_alarms h).trans k)
    (fun k => (State.handBack_tally _ n).trans k) rfl

/-- R137: the notice of an own key marks the entry of the key as unpublished at most. -/
theorem State.offer_own (h : s.findAlarm own c ch = some e) (number : s.ownNumber = own) (cls ev : Nat) (occ : Serial) :
    ∃ b, (s.offer (.alarm c.number ch cls ev occ)).findAlarm own c ch = some { e with unpublished := b } := by
  refine (State.offer_induct (n := .alarm c.number ch cls ev occ)
    (P := fun t => t.ownNumber = own ∧ ∃ b, t.findAlarm own c ch = some { e with unpublished := b }) ?_ ?_
    ⟨number, e.unpublished, h⟩).2
  · rintro t u (alarms : u.alarms = t.alarms) cfg ⟨own, b, found⟩
    exact ⟨(State.ownNumber_of_cfg cfg).trans own, b, by simpa only [State.findAlarm, alarms] using found⟩
  · rintro t ⟨rfl, b, found⟩
    have key := State.hasKey_of_findAlarm found
    refine ⟨State.ownNumber_of_cfg (congrArg Still.cfg (t.handBack_still _)), ?_⟩
    by_cases halted : t.station = .startHalt
    · exact ⟨b, by rw [State.handBack, if_pos halted]; exact found⟩
    · by_cases shows : AlarmEntry.currentNotice { e with unpublished := b } = .alarm c.number ch cls ev occ
      · rw [State.handBack_alarm_marks halted found shows]
        exact ⟨true, State.findAlarm_replace found key⟩
      · rw [State.handBack_alarm_superseded halted found shows]
        exact ⟨b, found⟩

/-- R137: the notice of an own key without an entry makes none. -/
theorem State.offer_gone (h : s.findAlarm own c ch = none) (number : s.ownNumber = own) (cls ev : Nat) (occ : Serial) :
    (s.offer (.alarm c.number ch cls ev occ)).findAlarm own c ch = none := by
  refine (State.offer_induct (n := .alarm c.number ch cls ev occ)
    (P := fun t => t.ownNumber = own ∧ t.findAlarm own c ch = none) ?_ ?_ ⟨number, h⟩).2
  · rintro t u (alarms : u.alarms = t.alarms) cfg ⟨own, gone⟩
    exact ⟨(State.ownNumber_of_cfg cfg).trans own, by simpa only [State.findAlarm, alarms] using gone⟩
  · rintro t ⟨rfl, gone⟩
    refine ⟨State.ownNumber_of_cfg (congrArg Still.cfg (t.handBack_still _)), ?_⟩
    have pushed (n : Notice) : State.findAlarm { t with alarms := t.alarms.retryPush n } t.ownNumber c ch = none := by
      unfold Alarms.retryPush; split <;> exact gone
    simp only [State.handBack, AlarmCode.ofNumber_number, Option.bind_some, gone]
    repeat' split
    · exact gone
    · exact pushed _
    · exact gone

/-! ## Raises (R131) -/

/-- R130, R140: an entry that is made is the one of its key. -/
theorem State.enterNew_findAlarm (legal : s.alarmsLegal) (e : AlarmEntry) :
    (s.enterNew e).findAlarm e.origin e.code e.channel = some e := by
  have key : e.hasKey e.origin e.code e.channel = true := AlarmEntry.hasKey_iff.2 ⟨rfl, rfl, rfl⟩
  by_cases flood : s.isFloodKey e = true
  · obtain ⟨-, -, plain, -⟩ := legal
    have none : s.alarms.table.find? (·.hasKey e.origin e.code e.channel) = none := by
      refine List.find?_eq_none.2 fun f hf same => ?_
      exact absurd ((State.isFloodKey_congr (AlarmEntry.hasKey_key.1 same) rfl).trans flood) (by simp [plain f hf])
    rw [findAlarm_of_board (s.enterNew_board e), State.placeAlarm, if_pos flood]
    simp [State.findAlarm, Alarms.all, none, key]
  · have other : e.key ≠ (s.ownNumber, .alarmFlood, 255) := flood ∘ State.isFloodKey_iff.2
    exact ((State.alarmsLegal.shows legal other).enterNew_same other key).findAlarm

/-- R131: the entry that a raise makes is the one of its key. -/
theorem State.enterOwn_findAlarm (legal : s.alarmsLegal) (c : AlarmCode) (ch : Nat) :
    ∃ b, (s.enterOwn c ch).findAlarm s.ownNumber c ch = some { s.ownEntry c ch with unpublished := b } := by
  unfold State.enterOwn
  extract_lets e a s1 s2 s3
  have counted : State.alarmsLegal { s with alarms := { s.alarms with occurrence := e.occurrence } } := legal.congr rfl
  have entered : s2.findAlarm s.ownNumber c ch = some e := State.enterNew_findAlarm counted e
  have number : s2.ownNumber = s.ownNumber :=
    State.ownNumber_of_cfg (congrArg Still.cfg (State.enterNew_still { s with alarms := _ } e))
  clear_value s2
  rw [findAlarm_of_board s3.evalTrips_board]
  simp only [s3]; split
  · exact State.offer_own entered number _ _ _
  · exact ⟨false, entered⟩

theorem State.enterOwn_tally (s : State) (c : AlarmCode) (ch : Nat) :
    (s.enterOwn c ch).tally = (s.alarms.occurrence + 1, false, s.alarms.lostCount, s.alarms.logSet) := by
  have placed (t : State) (e : AlarmEntry) : (t.placeAlarm e).alarms.occurrence = t.alarms.occurrence ∧
      (t.placeAlarm e).alarms.lostCount = t.alarms.lostCount ∧ (t.placeAlarm e).alarms.logSet = t.alarms.logSet := by
    unfold State.placeAlarm; split <;> exact ⟨rfl, rfl, rfl⟩
  have entered (t : State) (e : AlarmEntry) :
      (t.enterNew e).tally = (t.alarms.occurrence, false, t.alarms.lostCount, t.alarms.logSet) := by
    obtain ⟨occurrence, lost, log⟩ := placed t e
    unfold State.enterNew
    simp only [State.tally, State.journal_alarms, occurrence, lost, log]
  unfold State.enterOwn
  extract_lets e a s1 s2 s3
  have h2 : s2.tally = (s.alarms.occurrence + 1, false, s.alarms.lostCount, s.alarms.logSet) := entered _ e
  clear_value s2
  rw [tally_of_alarms s3.evalTrips_alarms]
  simp only [s3]; split
  · rw [State.offer_tally, h2]
  · exact h2

/-- R131: what a raise that makes its entry, or makes it again, leaves. -/
def State.raised (s : State) (c : AlarmCode) (ch : Nat) (t : State) : Prop :=
  t.alarms.occurrence = s.alarms.occurrence + 1 ∧ t.alarms.silenced = false ∧
    ∃ b, t.findAlarm s.ownNumber c ch = some { s.ownEntry c ch with unpublished := b }

theorem State.enterOwn_raised (legal : s.alarmsLegal) (c : AlarmCode) (ch : Nat) : s.raised c ch (s.enterOwn c ch) :=
  ⟨congrArg Prod.fst (s.enterOwn_tally c ch), congrArg (fun x => x.2.1) (s.enterOwn_tally c ch),
    State.enterOwn_findAlarm legal c ch⟩

section
variable (cfg : s.cfg.isSome = true) (cls : (s.response c).cls ≠ 4)
include cfg cls

omit cls in
theorem State.configured : ¬s.cfg.isNone = true := by
  rw [Option.isNone_iff_eq_none]; exact Option.isSome_iff_ne_none.1 cfg

/-- R131: a raise that finds an entry of its key. -/
theorem State.takeRaise_found (found : s.findAlarm s.ownNumber c ch = some e) :
    s.takeRaise c ch = if e.state = .returned ∨ (e.state = .new ∧ e.latched = true) then s.enterOwn c ch else s := by
  rw [State.takeRaise, if_neg (State.configured cfg), if_neg cls, found]

/-- R131: a raise that finds no entry of its key, but room for one. -/
theorem State.takeRaise_room (gone : s.findAlarm s.ownNumber c ch = none) (room : s.makeRoom = some t) :
    s.takeRaise c ch = State.enterOwn (t.forgetRetry (s.ownEntry c ch)) c ch := by
  rw [State.takeRaise, if_neg (State.configured cfg), if_neg cls, gone, room]

/-- R140: a raise that finds neither. -/
theorem State.takeRaise_full (gone : s.findAlarm s.ownNumber c ch = none) (full : s.makeRoom = none) :
    s.takeRaise c ch = s.loseRaise := by
  rw [State.takeRaise, if_neg (State.configured cfg), if_neg cls, gone, full]

/-- R131: a raise without an entry that finds room, or with one that stands no more or is latched. -/
theorem State.takeRaise_raised (legal : s.alarmsLegal) (h : (s.findAlarm s.ownNumber c ch = none ∧ s.alarms.table.length < 48) ∨
    (∃ e, s.findAlarm s.ownNumber c ch = some e ∧ (e.state = .returned ∨ (e.state = .new ∧ e.latched = true)))) :
    s.raised c ch (s.takeRaise c ch) := by
  rcases h with ⟨gone, room⟩ | ⟨e, found, again⟩
  · have makes : s.makeRoom = some s := if_pos room
    rw [State.takeRaise_room cfg cls gone makes]
    have forgot : State.alarmsLegal (s.forgetRetry (s.ownEntry c ch)) := legal.congr rfl
    exact State.enterOwn_raised forgot c ch
  · rw [State.takeRaise_found cfg cls found, if_pos again]
    exact State.enterOwn_raised legal c ch

/-- R131: a raise of an entry that stands and is not latched. -/
theorem State.takeRaise_stands (found : s.findAlarm s.ownNumber c ch = some e)
    (h : e.state = .standing ∨ (e.state = .new ∧ e.latched = false)) : s.takeRaise c ch = s := by
  rw [State.takeRaise_found cfg cls found]
  refine if_neg ?_
  rcases h with h | ⟨h, l⟩ <;> simp [*]

end

/-! ## Clears (R132) -/

theorem State.clearKey_eq (cls : (s.response c).cls ≠ 4) (found : s.findAlarm s.ownNumber c ch = some e) :
    s.clearKey c ch = s.clearEntry e := by rw [State.clearKey, if_neg cls, found]

/-- R132, R137: the record and the notice of a clear mark the entry of the key as unpublished at most. -/
theorem State.offerClear_own (found : s.findAlarm s.ownNumber e.code e.channel = some e) (n r a l : Nat) (f : AlarmEntry) :
    ∃ b, ((s.journal n f r a l).offerClear e).findAlarm s.ownNumber e.code e.channel = some { e with unpublished := b } := by
  have board := s.journal_board n f r a l
  unfold State.offerClear; split
  · exact State.offer_own ((findAlarm_of_board board).trans found) (congrArg Prod.fst board) _ _ _
  · exact ⟨e.unpublished, (findAlarm_of_board board).trans found⟩

/-- R132: a clear latches an entry in NEW of class 1 whose code carries the floor flag, and passes another to RETURNED. -/
theorem State.clearKey_new (cls : (s.response c).cls ≠ 4) (found : s.findAlarm s.ownNumber c ch = some e) (new : e.state = .new)
    (unlatched : e.latched = false) : ∃ b, (s.clearKey c ch).findAlarm s.ownNumber c ch = some
      (if e.cls = 1 ∧ (s.response c).floor = true then { e with latched := true, unpublished := b }
       else { e with state := .returned, unpublished := b }) := by
  have key := State.hasKey_of_findAlarm found
  rw [State.clearKey_eq cls found]
  obtain ⟨-, rfl, rfl⟩ := AlarmEntry.hasKey_iff.1 key
  have latches : s.latches e = true ↔ e.cls = 1 ∧ (s.response e.code).floor = true := by
    simp [State.latches, new, unlatched]
  unfold State.clearEntry
  extract_lets lost e1 e2
  by_cases floor : s.latches e = true
  · simp only [if_pos floor, if_pos (latches.1 floor)]
    have put : (s.setAlarm e1).findAlarm s.ownNumber e.code e.channel = some e1 := State.findAlarm_replace found key
    exact State.offerClear_own (s := s.setAlarm e1) (e := e1) put _ _ _ _ _
  · simp only [if_neg floor, if_neg (floor ∘ latches.2)]
    have put : (s.setAlarm e2).findAlarm s.ownNumber e.code e.channel = some e2 := State.findAlarm_replace found key
    split
    · rw [if_neg (by simp [unlatched])]
      exact State.offerClear_own (s := s.setAlarm e2) (e := e2) put _ _ _ _ _
    · rename_i other; cases new.symm.trans other
    · rename_i other; cases new.symm.trans other

/-- R130, R140: an entry that is taken out leaves none of its key. -/
theorem State.dropAlarm_findAlarm (legal : s.alarmsLegal) (e : AlarmEntry) :
    (s.dropAlarm e).findAlarm e.origin e.code e.channel = none := by
  by_cases flood : s.isFloodKey e = true
  · have gone := State.alarmsLegal.dropAlarm_flood legal flood
    obtain ⟨ho, hc, hch⟩ := AlarmEntry.hasKey_iff.1 flood
    rwa [ho, hc, hch]
  · have other : e.key ≠ (s.ownNumber, .alarmFlood, 255) := flood ∘ State.isFloodKey_iff.2
    exact ((State.alarmsLegal.shows legal other).dropAlarm_same other (AlarmEntry.hasKey_iff.2 ⟨rfl, rfl, rfl⟩)).findAlarm

/-- R132: a clear removes an entry in STANDING. -/
theorem State.clearKey_standing (legal : s.alarmsLegal) (cls : (s.response c).cls ≠ 4)
    (found : s.findAlarm s.ownNumber c ch = some e) (standing : e.state = .standing) :
    (s.clearKey c ch).findAlarm s.ownNumber c ch = none := by
  have key := State.hasKey_of_findAlarm found
  rw [State.clearKey_eq cls found]
  obtain ⟨origin, rfl, rfl⟩ := AlarmEntry.hasKey_iff.1 key
  have stays : s.latches e = false := by simp [State.latches, standing]
  unfold State.clearEntry
  extract_lets lost e1 e2
  rw [if_neg (by simp [stays])]
  split
  · rename_i other; cases standing.symm.trans other
  · have board := (s.dropAlarm e).journal_board 4 e 4 0 lost
    have gone : ((s.dropAlarm e).journal 4 e 4 0 lost).findAlarm s.ownNumber e.code e.channel = none :=
      (findAlarm_of_board board).trans (origin ▸ State.dropAlarm_findAlarm legal e)
    unfold State.offerClear; split
    · exact State.offer_gone gone ((congrArg Prod.fst board).trans (s.dropAlarm_thins e).own) _ _ _
    · exact gone
  · rename_i other; cases standing.symm.trans other

/-! ## Raises that are lost (R140) -/

/-- R137, R140: ALARM FLOOD's notice leaves the alarm table as it is. -/
theorem State.offer_floodNotice (legal : s.alarmsLegal) (cls ev : Nat) (occ : Serial) :
    (s.offer (.alarm AlarmCode.alarmFlood.number 255 cls ev occ)).alarms.table = s.alarms.table := by
  refine (State.offer_induct (n := .alarm AlarmCode.alarmFlood.number 255 cls ev occ)
    (P := fun t => t.alarmsLegal ∧ t.alarms.table = s.alarms.table) ?_ ?_ ⟨legal, rfl⟩).2
  · rintro t u (alarms : u.alarms = t.alarms) cfg ⟨legal, table⟩
    refine ⟨legal.congr ?_, by rw [alarms, table]⟩
    simp [State.board, State.ownNumber, alarms, cfg]
  · rintro t ⟨legal, table⟩
    refine ⟨(t.handBack_thins _).legal legal, ?_⟩
    have pushed (n : Notice) : (t.alarms.retryPush n).table = s.alarms.table := by
      unfold Alarms.retryPush; split <;> exact table
    simp only [State.handBack, AlarmCode.ofNumber_number, Option.bind_some]
    repeat' split
    · exact table
    · rename_i e found _
      obtain ⟨ho, hc, hch⟩ := AlarmEntry.hasKey_iff.1 (State.hasKey_of_findAlarm found)
      obtain ⟨-, -, plain, -⟩ := legal
      refine (List.map_congr_left fun f hf => if_neg ?_).trans ((List.map_id _).trans table)
      rw [ho, hc, hch]
      exact Bool.eq_false_iff.1 (plain f hf)
    · exact table
    · exact pushed _
    · exact table

/-- R140: ALARM FLOOD's raise leaves the alarm table as it is. -/
theorem State.raiseFlood_table (legal : s.alarmsLegal) : s.raiseFlood.alarms.table = s.alarms.table := by
  have enters {t : State} (legal : t.alarmsLegal) : (t.enterOwn .alarmFlood 255).alarms.table = t.alarms.table := by
    unfold State.enterOwn
    extract_lets e a s1 s2 s3
    have counted : State.alarmsLegal { t with alarms := { t.alarms with occurrence := e.occurrence } } := legal.congr rfl
    have legal2 : s2.alarmsLegal := (State.enterNew_legal (e := e) counted (.inl rfl)).congr rfl
    have table2 : s2.alarms.table = t.alarms.table := by
      have flood : State.isFloodKey { t with alarms := { t.alarms with occurrence := e.occurrence } } e = true :=
        State.isFloodKey_iff.2 rfl
      have placed : s2.board = (State.placeAlarm { t with alarms := { t.alarms with occurrence := e.occurrence } } e).board :=
        State.enterNew_board _ e
      rw [State.placeAlarm, if_pos flood] at placed
      exact congrArg (fun b => b.2.1) placed
    clear_value s2
    rw [s3.evalTrips_alarms]
    simp only [s3]; split
    · exact (State.offer_floodNotice legal2 _ _ _).trans table2
    · exact table2
  unfold State.raiseFlood
  simp only; split
  all_goals
    refine (enters ?_).trans ?_
    · exact legal.congr rfl
    · rfl

/-- R140: after ALARM FLOOD's raise it stands, with one raise lost. -/
theorem State.raiseFlood_stands (legal : s.alarmsLegal) :
    s.raiseFlood.stands .alarmFlood 255 = true ∧ s.raiseFlood.alarms.lostCount = 1 := by
  have enters {t : State} (legal : t.alarmsLegal) : (t.enterOwn .alarmFlood 255).stands .alarmFlood 255 = true ∧
      (t.enterOwn .alarmFlood 255).alarms.lostCount = t.alarms.lostCount := by
    obtain ⟨b, found⟩ := State.enterOwn_findAlarm legal .alarmFlood 255
    have number : (t.enterOwn .alarmFlood 255).ownNumber = t.ownNumber :=
      State.ownNumber_of_cfg (congrArg Still.cfg (t.enterOwn_still _ _))
    refine ⟨?_, congrArg (fun x => x.2.2.1) (t.enterOwn_tally .alarmFlood 255)⟩
    simp only [State.stands, number, found, Bool.or_eq_true]
    exact .inl rfl
  unfold State.raiseFlood
  simp only; split
  all_goals
    refine (enters ?_).imp_right fun h => h.trans ?_
    · exact legal.congr rfl
    · rfl

theorem evictedAlarm_eq_none {as : List AlarmEntry} (h : ∀ e ∈ as, e.state ≠ .returned) : evictedAlarm as = none := by
  have none : (as.filter fun e => e.state == .returned) = [] := List.filter_eq_nil_iff.2 fun e he => by simpa using h e he
  simp [evictedAlarm, none]

/-- R140: a raise that finds no room is lost: the table stays, ALARM FLOOD stands, and its lost count rises. -/
theorem State.takeRaise_lost (legal : s.alarmsLegal) (cfg : s.cfg.isSome = true) (cls : (s.response c).cls ≠ 4)
    (gone : s.findAlarm s.ownNumber c ch = none) (full : 48 ≤ s.alarms.table.length)
    (held : ∀ e ∈ s.alarms.table, e.state ≠ .returned) (floodCls : (s.response .alarmFlood).cls ≠ 4) :
    (s.takeRaise c ch).alarms.table = s.alarms.table ∧ (s.takeRaise c ch).stands .alarmFlood 255 = true ∧
      (s.takeRaise c ch).alarms.lostCount = if s.stands .alarmFlood 255 = true then up16 s.alarms.lostCount else 1 := by
  have crowded : ¬s.alarms.table.length < Config.tableSize := Nat.not_lt.2 full
  have noRoom : s.makeRoom = none := by
    rw [State.makeRoom, if_neg crowded, evictedAlarm_eq_none held]
    rfl
  rw [State.takeRaise_full cfg cls gone noRoom]
  unfold State.loseRaise
  extract_lets s1
  rw [if_neg (show ¬(s1.response .alarmFlood).cls = 4 from floodCls)]
  have same : s1.stands .alarmFlood 255 = s.stands .alarmFlood 255 := rfl
  rw [same]
  by_cases stands : s.stands .alarmFlood 255 = true
  · simp only [if_pos stands]
    exact ⟨rfl, stands, rfl⟩
  · simp only [if_neg stands]
    have legal1 : s1.alarmsLegal := legal.congr rfl
    obtain ⟨standing, lost⟩ := State.raiseFlood_stands legal1
    exact ⟨State.raiseFlood_table legal1, standing, lost⟩

/-! ## The log set (R133) -/

theorem State.takeRaise_logged (cfg : s.cfg.isSome = true) (cls : (s.response c).cls = 4) :
    s.takeRaise c ch = s.logRaise c ch := by
  rw [State.takeRaise, if_neg (State.configured cfg), if_pos cls]

theorem State.logRaise_known (h : ∃ k ∈ s.alarms.logSet, k.1 = c ∧ k.2.1 = ch) : s.logRaise c ch = s := by
  refine if_pos ?_
  simpa [List.any_eq_true] using h

/-- R133: a key that the log set does not hold, and has room for, joins it. -/
theorem State.logRaise_joins (h : ∀ k ∈ s.alarms.logSet, k.1 = c → k.2.1 ≠ ch) (room : s.alarms.logSet.length < 16) :
    (s.logRaise c ch).alarms.logSet = s.alarms.logSet ++ [(c, ch, s.alarms.occurrence + 1)] := by
  have unknown : ¬(s.alarms.logSet.any fun k => k.1 == c && k.2.1 == ch) = true := fun known => by
    obtain ⟨k, hk, same⟩ := List.any_eq_true.1 known
    simp only [Bool.and_eq_true, beq_iff_eq] at same
    exact h k hk same.1 same.2
  unfold State.logRaise
  rw [if_neg unknown]
  extract_lets e a s1 s2
  have log : s2.alarms.logSet = s.alarms.logSet := 
    (congrArg Alarms.logSet (s1.journal_alarms 1 e 4 0 0)).trans rfl
  have free : (!s2.logFull) = true := by
    simp only [State.logFull, log, Bool.not_eq_true', decide_eq_false_iff_not]
    exact Nat.not_le.2 room
  rw [if_pos free]
  show s2.alarms.logSet ++ _ = _
  rw [log]
  rfl

end

end Sys2Proof.Machine
end

section
/-! PROOFS. Evictions, orphans and the pull of the trip line, and the alarm table as a whole (R130 to R133, R139 to R141, R143). -/

namespace Sys2Proof.Machine

/-! ## Evictions (R139) -/

/-- R139: the entry that a full table evicts is in RETURNED, of the least severe class among those, and the first of them. -/
theorem evictedAlarm_eq_some {as : List AlarmEntry} {e : AlarmEntry} : evictedAlarm as = some e ↔
    ∃ front back, as = front ++ e :: back ∧ e.state = .returned ∧ (∀ f ∈ as, f.state = .returned → f.cls ≤ e.cls) ∧
      ∀ f ∈ front, f.state = .returned → f.cls < e.cls := by
  have least (f : AlarmEntry) : ((as.filter fun e => e.state == .returned).all fun g => decide (g.cls ≤ f.cls)) = true ↔
      ∀ g ∈ as, g.state = .returned → g.cls ≤ f.cls := by
    simp [← imp_iff_not_or]
  have first : evictedAlarm as = as.find? fun f =>
      f.state == .returned && (as.filter fun e => e.state == .returned).all fun g => decide (g.cls ≤ f.cls) :=
    (List.find?_filter ..).trans (congrArg (as.find? ·) (funext fun f => by
      rw [Bool.eq_iff_iff, Bool.and_eq_true, decide_eq_true_iff]))
  rw [first, List.find?_eq_some_iff_append]
  simp only [Bool.and_eq_true, beq_iff_eq, least]
  constructor
  · rintro ⟨⟨returned, severe⟩, front, back, rfl, before⟩
    refine ⟨front, back, rfl, returned, severe, fun f hf hr => lt_of_le_of_ne ?_ fun same => ?_⟩
    · exact severe f (List.mem_append_left _ hf) hr
    · have skipped := before f hf
      rw [Bool.not_eq_true', Bool.eq_false_iff] at skipped
      refine skipped ?_
      simp only [Bool.and_eq_true, beq_iff_eq, least]
      exact ⟨hr, fun g hg k => same ▸ severe g hg k⟩
  · rintro ⟨front, back, rfl, returned, severe, before⟩
    refine ⟨⟨returned, severe⟩, front, back, rfl, fun f hf => ?_⟩
    rw [Bool.not_eq_true', Bool.eq_false_iff]
    intro passes
    simp only [Bool.and_eq_true, beq_iff_eq, least] at passes
    exact absurd (passes.2 e (by simp) returned) (Nat.not_le.2 (before f hf passes.1))

section
variable {own o ch : Nat} {c : AlarmCode} {m : List AlarmEntry} {s t : State} {k : AlarmEntry}

/-! ## Entries under a key -/

theorem Shows.mem_table (h : Shows own o c ch m s) {e : AlarmEntry} (he : e ∈ s.alarms.table) (key : e.hasKey o c ch = true) :
    e ∈ m := h.entries ▸ List.mem_filter.2 ⟨List.mem_append_left _ he, key⟩

theorem Shows.table_of_mem (h : Shows own o c ch m s) (hf : (o, c, ch) ≠ (own, .alarmFlood, 255)) {e : AlarmEntry} (he : e ∈ m) :
    e ∈ s.alarms.table := by
  rw [← h.entries_table hf] at he
  exact List.mem_of_mem_filter he

/-- R130, R140: a legal alarm unit shows each entry of its table as the one of its key. -/
theorem State.alarmsLegal.shows_mem (legal : s.alarmsLegal) {e : AlarmEntry} (he : e ∈ s.alarms.table) :
    e.key ≠ (s.ownNumber, .alarmFlood, 255) ∧ Shows s.ownNumber e.origin e.code e.channel [e] s := by
  have other : e.key ≠ (s.ownNumber, .alarmFlood, 255) := fun key => by
    obtain ⟨-, -, plain, -⟩ := legal
    exact absurd (State.isFloodKey_iff.2 key) (by simp [plain e he])
  refine ⟨other, ?_⟩
  have shows := State.alarmsLegal.shows legal other
  have mem := shows.mem_table he (AlarmEntry.hasKey_iff.2 ⟨rfl, rfl, rfl⟩)
  rw [Option.mem_toList] at mem
  rw [Option.mem_def.1 mem] at shows
  exact shows

/-! ## Orphans (R141) -/

/-- R141: the entries are orphaned in RETURNED. -/
def orphanedAll (m : List AlarmEntry) : Prop := ∀ e ∈ m, e.state = .returned ∧ e.orphaned = true

section
variable (h : Shows own o c ch m s) (hf : (o, c, ch) ≠ (own, .alarmFlood, 255))
include h hf

theorem Shows.orphanEntry_other (hk : k.hasKey o c ch = false) : Shows own o c ch m (s.orphanEntry k) := by
  have set (f : AlarmEntry) (key : f.hasKey o c ch = false) :
      Shows own o c ch m ((s.setAlarm f).journal 6 k 3 0 0) := (h.setAlarm key).congr (State.journal_board _ _ _ _ _ _)
  unfold State.orphanEntry
  split
  · exact set { k with state := .returned, orphaned := true } hk
  · exact (h.dropAlarm hf hk).congr (State.journal_board _ _ _ _ _ _)
  · split
    · exact h
    · exact set { k with orphaned := true } hk

/-- R141: an entry of the absent origin is orphaned in RETURNED, or goes. -/
theorem Shows.orphanEntry_same (hk : k.hasKey o c ch = true) (hm : m = [k] ∨ orphanedAll m) :
    ∃ m', Shows own o c ch m' (s.orphanEntry k) ∧ orphanedAll m' := by
  have set (f : AlarmEntry) (key : f.hasKey o c ch = true) (done : f.state = .returned ∧ f.orphaned = true) :
      ∃ m', Shows own o c ch m' ((s.setAlarm f).journal 6 k 3 0 0) ∧ orphanedAll m' := by
    refine ⟨_, (h.setAlarm_same key).congr (State.journal_board _ _ _ _ _ _), fun e he => ?_⟩
    obtain ⟨_, _, rfl⟩ := List.mem_map.1 he
    exact done
  unfold State.orphanEntry
  split
  · exact set { k with state := .returned, orphaned := true } hk ⟨rfl, rfl⟩
  · exact ⟨[], (h.dropAlarm_same hf hk).congr (State.journal_board _ _ _ _ _ _), nofun⟩
  · rename_i returned
    split
    · rename_i already
      refine ⟨m, h, hm.elim (fun only e he => ?_) id⟩
      rw [only, List.mem_singleton] at he
      exact he ▸ ⟨returned, already⟩
    · exact set { k with orphaned := true } hk ⟨returned, rfl⟩

end

/-- R141: what the orphaning of other keys' entries leaves. -/
theorem Shows.orphan_others (h : Shows own o c ch m s) (hf : (o, c, ch) ≠ (own, .alarmFlood, 255)) {as : List AlarmEntry}
    (others : ∀ k ∈ as, k.hasKey o c ch = false) : Shows own o c ch m (as.foldl State.orphanEntry s) := by
  induction as generalizing s with
  | nil => exact h
  | cons k as ih =>
    obtain ⟨hk, rest⟩ := List.forall_mem_cons.1 others
    exact ih (h.orphanEntry_other hf hk) rest

/-- R141: what the orphaning leaves of a key whose entry it reaches. -/
theorem Shows.orphan_reached {m : List AlarmEntry} (h : Shows own o c ch m s) (hf : (o, c, ch) ≠ (own, .alarmFlood, 255))
    {as : List AlarmEntry} (one : ∀ e ∈ as, e.hasKey o c ch = true → e = k) (hm : orphanedAll m ∨ (m = [k] ∧ k ∈ as))
    (hk : k.hasKey o c ch = true) : ∃ m', Shows own o c ch m' (as.foldl State.orphanEntry s) ∧ orphanedAll m' := by
  induction as generalizing s m with
  | nil => exact ⟨m, h, hm.resolve_right (by simp)⟩
  | cons e as ih =>
    obtain ⟨head, rest⟩ := List.forall_mem_cons.1 one
    by_cases he : e.hasKey o c ch = true
    · obtain rfl := head he
      obtain ⟨m', h', done⟩ := h.orphanEntry_same hf he (hm.elim .inr fun x => .inl x.1)
      exact ih h' rest (.inl done)
    · have other := h.orphanEntry_other hf (Bool.eq_false_iff.2 he)
      refine ih other rest (hm.imp_right fun ⟨only, mem⟩ => ⟨only, ?_⟩)
      rcases List.mem_cons.1 mem with rfl | mem
      · exact absurd hk he
      · exact mem

/-- R141: the entries of an absent origin that are left are orphaned in RETURNED. -/
theorem State.orphan_orphaned (legal : s.alarmsLegal) (foreign : o ≠ s.ownNumber) :
    ∀ e ∈ (s.orphan o).alarms.table, e.origin = o → e.state = .returned ∧ e.orphaned = true := by
  rintro e he rfl
  have other := other_own (c := e.code) (ch := e.channel) foreign AlarmCode.alarmFlood 255
  have shows := State.alarmsLegal.shows legal other
  have key : e.hasKey e.origin e.code e.channel = true := AlarmEntry.hasKey_iff.2 ⟨rfl, rfl, rfl⟩
  have left : ∃ m', Shows s.ownNumber e.origin e.code e.channel m' ((s.alarms.all.filter fun f => f.origin == e.origin).foldl
      State.orphanEntry s) ∧ orphanedAll m' := by
    cases found : s.findAlarm e.origin e.code e.channel with
    | none =>
      rw [found] at shows
      refine ⟨[], shows.orphan_others other fun k hk => Bool.eq_false_iff.2 fun same => ?_, nofun⟩
      exact absurd (List.find?_eq_none.1 found k (List.mem_of_mem_filter hk)) (by simp [same])
    | some k =>
      rw [found] at shows
      have hk := State.hasKey_of_findAlarm found
      refine shows.orphan_reached other (fun f hf same => ?_) (.inr ⟨rfl, List.mem_filter.2 ⟨State.mem_of_findAlarm found, ?_⟩⟩) hk
      · have mem : f ∈ s.alarms.all.filter fun x => x.hasKey e.origin e.code e.channel :=
          List.mem_filter.2 ⟨List.mem_of_mem_filter hf, same⟩
        rw [shows.entries] at mem
        exact List.mem_singleton.1 mem
      · simpa using (AlarmEntry.hasKey_iff.1 hk).1
  obtain ⟨m', shown, done⟩ := left
  have after := shown.afterChange other
  rw [← State.orphan] at after
  exact done e (after.mem_table he key)

/-- R141: the entries of the other stations stay. -/
theorem State.orphan_spares (legal : s.alarmsLegal) {e : AlarmEntry} (he : e ∈ s.alarms.table) (present : e.origin ≠ o) :
    e ∈ (s.orphan o).alarms.table := by
  obtain ⟨other, shows⟩ := legal.shows_mem he
  have spared : Shows s.ownNumber e.origin e.code e.channel [e] (s.orphan o) := by
    refine (shows.orphan_others other fun k hk => ?_).afterChange other
    have origin : k.origin = o := by simpa using (List.mem_filter.1 hk).2
    exact AlarmEntry.hasKey_false fun same => present ((congrArg Prod.fst same).trans origin)
  exact spared.table_of_mem other (List.mem_singleton.2 rfl)

end

/-! ## The pull of the trip line (R143) -/

theorem State.pulls_iff (s : State) : s.pulls = true ↔ ∃ e ∈ s.alarms.all, e.origin = s.ownNumber ∧ e.cls = 1 ∧
    e.state ≠ .returned ∧ (s.response e.code).floor = true := by
  simp [State.pulls, AlarmEntry.stands, and_assoc]

/-- Settles O11: the steps by what every command keeps, the raises and clears by the entry that their key finds, the orphans key
by key. -/
theorem alarmTableStaysLegal : Obligations.AlarmTableStaysLegal := by
  refine ⟨fun s t legal h => (step_orderly h).legal legal, fun s c ch legal cfg cls => ⟨fun h => ?_, fun e found h => ?_,
    fun e found new unlatched => ?_, fun e found standing => ?_, fun gone full held floodCls _ => ?_⟩, fun s c ch cfg cls => ?_,
    fun _ _ => evictedAlarm_eq_some, fun s o legal foreign => ⟨?_, fun e he present _ => ?_⟩, State.pulls_iff⟩
  · exact State.takeRaise_raised cfg cls legal h
  · exact State.takeRaise_stands cfg cls found h
  · exact State.clearKey_new cls found new unlatched
  · exact State.clearKey_standing legal cls found standing
  · obtain ⟨table, stands, lost⟩ := State.takeRaise_lost legal cfg cls gone full held floodCls
    exact ⟨by rw [table], stands, lost⟩
  · rw [State.takeRaise_logged cfg cls]
    exact ⟨congrArg (fun b => b.2.1) (s.logRaise_board c ch), State.logRaise_known, State.logRaise_joins⟩
  · exact State.orphan_orphaned legal foreign
  · exact State.orphan_spares legal he present

end Sys2Proof.Machine
end

section
/-! PROOFS. Acknowledgement and silence at the panel, the lamps and the horn (R135, R140, R145). -/

namespace Sys2Proof.Machine

section
variable {s t : State} {o ch : Nat} {c : AlarmCode} {e k : AlarmEntry}

/-! ## What a key finds in a legal alarm unit (R130, R140) -/

/-- R140: the flood slot's entry is the one that its key finds. -/
theorem State.alarmsLegal.findAlarm_flood (legal : s.alarmsLegal) :
    s.findAlarm s.ownNumber .alarmFlood 255 = s.alarms.flood := by
  obtain ⟨-, -, plain, flood⟩ := legal
  have none : s.alarms.table.find? (·.hasKey s.ownNumber .alarmFlood 255) = none :=
    List.find?_eq_none.2 fun f hf => Bool.eq_false_iff.1 (plain f hf)
  rw [State.findAlarm, Alarms.all, List.find?_append, none, Option.none_or]
  cases slot : s.alarms.flood with
  | none => rfl
  | some f => exact List.find?_cons_of_pos (flood f slot)

/-- R130, R140: a legal alarm unit shows what a key finds, the flood slot's key too. -/
theorem State.alarmsLegal.shows_found (legal : s.alarmsLegal) (o : Nat) (c : AlarmCode) (ch : Nat) :
    Shows s.ownNumber o c ch (s.findAlarm o c ch).toList s := by
  by_cases key : (o, c, ch) = (s.ownNumber, .alarmFlood, 255)
  · obtain ⟨rfl, rfl, rfl⟩ : o = s.ownNumber ∧ c = .alarmFlood ∧ ch = 255 := by simpa using key
    rw [legal.findAlarm_flood]
    obtain ⟨-, -, plain, flood⟩ := legal
    refine ⟨rfl, flood, ?_⟩
    have table : s.alarms.table.filter (·.hasKey s.ownNumber .alarmFlood 255) = [] :=
      List.filter_eq_nil_iff.2 fun f hf => Bool.eq_false_iff.1 (plain f hf)
    rw [Alarms.all, List.filter_append, table, List.nil_append, List.filter_eq_self]
    exact fun f hf => flood f (Option.mem_toList.1 hf)
  · exact State.alarmsLegal.shows legal key

/-- R130, R140: each entry of a legal alarm unit is the one that its key finds. -/
theorem State.alarmsLegal.findAlarm_of_mem (legal : s.alarmsLegal) (he : e ∈ s.alarms.all) :
    s.findAlarm e.origin e.code e.channel = some e := by
  have mem : e ∈ s.alarms.all.filter fun f => f.hasKey e.origin e.code e.channel :=
    List.mem_filter.2 ⟨he, AlarmEntry.hasKey_key.2 rfl⟩
  rw [(legal.shows_found e.origin e.code e.channel).entries] at mem
  exact Option.mem_toList.1 mem

/-- R140: an entry with another key than the flood slot's is found in the table. -/
theorem State.alarmsLegal.table_of_findAlarm (legal : s.alarmsLegal) (found : s.findAlarm o c ch = some e)
    (other : (o, c, ch) ≠ (s.ownNumber, .alarmFlood, 255)) : e ∈ s.alarms.table := by
  have shows := legal.shows_found o c ch
  rw [found] at shows
  exact shows.table_of_mem other (List.mem_singleton.2 rfl)

theorem Shows.findAlarm_toList {own : Nat} {found : Option AlarmEntry} (h : Shows own o c ch found.toList s) :
    s.findAlarm o c ch = found := h.findAlarm.trans (Option.head?_toList ..)

/-- What makes no entry makes none of a key. -/
theorem State.Thins.findAlarm_none (h : s.Thins t) (gone : s.findAlarm o c ch = none) :
    t.findAlarm o c ch = none := by
  refine List.find?_eq_none.2 fun f hf key => ?_
  have before : ∃ g ∈ s.alarms.all, f.key = g.key := by
    rcases List.mem_append.1 hf with hf | hf
    · obtain ⟨g, hg, same⟩ := List.mem_map.1 (h.keys.subset (List.mem_map_of_mem hf))
      exact ⟨g, List.mem_append_left _ hg, same.symm⟩
    · obtain ⟨g, hg, same⟩ := h.flood f (Option.mem_toList.1 hf)
      exact ⟨g, List.mem_append_right _ (Option.mem_toList.2 hg), same⟩
  obtain ⟨g, hg, same⟩ := before
  exact List.find?_eq_none.1 gone g hg (AlarmEntry.hasKey_congr same o c ch ▸ key)

/-! ## Entries of other keys -/

/-- R130, R140: an entry taken out touches no other key. -/
theorem State.dropAlarm_findAlarm_other (legal : s.alarmsLegal) (hk : k.hasKey o c ch = false) :
    (s.dropAlarm k).findAlarm o c ch = s.findAlarm o c ch := by
  by_cases key : (o, c, ch) = (s.ownNumber, .alarmFlood, 255)
  · obtain ⟨rfl, rfl, rfl⟩ : o = s.ownNumber ∧ c = .alarmFlood ∧ ch = 255 := by simpa using key
    have own := (s.dropAlarm_thins k).own
    have dropped := ((s.dropAlarm_thins k).legal legal).findAlarm_flood
    rw [own] at dropped
    rw [dropped, legal.findAlarm_flood, State.dropAlarm, if_neg (by simpa [State.isFloodKey] using hk)]
  · exact ((legal.shows_found o c ch).dropAlarm key hk).findAlarm_toList

theorem State.setAlarm_findAlarm_other (legal : s.alarmsLegal) (hk : k.hasKey o c ch = false) :
    (s.setAlarm k).findAlarm o c ch = s.findAlarm o c ch := ((legal.shows_found o c ch).setAlarm hk).findAlarm_toList

theorem State.offer_findAlarm_other (legal : s.alarmsLegal) {n : Notice} (hn : n.ofKey s.ownNumber o c ch = false) :
    (s.offer n).findAlarm o c ch = s.findAlarm o c ch := ((legal.shows_found o c ch).offer hn).findAlarm_toList

theorem State.acknowledgeEntry_findAlarm_other (legal : s.alarmsLegal) (hk : k.hasKey o c ch = false) (station : Nat) :
    (s.acknowledgeEntry k station).findAlarm o c ch = s.findAlarm o c ch := by
  have removed : ((s.dropAlarm k).journal 4 k 4 station 0).findAlarm o c ch = s.findAlarm o c ch :=
    (findAlarm_of_board (State.journal_board _ _ _ _ _ _)).trans (State.dropAlarm_findAlarm_other legal hk)
  unfold State.acknowledgeEntry
  split
  · split
    · exact removed
    · refine (findAlarm_of_board (State.journal_board _ _ _ _ _ _)).trans (State.setAlarm_findAlarm_other legal ?_)
      exact hk
  · exact removed
  · rfl

/-- R140: what follows a change of the table touches no key but ALARM FLOOD's, and not that one where the table keeps 40 entries. -/
theorem State.afterChange_findAlarm (legal : s.alarmsLegal)
    (hf : (o, c, ch) ≠ (s.ownNumber, .alarmFlood, 255) ∨ 40 ≤ s.afterChange.alarms.table.length) :
    s.afterChange.findAlarm o c ch = s.findAlarm o c ch := by
  rcases hf with other | full
  · exact ((legal.shows_found o c ch).afterChange other).findAlarm_toList
  · have before := full.trans s.afterChange_thins.length_le
    have unchecked : s.floodCheck = s := if_neg (by omega)
    rw [State.afterChange, unchecked, findAlarm_of_board s.evalTrips_board]

/-! ## The acknowledgement of one key at the panel (R135) -/

/-- R135: what an acknowledgement at the panel makes of an entry. -/
structure AlarmEntry.acknowledged (e : AlarmEntry) (left : Option AlarmEntry) : Prop where
  stays : e.state = .standing → left = some e
  goes : e.state = .returned ∨ (e.state = .new ∧ e.latched = true) → left = none
  stands : e.state = .new → e.latched = false → ∃ b, left = some { e with state := .standing, ackUnpublished := b }

theorem AlarmEntry.acknowledged.standing {left : Option AlarmEntry} (h : e.acknowledged left) :
    ∀ f ∈ left, f.state = .standing := by
  cases state : e.state with
  | standing =>
    rintro f found
    rw [h.stays state] at found
    exact Option.some.inj found ▸ state
  | returned => simp [h.goes (.inl state)]
  | new =>
    cases latched : e.latched with
    | true => simp [h.goes (.inr ⟨state, latched⟩)]
    | false =>
      obtain ⟨b, left⟩ := h.stands state latched
      simp [left]

/-- R136, R137: an acknowledgement's notice marks the entry of its key at most. -/
theorem State.offer_ack (found : s.findAlarm o c ch = some e) :
    ∃ b, (s.offer (.ack o c.number ch e.occurrence)).findAlarm o c ch = some { e with ackUnpublished := b } := by
  refine State.offer_induct (n := .ack o c.number ch e.occurrence)
    (P := fun t => ∃ b, t.findAlarm o c ch = some { e with ackUnpublished := b }) ?_ ?_ ⟨e.ackUnpublished, found⟩
  · rintro t u (alarms : u.alarms = t.alarms) - ⟨b, found⟩
    exact ⟨b, by simpa only [State.findAlarm, alarms] using found⟩
  · rintro t ⟨b, found⟩
    by_cases halted : t.station = .startHalt
    · exact ⟨b, by rw [State.handBack, if_pos halted]; exact found⟩
    · rw [State.handBack_ack_marks halted found rfl]
      have key := State.hasKey_of_findAlarm found
      exact ⟨true, State.findAlarm_replace found key⟩

/-- R135, R136: what the acknowledgement of an entry leaves of it. -/
theorem State.acknowledgeEntry_acknowledged (legal : s.alarmsLegal) (found : s.findAlarm o c ch = some e) (station : Nat) :
    e.acknowledged ((s.acknowledgeEntry e station).findAlarm o c ch) := by
  have key := State.hasKey_of_findAlarm found
  refine ⟨fun standing => ?_, fun h => ?_, fun new unlatched => ⟨e.ackUnpublished, ?_⟩⟩
  · rw [State.acknowledgeEntry, standing]
    exact found
  · obtain ⟨rfl, rfl, rfl⟩ := AlarmEntry.hasKey_iff.1 key
    exact (findAlarm_of_board (State.acknowledgeEntry_removes h station)).trans (State.dropAlarm_findAlarm legal e)
  · have put : (s.setAlarm { e with state := .standing }).findAlarm o c ch = some { e with state := .standing } :=
      State.findAlarm_replace found key
    rw [State.acknowledgeEntry, new]
    dsimp only
    rw [if_neg (by simp [unlatched])]
    exact (findAlarm_of_board (State.journal_board _ _ _ _ _ _)).trans put

/-- R136, R137: the notice of an acknowledgement leaves the entry acknowledged. -/
theorem AlarmEntry.acknowledged.offer (h : e.acknowledged (s.findAlarm o c ch)) (key : e.hasKey o c ch = true)
    (unacked : e.state ≠ .standing) :
    e.acknowledged ((s.offer (.ack e.origin e.code.number e.channel e.occurrence)).findAlarm o c ch) := by
  obtain ⟨rfl, rfl, rfl⟩ := AlarmEntry.hasKey_iff.1 key
  refine ⟨fun standing => absurd standing unacked, fun gone => (s.offer_thins _).findAlarm_none (h.goes gone),
    fun new unlatched => ?_⟩
  obtain ⟨b, found⟩ := h.stands new unlatched
  exact State.offer_ack found

/-- R137: an acknowledgement's notice speaks of the key of its entry alone. -/
theorem AlarmEntry.ofKey_ack (hk : e.hasKey o c ch = false) (own : Nat) (occ : Serial) :
    (Notice.ack e.origin e.code.number e.channel occ).ofKey own o c ch = false := by
  by_contra speaks
  simp only [Notice.ofKey, Bool.not_eq_false, Bool.and_eq_true, beq_iff_eq] at speaks
  obtain ⟨⟨origin, code⟩, channel⟩ := speaks
  have key : e.hasKey o c ch = true := AlarmEntry.hasKey_iff.2 ⟨origin, AlarmCode.number_inj code, channel⟩
  simp [key] at hk

/-- R135: the acknowledgement of the key of an entry at the panel, as far as what follows every change of the table. -/
theorem State.panelAck_reaches (legal : s.alarmsLegal) (found : s.findAlarm k.origin k.code k.channel = some e)
    (unacked : e.state ≠ .standing) : ∃ u, s.Thins u ∧ s.panelAck k = u.afterChange ∧
      e.acknowledged (u.findAlarm k.origin k.code k.channel) ∧
      ∀ o c ch, k.hasKey o c ch = false → u.findAlarm o c ch = s.findAlarm o c ch := by
  have key := State.hasKey_of_findAlarm found
  rw [State.panelAck, found]
  refine (?_ : ∃ u, s.Thins u ∧ (if e.state = .standing then s else _) = u.afterChange ∧ _)
  rw [if_neg unacked]
  extract_lets e1 s1 s2
  have marked : ∃ b, e1 = { e with ackUnpublished := b } := by
    simp only [e1]; split
    · exact ⟨false, rfl⟩
    · exact ⟨e.ackUnpublished, rfl⟩
  obtain ⟨b, same⟩ := marked
  have put : (s.setAlarm e1).findAlarm k.origin k.code k.channel = some e1 :=
    State.findAlarm_replace found (by rw [same]; exact key)
  have set := s.setAlarm_thins e1
  have legal1 := set.legal legal
  have thins : s.Thins s1 := set.trans (State.acknowledgeEntry_thins _ _ _)
  have here : e1.acknowledged (s1.findAlarm k.origin k.code k.channel) :=
    State.acknowledgeEntry_acknowledged legal1 put s.ownNumber
  have there {o ch : Nat} {c : AlarmCode} (hk : e1.hasKey o c ch = false) : s1.findAlarm o c ch = s.findAlarm o c ch :=
    (State.acknowledgeEntry_findAlarm_other legal1 hk _).trans (State.setAlarm_findAlarm_other legal hk)
  clear_value s1 e1
  subst same
  have acked : e.acknowledged (s1.findAlarm k.origin k.code k.channel) :=
    ⟨fun standing => absurd standing unacked, here.goes, here.stands⟩
  have kept {o ch : Nat} {c : AlarmCode} (hk : k.hasKey o c ch = false) : s1.findAlarm o c ch = s.findAlarm o c ch :=
    there (AlarmEntry.hasKey_other hk key)
  simp only [s2]
  split
  · refine ⟨_, thins.trans (State.offer_thins _ _), rfl, acked.offer key unacked, fun o c ch hk => ?_⟩
    have speaks := AlarmEntry.ofKey_ack (AlarmEntry.hasKey_other hk key) s1.ownNumber e.occurrence
    exact (State.offer_findAlarm_other (thins.legal legal) speaks).trans (kept hk)
  · exact ⟨_, thins, rfl, acked, fun o c ch hk => kept hk⟩

theorem State.panelAck_standing (found : s.findAlarm k.origin k.code k.channel = some e) (standing : e.state = .standing) :
    s.panelAck k = s := by
  rw [State.panelAck, found]
  exact if_pos standing

theorem State.panelAck_gone (gone : s.findAlarm k.origin k.code k.channel = none) : s.panelAck k = s := by
  rw [State.panelAck, gone]

/-! ## The flood slot (R140) -/

/-- R140: the test of ALARM FLOOD's clear keeps the flood slot's entry as it stands, or takes it out. -/
theorem State.afterChange_flood (legal : s.alarmsLegal) (all : ∀ f ∈ s.alarms.flood, f.state = .standing) :
    ∀ f ∈ s.afterChange.alarms.flood, f.state = .standing := by
  have own := s.afterChange_thins.own
  have after := (s.afterChange_thins.legal legal).findAlarm_flood
  have board : s.afterChange.findAlarm s.ownNumber .alarmFlood 255 = s.floodCheck.findAlarm s.ownNumber .alarmFlood 255 :=
    findAlarm_of_board s.floodCheck.evalTrips_board
  rw [← after, own, board]
  unfold State.floodCheck
  split
  · by_cases logged : (s.response .alarmFlood).cls = 4
    · rw [State.clearKey, if_pos logged, findAlarm_of_board (s.logClear_board _ _), legal.findAlarm_flood]
      exact all
    · cases found : s.alarms.flood with
      | none =>
        rw [State.clearKey, if_neg logged, legal.findAlarm_flood, found]
        dsimp only
        rw [legal.findAlarm_flood, found]
        nofun
      | some f =>
        rw [State.clearKey_standing legal logged (legal.findAlarm_flood.trans found) (all f found)]
        nofun
  · rw [legal.findAlarm_flood]
    exact all

/-- R135, R140: the flood slot's entry, acknowledged at the panel, stands or has gone. -/
theorem State.panelAck_flood (legal : s.alarmsLegal) (key : s.isFloodKey k = true) :
    ∀ f ∈ (s.panelAck k).alarms.flood, f.state = .standing := by
  have slot := legal.findAlarm_flood
  obtain ⟨ho, hc, hch⟩ := AlarmEntry.hasKey_iff.1 key
  have here : s.findAlarm k.origin k.code k.channel = s.alarms.flood := by rw [ho, hc, hch, slot]
  cases found : s.alarms.flood with
  | none =>
    rw [State.panelAck_gone (here.trans found), found]
    nofun
  | some f =>
    by_cases standing : f.state = .standing
    · rw [State.panelAck_standing (here.trans found) standing, found]
      rintro _ ⟨⟩
      exact standing
    · obtain ⟨u, thins, same, acked, -⟩ := State.panelAck_reaches legal (here.trans found) standing
      have legal' := thins.legal legal
      have slot' := legal'.findAlarm_flood
      rw [thins.own] at slot'
      rw [same]
      rw [ho, hc, hch, slot'] at acked
      exact State.afterChange_flood legal' acked.standing

/-! ## The walk of the panel's acknowledgement (R135) -/

/-- R140: the key is not ALARM FLOOD's, or the table keeps 40 entries, so that ALARM FLOOD is not cleared. -/
def State.spares (s : State) (o : Nat) (c : AlarmCode) (ch : Nat) (t : State) : Prop :=
  (o, c, ch) ≠ (s.ownNumber, .alarmFlood, 255) ∨ 40 ≤ t.alarms.table.length

theorem State.spares.sooner {u : State} (h : s.spares o c ch u) (thins : t.Thins u) : s.spares o c ch t :=
  h.imp_right fun full => full.trans thins.length_le

theorem State.spares.later {u : State} (h : s.spares o c ch u) (thins : s.Thins t) : t.spares o c ch u :=
  h.imp_left fun other => thins.own ▸ other

theorem State.panelAck_other (legal : s.alarmsLegal) (hk : k.hasKey o c ch = false) (spared : s.spares o c ch (s.panelAck k)) :
    (s.panelAck k).findAlarm o c ch = s.findAlarm o c ch := by
  cases found : s.findAlarm k.origin k.code k.channel with
  | none => rw [State.panelAck_gone found]
  | some e =>
    by_cases standing : e.state = .standing
    · rw [State.panelAck_standing found standing]
    · obtain ⟨u, thins, same, -, kept⟩ := State.panelAck_reaches legal found standing
      rw [same] at spared ⊢
      exact (State.afterChange_findAlarm (thins.legal legal) (spared.later thins)).trans (kept o c ch hk)

theorem State.panelAck_same (legal : s.alarmsLegal) (found : s.findAlarm o c ch = some e) (hk : k.hasKey o c ch = true)
    (spared : s.spares o c ch (s.panelAck k)) : e.acknowledged ((s.panelAck k).findAlarm o c ch) := by
  obtain ⟨rfl, rfl, rfl⟩ := AlarmEntry.hasKey_iff.1 hk
  by_cases standing : e.state = .standing
  · rw [State.panelAck_standing found standing, found]
    exact ⟨fun _ => rfl, by simp [standing], by simp [standing]⟩
  · obtain ⟨u, thins, same, acked, -⟩ := State.panelAck_reaches legal found standing
    rw [same] at spared ⊢
    rwa [State.afterChange_findAlarm (thins.legal legal) (spared.later thins)]

/-- R135: the walk keeps what stands under a key. -/
theorem State.panelAcks_keep {as : List AlarmEntry} (legal : s.alarmsLegal) (spared : s.spares o c ch (as.foldl State.panelAck s))
    (standing : ∀ e ∈ s.findAlarm o c ch, e.state = .standing) :
    (as.foldl State.panelAck s).findAlarm o c ch = s.findAlarm o c ch := by
  induction as generalizing s with
  | nil => rfl
  | cons k as ih =>
    have head := s.panelAck_thins k
    have soon := spared.sooner (.foldl State.panelAck_thins as _)
    have kept : (s.panelAck k).findAlarm o c ch = s.findAlarm o c ch := by
      by_cases hk : k.hasKey o c ch = true
      · obtain ⟨rfl, rfl, rfl⟩ := AlarmEntry.hasKey_iff.1 hk
        cases found : s.findAlarm k.origin k.code k.channel with
        | none => rw [State.panelAck_gone found, found]
        | some e => rw [State.panelAck_standing found (standing e found), found]
      · exact State.panelAck_other legal (Bool.eq_false_iff.2 hk) soon
    exact (ih (head.legal legal) (spared.later head) (kept ▸ standing)).trans kept

/-- R135: the walk acknowledges each entry that it reaches. -/
theorem State.panelAcks_reach {as : List AlarmEntry} (legal : s.alarmsLegal) (spared : s.spares o c ch (as.foldl State.panelAck s))
    (found : s.findAlarm o c ch = some e) (reached : ∃ k ∈ as, k.hasKey o c ch = true) :
    e.acknowledged ((as.foldl State.panelAck s).findAlarm o c ch) := by
  induction as generalizing s with
  | nil => simp at reached
  | cons k as ih =>
    have head := s.panelAck_thins k
    have soon := spared.sooner (.foldl State.panelAck_thins as _)
    have legal' := head.legal legal
    have late := spared.later head
    by_cases hk : k.hasKey o c ch = true
    · have acked := State.panelAck_same legal found hk soon
      have kept := State.panelAcks_keep legal' late acked.standing
      exact kept ▸ acked
    · have kept := State.panelAck_other legal (Bool.eq_false_iff.2 hk) soon
      refine ih legal' late (kept.trans found) ?_
      obtain ⟨x, hx, key⟩ := reached
      rcases List.mem_cons.1 hx with rfl | hx
      · exact absurd key hk
      · exact ⟨x, hx, key⟩

section
variable (cfg : s.cfg.isSome = true) (legal : s.alarmsLegal)
include cfg

theorem State.panelAckAll_eq : s.panelAckAll = s.alarms.all.foldl State.panelAck s := if_neg (State.configured cfg)

include legal

/-- R135: an acknowledgement at the panel acknowledges each entry. -/
theorem State.panelAckAll_acknowledges (he : e ∈ s.alarms.all) (spared : s.spares e.origin e.code e.channel s.panelAckAll) :
    e.acknowledged (s.panelAckAll.findAlarm e.origin e.code e.channel) := by
  have walk := State.panelAckAll_eq cfg
  rw [walk] at spared ⊢
  exact State.panelAcks_reach legal spared (legal.findAlarm_of_mem he) ⟨e, he, AlarmEntry.hasKey_key.2 rfl⟩

/-- R135, R140: an acknowledgement at the panel leaves no entry of the table but in STANDING. -/
theorem State.panelAckAll_table : ∀ e ∈ s.panelAckAll.alarms.table, e.state = .standing := by
  intro e he
  have thins := s.panelAckAll_thins
  have legal' := thins.legal legal
  have found := legal'.findAlarm_of_mem (List.mem_append_left _ he)
  have spared : s.spares e.origin e.code e.channel s.panelAckAll := by
    refine .inl fun key => ?_
    obtain ⟨-, -, plain, -⟩ := legal'
    exact absurd (State.isFloodKey_iff.2 (key.trans (by rw [thins.own]))) (by simp [plain e he])
  obtain ⟨f, hf, same⟩ := List.mem_map.1 (thins.keys.subset (List.mem_map_of_mem he))
  have acked : f.acknowledged (s.panelAckAll.findAlarm e.origin e.code e.channel) := by
    obtain ⟨ho, hc, hch⟩ := AlarmEntry.hasKey_iff.1 (AlarmEntry.hasKey_key.2 same)
    rw [← ho, ← hc, ← hch] at spared ⊢
    exact State.panelAckAll_acknowledges cfg legal (List.mem_append_left _ hf) spared
  exact acked.standing e found

/-- R135, R140: an acknowledgement at the panel leaves the flood slot empty or its entry in STANDING. -/
theorem State.panelAckAll_flood : ∀ e ∈ s.panelAckAll.alarms.flood, e.state = .standing := by
  intro e he
  obtain ⟨k, hk, -⟩ := s.panelAckAll_thins.flood e he
  have key : s.isFloodKey k = true := by
    obtain ⟨-, -, -, flood⟩ := legal
    exact flood k hk
  have walk : s.panelAckAll = (s.alarms.table.foldl State.panelAck s).panelAck k := by
    rw [State.panelAckAll_eq cfg, Alarms.all, Option.mem_def.1 hk, List.foldl_append]
    rfl
  have thins := State.Thins.foldl State.panelAck_thins s.alarms.table s
  rw [walk] at he
  exact State.panelAck_flood (thins.legal legal) ((State.isFloodKey_congr rfl thins.own).trans key) e he

/-- R135: every entry that an acknowledgement at the panel leaves stands. -/
theorem State.panelAckAll_standing : ∀ e ∈ s.panelAckAll.alarms.all, e.state = .standing := by
  intro e he
  rcases List.mem_append.1 he with he | he
  · exact State.panelAckAll_table cfg legal e he
  · exact State.panelAckAll_flood cfg legal e (Option.mem_toList.1 he)

/-- R135: an entry of the table in NEW passes to STANDING. -/
theorem State.panelAckAll_new (he : e ∈ s.alarms.table) (new : e.state = .new) (unlatched : e.latched = false) :
    ∃ b, { e with state := .standing, ackUnpublished := b } ∈ s.panelAckAll.alarms.table := by
  have other := (State.alarmsLegal.shows_mem legal he).1
  have acked := State.panelAckAll_acknowledges cfg legal (List.mem_append_left _ he) (.inl other)
  obtain ⟨b, left⟩ := acked.stands new unlatched
  have thins := s.panelAckAll_thins
  exact ⟨b, (thins.legal legal).table_of_findAlarm left (thins.own.symm ▸ other)⟩

/-- R135: an entry of the table in STANDING stays as it is. -/
theorem State.panelAckAll_stays (he : e ∈ s.alarms.table) (standing : e.state = .standing) : e ∈ s.panelAckAll.alarms.table := by
  have other := (State.alarmsLegal.shows_mem legal he).1
  have acked := State.panelAckAll_acknowledges cfg legal (List.mem_append_left _ he) (.inl other)
  have thins := s.panelAckAll_thins
  exact (thins.legal legal).table_of_findAlarm (acked.stays standing) (thins.own.symm ▸ other)

/-- R135, R140: the flood slot's entry in NEW passes to STANDING, and stays while the table keeps 40 entries. -/
theorem State.panelAckAll_flood_new (he : e ∈ s.alarms.flood) (new : e.state = .new) (unlatched : e.latched = false)
    (full : 40 ≤ s.panelAckAll.alarms.table.length) :
    ∃ b, s.panelAckAll.alarms.flood = some { e with state := .standing, ackUnpublished := b } := by
  have key : s.isFloodKey e = true := by
    obtain ⟨-, -, -, flood⟩ := legal
    exact flood e he
  have acked := State.panelAckAll_acknowledges cfg legal (List.mem_append_right _ (Option.mem_toList.2 he)) (.inr full)
  obtain ⟨ho, hc, hch⟩ := AlarmEntry.hasKey_iff.1 key
  have thins := s.panelAckAll_thins
  have slot := (thins.legal legal).findAlarm_flood
  rw [thins.own] at slot
  rw [ho, hc, hch, slot] at acked
  exact acked.stands new unlatched

end

/-! ## The requests that follow (R135, R139) -/

/-- R139: the requests that follow make no entry of a peer, and leave those that stand. -/
theorem State.alarmsLegal.settle_peer (legal : s.alarmsLegal) (all : ∀ f ∈ s.alarms.table, f.state = .standing)
    (peer : e.origin ≠ s.ownNumber) : e ∈ s.settle.alarms.table ↔ e ∈ s.alarms.table := by
  have other := other_own (c := e.code) (ch := e.channel) peer AlarmCode.alarmFlood 255
  have key : e.hasKey e.origin e.code e.channel = true := AlarmEntry.hasKey_key.2 rfl
  have shows := legal.shows_found e.origin e.code e.channel
  have settled : Shows s.ownNumber e.origin e.code e.channel (s.findAlarm e.origin e.code e.channel).toList s.settle := by
    rcases Within.settle peer Option.length_toList_le (.inl shows) with kept | ⟨none, returned⟩
    · exact kept
    · cases found : s.findAlarm e.origin e.code e.channel with
      | none => exact none
      | some f =>
        have standing := all f (legal.table_of_findAlarm found other)
        have gone := returned f (by simp [found])
        cases standing.symm.trans gone
  exact ⟨fun he => shows.table_of_mem other (settled.mem_table he key),
    fun he => settled.table_of_mem other (shows.mem_table he key)⟩

/-! ## The lamps and the horn (R145) -/

theorem any_cls_iff {as : List AlarmEntry} {cls : Nat} {x : AlarmState} :
    (as.any fun e => e.cls == cls && e.state == x) = true ↔ ∃ e ∈ as, e.cls = cls ∧ e.state = x := by simp

/-- R145: the lamp of a class outside START HALT. -/
theorem State.lamp_iff (h : s.station ≠ .startHalt) (cls : Nat) :
    (s.lamp cls = .flashing ↔ ∃ e ∈ s.alarms.all, e.cls = cls ∧ e.state = .new) ∧
    (s.lamp cls = .steady ↔ (∀ e ∈ s.alarms.all, e.cls = cls → e.state ≠ .new) ∧
      ∃ e ∈ s.alarms.all, e.cls = cls ∧ e.state = .standing) ∧
    (s.lamp cls = .dark ↔ ∀ e ∈ s.alarms.all, e.cls = cls → e.state = .returned) := by
  have runs : ¬(s.supply && !s.resetHeld && s.station == .startHalt) = true := by simp [h]
  rw [State.lamp, if_neg runs]
  simp only [any_cls_iff]
  by_cases new : ∃ e ∈ s.alarms.all, e.cls = cls ∧ e.state = .new
  · obtain ⟨e, he, cls', new'⟩ := new
    rw [if_pos ⟨e, he, cls', new'⟩]
    refine ⟨iff_of_true rfl ⟨e, he, cls', new'⟩, iff_of_false nofun fun k => k.1 e he cls' new', iff_of_false nofun fun k => ?_⟩
    cases new'.symm.trans (k e he cls')
  have none : ∀ e ∈ s.alarms.all, e.cls = cls → e.state ≠ .new := fun e he cls' new' => new ⟨e, he, cls', new'⟩
  rw [if_neg new]
  by_cases standing : ∃ e ∈ s.alarms.all, e.cls = cls ∧ e.state = .standing
  · rw [if_pos standing]
    refine ⟨iff_of_false nofun new, iff_of_true rfl ⟨none, standing⟩, iff_of_false nofun fun k => ?_⟩
    obtain ⟨e, he, cls', standing'⟩ := standing
    cases standing'.symm.trans (k e he cls')
  · rw [if_neg standing]
    refine ⟨iff_of_false nofun new, iff_of_false nofun fun k => standing k.2, iff_of_true rfl fun e he cls' => ?_⟩
    cases state : e.state with
    | new => exact absurd state (none e he cls')
    | returned => rfl
    | standing => exact absurd ⟨e, he, cls', state⟩ standing

/-- R145: the horn outside START HALT. -/
theorem State.horn_iff (h : s.station ≠ .startHalt) :
    s.horn = true ↔ s.alarms.silenced = false ∧ ∃ e ∈ s.alarms.all, e.state = .new := by
  simp [State.horn, h]

/-- R145: the lamps and the horn in START HALT. -/
theorem State.lamp_startHalt (live : s.live = true) (h : s.station = .startHalt) (cls : Nat) :
    s.lamp cls = .flashing ∧ s.horn = false := by
  have halted : (s.supply && !s.resetHeld && s.station == .startHalt) = true := by
    rw [Bool.and_eq_true]
    exact ⟨live, by simp [h]⟩
  exact ⟨if_pos halted, by simp [State.horn, h]⟩

/-! ## The panel's lines (R135, R145) -/

/-- R135: an acknowledgement at the panel is taken with the requests that follow it. -/
theorem exec_acknowledge_calm (h : s.calm) : exec .acknowledge s = .next s.begun.panelAckAll.settle :=
  congrArg Host.Outcome.next (State.takeEvent_live State.panelAckAll h.1)

theorem exec_acknowledge_bare (h : s.calm) (bare : s.cfg = none) : exec .acknowledge s = .next s.begun := by
  have ignored : s.begun.panelAckAll = s.begun := if_pos (Option.isNone_iff_eq_none.2 bare)
  rw [exec_acknowledge_calm h, ignored, State.settle_nil (s := s.begun) h.2]

theorem exec_silence_calm (h : s.calm) : exec .silence s = .next (if s.cfg.isNone then s.begun
    else { s.begun with alarms := { s.alarms with silenced := true } }) := by
  refine congrArg Host.Outcome.next (State.takeEvent_calm _ h ?_)
  split
  · exact h.2
  · exact h.2

/-- Settles O50: the acknowledgement by its walk over the entries, which acknowledges the entry of each key and touches no other;
the lamps and the horn by what stands of their class. -/
theorem panelLinesAct : Obligations.PanelLinesAct := by
  refine ⟨fun s calm => ⟨exec_acknowledge_bare calm, fun cfg legal => ?_⟩, fun s calm => ⟨fun cfg => ?_, fun bare => ?_⟩,
    fun s cls => ⟨fun live halted => State.lamp_startHalt live halted cls, fun runs => ?_⟩⟩
  · have taken := exec_acknowledge_calm calm
    have standing := State.panelAckAll_standing (s := s.begun) cfg legal
    have thins := s.begun.panelAckAll_thins
    have legal' := thins.legal legal
    have still := (State.settle_still s.begun.panelAckAll).trans (State.panelAckAll_still s.begun)
    have peer {e : AlarmEntry} (he : e.origin ≠ s.ownNumber) :
        e ∈ s.begun.panelAckAll.settle.alarms.table ↔ e ∈ s.begun.panelAckAll.alarms.table := by
      refine legal'.settle_peer (State.panelAckAll_table (s := s.begun) cfg legal) ?_
      rw [thins.own]
      exact he
    refine ⟨⟨_, taken, fun e he foreign => ?_, fun e he foreign new unlatched => ?_, fun e he foreign stays => ?_,
      congrArg Still.picture still, congrArg Still.fields still, congrArg Still.nv still⟩, _, taken, standing,
      fun e he => State.panelAckAll_new (s := s.begun) cfg legal he,
      fun e he => State.panelAckAll_flood_new (s := s.begun) cfg legal he⟩
    · exact standing e (List.mem_append_left _ ((peer foreign).1 he))
    · obtain ⟨b, left⟩ := State.panelAckAll_new (s := s.begun) cfg legal he new unlatched
      exact ⟨b, (peer (e := { e with state := .standing, ackUnpublished := b }) foreign).2 left⟩
    · exact (peer foreign).2 (State.panelAckAll_stays (s := s.begun) cfg legal he stays)
  · refine ⟨_, (exec_silence_calm calm).trans (congrArg _ (if_neg (State.configured cfg))), ?_, rfl⟩
    simp [State.horn]
  · exact (exec_silence_calm calm).trans (congrArg _ (if_pos (Option.isNone_iff_eq_none.2 bare)))
  · obtain ⟨flashing, steady, dark⟩ := State.lamp_iff runs cls
    exact ⟨flashing, steady, dark, State.horn_iff runs⟩

end

end Sys2Proof.Machine
end

section
/-! PROOFS. The report store and the offers of the accountant's own notices leave the accountant alone: no record, file step or
program posts anything, so what a close finds in the accumulators is what stood there before it (R151, R155). -/

namespace Sys2Proof.Machine

section
variable (s : State)

/-! ## The report store's queue and map -/

theorem State.dropRecord_accountant (r : QRecord) : (s.dropRecord r).accountant = s.accountant := by
  unfold State.dropRecord
  rw [State.ask_accountant]
  simp only [State.countStore]
  repeat' split
  all_goals rfl

theorem State.dequeue_accountant (gone : QRecord → Bool) : (s.dequeue gone).accountant = s.accountant := by
  unfold State.dequeue
  simp only
  split <;> rfl

theorem State.clearStoreFull_accountant : s.clearStoreFull.accountant = s.accountant := by
  unfold State.clearStoreFull
  split <;> rfl

theorem State.reclaimFile_accountant (e : Fin 32) : (s.reclaimFile e).accountant = s.accountant := by
  have erased (l : List (Fin 128)) :
      (l.foldl (fun t g => t.writeGranule g .erasing) (s.writeDir e {})).accountant = s.accountant :=
    List.foldlRecOn (motive := fun t : State => t.accountant = s.accountant) l _ rfl fun _ kept _ _ => kept
  exact (State.clearStoreFull_accountant _).trans (erased _)

theorem State.reclaim_accountant {s t : State} (h : s.reclaim = some t) : t.accountant = s.accountant := by
  obtain ⟨e, -, rfl⟩ := Option.map_eq_some_iff.1 h
  exact s.reclaimFile_accountant e

/-! ## The engine (R169, R170, R172) -/

theorem State.widenLast_accountant (e : Fin 32) (p : Nat) : (s.widenLast e p).accountant = s.accountant := by
  unfold State.widenLast
  repeat' split
  all_goals rfl

theorem State.linkGranule_accountant (e : Fin 32) (g : Fin 128) : (s.linkGranule e g).accountant = s.accountant := by
  unfold State.linkGranule
  simp only
  split <;> rfl

theorem State.programFrom_accountant (e : Fin 32) (r : QRecord) (f : List QRecord) :
    (s.programFrom e r f).accountant = s.accountant := by
  refine (State.widenLast_accountant _ _ _).trans ?_
  repeat' split
  · rfl
  · exact s.linkGranule_accountant e _
  · rfl

theorem State.dropHead_accountant (r : QRecord) : (s.dropHead r).accountant = s.accountant := by
  refine (State.dropRecord_accountant _ _).trans ?_
  split
  · rfl
  · exact State.dequeue_accountant _ _

theorem State.chooseIdle_accountant : s.chooseIdle.1.accountant = s.accountant := by
  unfold State.chooseIdle
  repeat' split
  · rfl
  · rfl
  · rfl
  · exact s.programFrom_accountant _ _ _
  · rfl
  · exact State.reclaim_accountant ‹_›
  · exact s.dropHead_accountant _

theorem State.serveSuspended_accountant : s.serveSuspended.accountant = s.accountant := by
  unfold State.serveSuspended
  repeat' split
  · rfl
  · exact s.programFrom_accountant _ _ _
  · rfl
  · rfl
  · exact s.programFrom_accountant _ _ _

theorem State.chooseErasing_accountant (x : EraseOp) : (s.chooseErasing x).accountant = s.accountant := by
  unfold State.chooseErasing
  repeat' split
  · rfl
  · exact s.serveSuspended_accountant
  · exact State.serveSuspended_accountant _
  · rfl

theorem State.engineStep_accountant : s.engineStep.1.accountant = s.accountant := by
  unfold State.engineStep
  repeat' split
  · rfl
  · exact s.chooseErasing_accountant _
  · exact s.chooseIdle_accountant

/-! ## File steps and the store's run (R167) -/

theorem State.runSteps_accountant (n : Nat) : (s.runSteps n).accountant = s.accountant := by
  have written {t u : State} (h : t.stepOnce = some u) : u.accountant = t.accountant := by
    unfold State.stepOnce at h
    split at h
    · cases h
    · cases h
      unfold State.takeStep State.writeStep
      split <;> rfl
  induction n generalizing s with
  | zero => rfl
  | succ n ih =>
    unfold State.runSteps
    split
    · rfl
    · exact (ih _).trans (written ‹_›)

theorem State.storeLoop_accountant (n : Nat) : (s.storeLoop n).accountant = s.accountant := by
  have round (t : State) : (t.runSteps 64).engineStep.1.accountant = t.accountant :=
    (State.engineStep_accountant _).trans (t.runSteps_accountant 64)
  induction n generalizing s with
  | zero => rfl
  | succ n ih =>
    unfold State.storeLoop
    simp only
    split
    · exact (ih _).trans (round s)
    · exact round s

theorem State.runStore_accountant : s.runStore.accountant = s.accountant := s.storeLoop_accountant 64

/-! ## The accountant's requests (R167, R168) -/

theorem State.takeRecord_accountant (r : QRecord) : (s.takeRecord r).accountant = s.accountant := by
  unfold State.takeRecord
  repeat' split
  case isFalse.isTrue => rfl
  all_goals exact State.dropRecord_accountant _ _

theorem State.append_accountant (type : RecordType) (rest : List Byte) (b : Binding) (p q : Bool) :
    (s.append type rest b p q).accountant = s.accountant := by
  unfold State.append
  split
  · rfl
  · exact (State.runStore_accountant _).trans (State.takeRecord_accountant _ _)

theorem State.requestStep_accountant (f : Option (Fin 32)) (st : FileStep) :
    (s.requestStep f st).accountant = s.accountant := by
  unfold State.requestStep
  repeat' split
  · rfl
  · rfl
  · exact State.runStore_accountant _

theorem State.openFails_accountant : s.openFails.accountant = s.accountant :=
  List.foldlRecOn (motive := fun t : State => t.accountant = s.accountant) _ _ rfl fun _ kept _ _ =>
    (State.dropRecord_accountant _ _).trans ((State.dequeue_accountant _ _).trans kept)

theorem State.openFile_accountant (n : Serial) : (s.openFile n).1.accountant = s.accountant := by
  have reserved (t : State) (e : Fin 32) : (t.reserve e n).accountant = t.accountant := State.runStore_accountant _
  unfold State.openFile
  repeat' split
  · exact reserved s _
  · exact s.openFails_accountant
  · exact (State.openFails_accountant _).trans (State.reclaim_accountant ‹_›)
  · exact (reserved _ _).trans (State.reclaim_accountant ‹_›)

end

/-- R8, R13: an offered notice of a class below A leaves the accountant alone. -/
theorem State.offer_accountant {n : Notice} (s : State) (h : n.cls ≠ 0) : (s.offer n).accountant = s.accountant := by
  obtain ⟨l, f, offered⟩ := s.offer_plain h
  rw [offered]

end Sys2Proof.Machine
end

section
/-! PROOFS. The close of a shift and the end of a collation: what they leave of the accountant, the summary and the mark that
the close offers, and the two timers (R153, R155 to R157). -/

namespace Sys2Proof.Machine

section
variable {s t : State}

theorem now_of_outlook (h : t.outlook = s.outlook) : t.now = s.now := congrArg Outlook.now h

theorem station_of_outlook (h : t.outlook = s.outlook) : t.station = s.station := congrArg Outlook.station h

theorem cfg_of_outlook (h : t.outlook = s.outlook) : t.cfg = s.cfg := congrArg Outlook.cfg h

/-- A station that sends still does after work that leaves its outlook alone. -/
theorem State.offer_tookOffer_of_outlook (h : t.outlook = s.outlook) (offers : s.offers) (m : Notice) :
    t.link.tookOffer (t.offer m).link m := by
  obtain ⟨runs, serves⟩ := offers
  rw [← station_of_outlook h] at runs serves
  exact t.offer_tookOffer m runs serves

end

section
variable {s : State} {n : Serial}

/-! ## Files and collation (R155, R157) -/

/-- R157: a collation that ends leaves the rest of the accountant alone. -/
theorem State.endCollation_accountant (s : State) (cut : Bool) : (s.endCollation cut).accountant =
    { s.accountant with collating := none, collationDue := none, collated := [], collFile := none } := by
  unfold State.endCollation
  simp only [State.requestStep_accountant]

/-- R155, R157: the accountant as a shift goes into collation, with its file, until a time. -/
def Accountant.collates (a : Accountant) (n : Serial) (due : Nat) : Accountant :=
  { a with collating := some n, collated := [], collationDue := some due, collFile := a.file, file := none }

/-- What an ended collation leaves is written over as the next begins. -/
theorem State.endCollation_collates (s : State) (cut : Bool) (n : Serial) (due : Nat) :
    (s.endCollation cut).accountant.collates n due = s.accountant.collates n due := by
  rw [State.endCollation_accountant]; rfl

theorem State.collateLength_of_cfg {s t : State} (h : t.cfg = s.cfg) : t.collateLength = s.collateLength := by
  simp only [State.collateLength, h]

theorem State.beginCollation_accountant (s : State) (n : Serial) :
    (s.beginCollation n).accountant = s.accountant.collates n (s.now + s.collateLength) := by
  have kept := s.requestStep_outlook s.accountant.file .collating
  unfold State.beginCollation
  simp only [State.requestStep_accountant, now_of_outlook kept, State.collateLength_of_cfg (cfg_of_outlook kept),
    Accountant.collates]

theorem State.openShiftFile_accountant (s : State) (n : Serial) :
    (s.openShiftFile n).accountant = { s.accountant with file := (s.openFile n).2 } := by
  unfold State.openShiftFile
  simp only [State.openFile_accountant]

/-! ## The close (R155, R156) -/

/-- R155: what a close leaves of the accountant: its figures at 0, the closed shift in collation, and the entry of the new
shift's file. -/
theorem State.closeShift_accountant (s : State) (n : Serial) (reason : Nat) (new : Serial) :
    (s.closeShift n reason new).accountant = { (s.accountant.collates n (s.now + s.collateLength)).zeroed with
      file := (s.closeShift n reason new).accountant.file } := by
  unfold State.closeShift
  extract_lets bound sat payload s1 s2 s3 s4 s5 s6
  have appended : s2.accountant = s.accountant :=
    (State.append_accountant _ _ _ _ _ _).trans (State.append_accountant _ _ _ _ _ _)
  have kept : s3.outlook = s.outlook := by
    simp only [s3, s2, s1]; split <;> simp
  have written (due : Nat) : s3.accountant.collates n due = s.accountant.collates n due := by
    simp only [s3]
    split
    · rw [State.endCollation_collates, appended]
    · rw [appended]
  have begun : s4.accountant = s.accountant.collates n (s.now + s.collateLength) := by
    rw [State.beginCollation_accountant, now_of_outlook kept, State.collateLength_of_cfg (cfg_of_outlook kept), written]
  have offered : s5.accountant = s4.accountant := s4.offer_accountant (by simp [Notice.cls])
  have zeroed : s6.accountant = (s.accountant.collates n (s.now + s.collateLength)).zeroed := by
    rw [← begun, ← offered]
  rw [State.openShiftFile_accountant, zeroed]

/-- R156: a close offers the summary of the closed shift, with the figures as they stood before it. -/
theorem State.closeShift_tookOffer (offers : s.offers) (n : Serial) (reason : Nat) (new : Serial) :
    s.link.tookOffer (s.closeShift n reason new).link (.summary (s.summaryPayload n)) := by
  unfold State.closeShift
  extract_lets bound sat payload s1 s2 s3 s4 s5 s6
  have link : s4.link = s.link := by
    simp only [s4, s3, s2, s1]; split <;> simp
  have kept : s4.outlook = s.outlook := by
    simp only [s4, s3, s2, s1]; split <;> simp
  rw [State.openShiftFile_link, ← link]
  exact State.offer_tookOffer_of_outlook kept offers _

/-- R155: the accumulators of a slot after a close. -/
theorem State.closeShift_acc (s : State) (n : Serial) (reason : Nat) (new : Serial) (i : Fin 4) :
    (s.closeShift n reason new).acc i = { gramRem := (s.acc i).gramRem, kjRem := (s.acc i).kjRem } := by
  unfold State.acc
  rw [State.closeShift_accountant]
  simp [Accountant.collates, Accountant.zeroed, SlotAcc.zeroed]

/-- R156: the entry of a slot in a shift summary, with the number of its kind written out. -/
theorem summaryEntry_eq (i : Fin 4) (u : SlotUnit) (a : SlotAcc) : summaryEntry i u a =
    match u with
    | .unused => []
    | .cf _ => [byte i.val, 1] ++ be4 a.mass ++ be4 a.heat ++ be2 (min 65535 a.running)
    | .di _ => [byte i.val, 2] ++ be4 a.mass ++ be4 a.heat ++ be2 (min 65535 a.running)
    | .ca _ => [byte i.val, 3] ++ be4 a.air ++ be4 a.recovered ++ be2 (min 65535 a.running)
    | .cg _ => [byte i.val, 4] ++ be4 a.strokes ++ be4 0 ++ be2 (min 65535 a.flushSeconds) := by
  cases u <;> rfl

/-! ## The timers (R153, R157) -/

/-- R153: the close by the timer takes the next number and offers its mark. -/
theorem State.closeByTimer_running (hn : s.accountant.shift = some n) :
    s.closeByTimer = ((s.closeShift n 1 (n + 1)).takeNumber (n + 1)).offer (.mark (n + 1)) := by
  simp only [State.closeByTimer, hn]

/-- R153, R155: the accountant after the close by the timer. -/
theorem State.closeByTimer_accountant (hn : s.accountant.shift = some n) :
    s.closeByTimer.accountant = { (s.accountant.collates n (s.now + s.collateLength)).zeroed with
      shift := some (n + 1), shiftDue := some (s.now + s.shiftLength), file := s.closeByTimer.accountant.file } := by
  have closed := s.closeShift_accountant n 1 (n + 1)
  have kept := s.closeShift_outlook n 1 (n + 1)
  have now := now_of_outlook kept
  have length := State.shiftLength_of_cfg (cfg_of_outlook kept)
  rw [State.closeByTimer_running hn, State.offer_accountant (n := .mark (n + 1)) _ (by simp [Notice.cls])]
  generalize s.closeShift n 1 (n + 1) = t at closed now length ⊢
  unfold State.takeNumber
  rw [closed, now, length]

/-- R153, R156: the close by the timer offers the summary of the closed shift, then the mark of the new number. -/
theorem State.closeByTimer_tookOffer (offers : s.offers) (hn : s.accountant.shift = some n) :
    ∃ l, s.link.tookOffer l (.summary (s.summaryPayload n)) ∧ l.tookOffer s.closeByTimer.link (.mark (n + 1)) := by
  have kept : ((s.closeShift n 1 (n + 1)).takeNumber (n + 1)).outlook = s.outlook := by simp
  have closed := State.closeShift_tookOffer offers n 1 (n + 1)
  rw [← State.takeNumber_link _ (n + 1)] at closed
  rw [State.closeByTimer_running hn]
  exact ⟨_, closed, State.offer_tookOffer_of_outlook kept offers _⟩

/-- R153: the shift timer's expiry is a close at the time it was due, with the requests that follow it. -/
theorem exec_shiftTimerExpiry_due {due : Nat} (calm : s.calm) (h : s.accountant.shiftDue = some due) :
    exec .shiftTimerExpiry s = .next (s.begun.reach due).closeByTimer.settle := by
  refine congrArg Host.Outcome.next ((State.takeEvent_live _ calm.1).trans (congrArg State.settle ?_))
  simp only [h]
  rfl

/-- R157: the collation timer's expiry ends the collation at the time it was due, with the requests that follow. -/
theorem exec_collationTimerExpiry_due {due : Nat} (calm : s.calm) (h : s.accountant.collationDue = some due) :
    exec .collationTimerExpiry s = .next ((s.begun.reach due).endCollation false).settle := by
  refine congrArg Host.Outcome.next ((State.takeEvent_live _ calm.1).trans (congrArg State.settle ?_))
  simp only [h]
  rfl

/-- R153, R155, R157: the shift timer's close of a shift, with the requests that follow it. -/
theorem State.shiftTimer_closes {due : Nat} {g : Cfg} (cfg : s.cfg = some g) (hn : s.accountant.shift = some n)
    {t : State} (ht : t = (s.begun.reach due).closeByTimer.settle) :
    t.accountant.shift = some (n + 1) ∧ t.now = max s.now due ∧
      t.accountant.shiftDue = some (t.now + g.shiftLen * 3600000) ∧ t.accountant.collating = some n ∧
      t.accountant.collationDue = some (t.now + g.collateS * 1000) ∧ t.accountant.collated = [] ∧
      t.accountant.clinker = 0 ∧ t.accountant.class1Seconds = 0 ∧ t.picture = s.picture ∧ t.fields = s.fields ∧
      t.nv = s.nv := by
  have still : t.still = (s.begun.reach due).closeByTimer.still := ht ▸ State.settle_still _
  have kept : t.outlook = (s.begun.reach due).outlook := (outlook_of_still still).trans (State.closeByTimer_outlook _)
  have nv : t.keptNv = (s.begun.reach due).keptNv := (keptNv_of_still still).trans (State.closeByTimer_keptNv _)
  have now : t.now = max s.now due := now_of_outlook kept
  have closed := State.closeByTimer_accountant (s := s.begun.reach due) hn
  have shiftLength : (s.begun.reach due).shiftLength = g.shiftLen * 3600000 := by
    simp only [State.shiftLength, show (s.begun.reach due).cfg = some g from cfg]
  have collateLength : (s.begun.reach due).collateLength = g.collateS * 1000 := by
    simp only [State.collateLength, show (s.begun.reach due).cfg = some g from cfg]
  rw [shiftLength, collateLength, show (s.begun.reach due).now = t.now from now.symm] at closed
  refine ⟨(congrArg Still.shift still).trans ?_, now, (congrArg Still.shiftDue still).trans ?_,
    (congrArg Still.collating still).trans ?_, (congrArg Still.collationDue still).trans ?_,
    (congrArg Still.collated still).trans ?_, (congrArg Still.clinker still).trans ?_,
    (congrArg Still.class1Seconds still).trans ?_, congrArg Outlook.picture kept, congrArg Outlook.fields kept,
    congrArg Prod.snd nv⟩
  · exact congrArg Accountant.shift closed
  · exact congrArg Accountant.shiftDue closed
  · exact congrArg Accountant.collating closed
  · exact congrArg Accountant.collationDue closed
  · exact congrArg Accountant.collated closed
  · exact congrArg Accountant.clinker closed
  · exact congrArg Accountant.class1Seconds closed

/-- R157: the end of a collation by its timer, with the requests that follow it. -/
theorem State.collationTimer_ends {due : Nat} {t : State} (ht : t = ((s.begun.reach due).endCollation false).settle) :
    t.now = max s.now due ∧ t.accountant.collating = none ∧ t.accountant.collationDue = none ∧
      t.accountant.collated = [] ∧ t.accountant.shift = s.accountant.shift ∧ t.picture = s.picture ∧
      t.fields = s.fields ∧ t.nv = s.nv := by
  have still : t.still = ((s.begun.reach due).endCollation false).still := ht ▸ State.settle_still _
  have kept : t.outlook = (s.begun.reach due).outlook := (outlook_of_still still).trans (State.endCollation_outlook _ _)
  have nv : t.keptNv = (s.begun.reach due).keptNv := (keptNv_of_still still).trans (State.endCollation_keptNv _ _)
  have shift : ((s.begun.reach due).endCollation false).accountant.shift = s.accountant.shift := by
    rw [State.endCollation_accountant]; rfl
  exact ⟨now_of_outlook kept, congrArg Still.collating still, congrArg Still.collationDue still,
    congrArg Still.collated still, (congrArg Still.shift still).trans shift,
    congrArg Outlook.picture kept, congrArg Outlook.fields kept, congrArg Prod.snd nv⟩

/-- R155, R156: what a close does, whatever calls for it. -/
theorem State.closeShift_closes (s : State) (n : Serial) (reason : Nat) (new : Serial) {t : State}
    (ht : t = s.closeShift n reason new) :
    t.accountant.clinker = 0 ∧ t.accountant.raised = Vector.replicate 4 0 ∧ t.accountant.class1Seconds = 0 ∧
      t.accountant.saturated = false ∧ t.accountant.clinkerRem = s.accountant.clinkerRem ∧
      (∀ i, t.acc i = { gramRem := (s.acc i).gramRem, kjRem := (s.acc i).kjRem }) ∧ t.accountant.collating = some n ∧
      (s.offers → s.link.tookOffer t.link (.summary (s.summaryPayload n))) := by
  have closed := s.closeShift_accountant n reason new
  rw [← ht] at closed
  exact ⟨congrArg Accountant.clinker closed, congrArg Accountant.raised closed, congrArg Accountant.class1Seconds closed,
    congrArg Accountant.saturated closed, (congrArg Accountant.clinkerRem closed).trans rfl,
    fun i => ht ▸ s.closeShift_acc n reason new i, congrArg Accountant.collating closed,
    fun offers => ht ▸ State.closeShift_tookOffer offers n reason new⟩

end

/-- Settles O51: the timers by the accountant that a close and an ended collation leave, the offers by the link, and the summary
by its entries. -/
theorem shiftTimersCloseAndCollate : Obligations.ShiftTimersCloseAndCollate := by
  refine ⟨fun s due g calm cfg => ⟨fun n shiftDue shift => ⟨fun offers => ?_, ?_⟩, fun collationDue => ?_⟩,
    fun s n new reason t ht => s.closeShift_closes n reason new ht, fun s n used hused => ?_⟩
  · obtain ⟨l, summary, mark⟩ := State.closeByTimer_tookOffer (s := s.begun.reach due) offers shift
    exact ⟨_, l, exec_shiftTimerExpiry_due calm shiftDue, summary, mark⟩
  · exact ⟨_, exec_shiftTimerExpiry_due calm shiftDue, State.shiftTimer_closes cfg shift rfl⟩
  · exact ⟨_, exec_collationTimerExpiry_due calm collationDue, State.collationTimer_ends rfl⟩
  · subst hused
    exact congrArg (_ ++ s.usedSlots.flatMap ·) (funext fun i => summaryEntry_eq i (s.slot i) (s.acc i))

end Sys2Proof.Machine
end

section
/-! PROOFS. Every command keeps the three memories in canonical form, and only the store engine's completions, the starts, RESET
and a loss of supply change a byte of them (R163, R169, R171, R176, R180, R181). -/

namespace Sys2Proof.Machine

section
variable {s t : State}

theorem nv_of_keptNv (h : t.keptNv = s.keptNv) : t.nv = s.nv := congrArg Prod.snd h

theorem nv_of_still (h : t.still = s.still) : t.nv = s.nv := congrArg Still.nv h

/-! ## The starts (R163, R176) -/

theorem State.mapOutput_keptNv (s : State) (o : Fin 8) : (s.mapOutput o).keptNv = s.keptNv := by
  rw [State.mapOutput_eq]; split
  · rfl
  · exact (keptNv_of_still (State.writeLatch_still _ _ _)).trans rfl

theorem State.readOtp_nv (s : State) (line : Bool) : (s.readOtp line).nv = s.nv :=
  (nv_of_still (State.kickStream_still _)).trans rfl

theorem State.acceptImage_nv (s : State) (img : List Byte) : (s.acceptImage img).nv = s.nv := by
  unfold State.acceptImage
  extract_lets g slots heat fields chan s1 chan' s2 s3 s4
  have h3 : s3.nv = s2.nv := nv_of_keptNv (foldl_keptNv _ State.mapOutput_keptNv outputList s2)
  clear_value s3
  have h4 : s4.nv = s3.nv := by
    simp only [s4]; split <;> rfl
  clear_value s4
  exact (nv_of_still s4.settle_still).trans (h4.trans h3)

theorem State.startScan_keptNv (s : State) : s.startScan.keptNv = s.keptNv := by
  have repairs (t : State) (e : Fin 32) : (t.repairChain e).keptNv = t.keptNv := by
    unfold State.repairChain; simp only; repeat' split
    all_goals rfl
  have orphans (c : List (Fin 128)) (t : State) (g : Fin 128) : (State.orphanGranule c t g).keptNv = t.keptNv := by
    unfold State.orphanGranule; split <;> rfl
  have scans (t : State) (e : Fin 32) : (t.scanFile e).keptNv = t.keptNv := by
    unfold State.scanFile; simp only; repeat' split
    all_goals rfl
  unfold State.startScan
  simp only
  rw [foldl_keptNv _ scans, foldl_keptNv _ (orphans _), foldl_keptNv _ repairs]

theorem State.takeReport_keptNv (s : State) (r : FileReport) : (s.takeReport r).keptNv = s.keptNv := by
  have resumes (e : Fin 32) (n : Nat) : (s.resumeShift e n).keptNv = s.keptNv := by
    unfold State.resumeShift; simp only; rw [State.offerRestart_keptNv]
    exact keptNv_of_still (t := s.resumeFile e n) (s.resumeFile_still e n)
  unfold State.takeReport; repeat' split
  all_goals simp [resumes]

theorem State.enterNext_keptNv (s : State) : s.enterNext.keptNv = s.keptNv := by
  unfold State.enterNext; simp only; repeat' split
  · exact State.runStore_keptNv _
  · exact State.runStore_keptNv _
  · exact (State.runStore_keptNv _).trans (foldl_keptNv _ State.takeReport_keptNv _ _)

/-- R163, R176: a start changes no byte of the memories. -/
theorem State.start_nv (s : State) (line strap : Bool) : (s.start line strap).nv = s.nv := by
  unfold State.start
  extract_lets s1 a s2 s3
  have h2 : s2.nv = s.nv := State.readOtp_nv _ line
  have h3 : s3.nv = s2.nv := by
    simp only [s3]; split
    · rfl
    · exact State.acceptImage_nv s2 _
  have scans : s3.startScan.enterNext.nv = s3.nv := nv_of_keptNv ((State.enterNext_keptNv _).trans s3.startScan_keptNv)
  exact (nv_of_still (State.settle_still _)).trans (scans.trans (h3.trans h2))

/-- R163, R175: RESET cuts the operation in flight. -/
theorem State.assertReset_wf (s : State) (h : s.nv.wf = true) : s.assertReset.nv.wf = true := (cutOps_sound s).2 h

/-- R163, R177: a loss of supply marks the torn bytes and cuts the operation in flight. -/
theorem State.loseSupply_wf (s : State) (n : Option Nat) (h : s.nv.wf = true) : (s.loseSupply n).nv.wf = true := by
  have cut (u : State) (k : u.nv.wf = true) : u.markTorn.cutOps.nv.wf = true :=
    (State.sound_trans (markTorn_sound u) (cutOps_sound _)).2 k
  cases n with
  | none => exact cut s h
  | some n => exact cut (s.undoMap n) h

end

/-! ## Events and commands -/

/-- The commands that can change a byte of the memories: the completions of the store engine, the starts, RESET and a loss of
supply. -/
def storesBytes : Instr → Bool
  | .programCompletion _ | .eraseCompletion _ | .configOperationCompletion _ | .otpProgramCompletion _ => true
  | .resetAsserted | .lineRestart _ | .powerOnStart _ | .supplyFailure _ => true
  | _ => false

/-- What a command does to the memories: they stay canonical, and where it is not one that stores, they stay as they are. -/
structure State.Stores (s t : State) (storing : Bool) : Prop where
  canonical : s.nv.wf = true → t.nv.wf = true
  frame : storing = false → t.nv = s.nv

theorem State.Stores.of_nv {s t : State} {b : Bool} (h : t.nv = s.nv) : s.Stores t b := ⟨fun k => h ▸ k, fun _ => h⟩

theorem State.Stores.of_wf {s t : State} (h : s.nv.wf = true → t.nv.wf = true) : s.Stores t true := ⟨h, nofun⟩

/-- A command's meaning at the memories. -/
def KeepsMemory (c : Instr) : Prop := ∀ s : State, ∃ t, exec c s = .next t ∧ s.Stores t (storesBytes c)

/-- An event that leaves the memories alone. -/
theorem keepsMemory_of_keptNv {c : Instr} {f : State → State} (hc : ∀ s, exec c s = .next (s.takeEvent f))
    (h : ∀ t : State, (f t).keptNv = t.keptNv) : KeepsMemory c := by
  refine fun s => ⟨_, hc s, .of_nv ?_⟩
  cases live : s.live
  · rw [State.takeEvent_dead f live]
  · rw [State.takeEvent_live f live]
    exact (nv_of_still (State.settle_still _)).trans (nv_of_keptNv (h s.begun))

/-- A completion of the store engine. -/
theorem keepsMemory_of_sound {c : Instr} {f : State → State} (hc : ∀ s, exec c s = .next (s.takeEvent f))
    (h : ∀ t : State, t.sound (f t)) (stores : storesBytes c = true) : KeepsMemory c :=
  fun s => ⟨_, hc s, stores ▸ .of_wf (takeEvent_sound s f h).2⟩

/-! ### The starts and the link -/

theorem keepsMemory_powerOnStart (b : Bool) : KeepsMemory (.powerOnStart b) := by
  refine fun s => ⟨_, rfl, .of_wf fun h => ?_⟩
  rw [State.start_nv]
  split
  · exact s.loseSupply_wf none h
  · exact h

theorem keepsMemory_resetAsserted : KeepsMemory .resetAsserted := by
  refine fun s => ⟨_, rfl, .of_wf fun h => ?_⟩
  split
  · exact s.assertReset_wf h
  · exact h

theorem keepsMemory_lineRestart (b : Bool) : KeepsMemory (.lineRestart b) := by
  refine fun s => ⟨_, rfl, .of_wf fun h => ?_⟩
  split
  · rw [State.start_nv]
    split
    · exact h
    · exact s.assertReset_wf h
  · exact h

theorem keepsMemory_supplyFailure (w : Option Nat) : KeepsMemory (.supplyFailure w) := by
  refine fun s => ⟨_, rfl, .of_wf fun h => ?_⟩
  split
  · exact s.loseSupply_wf w h
  · exact h

theorem keepsMemory_listenTimerExpiry : KeepsMemory .listenTimerExpiry := by
  refine keepsMemory_of_keptNv (fun _ => rfl) fun t => ?_
  split <;> simp

theorem keepsMemory_duplicateTimerExpiry : KeepsMemory .duplicateTimerExpiry := by
  refine keepsMemory_of_keptNv (fun _ => rfl) fun t => ?_
  split <;> rfl

theorem keepsMemory_silenceTimerExpiry : KeepsMemory .silenceTimerExpiry := by
  refine keepsMemory_of_keptNv (fun _ => rfl) fun t => ?_
  split
  · rfl
  · exact (State.setSilence_keptNv _).trans rfl

theorem keepsMemory_collision : KeepsMemory .collision := by
  refine keepsMemory_of_keptNv (fun _ => rfl) fun t => ?_
  split <;> simp

theorem keepsMemory_sentCleanly : KeepsMemory .sentCleanly := by
  refine keepsMemory_of_keptNv (fun _ => rfl) fun t => ?_
  split <;> simp

/-! ### The floor picture, the alarm unit and the accountant -/

theorem keepsMemory_staleTimeExpiry (n ch : Nat) : KeepsMemory (.staleTimeExpiry n ch) := by
  refine keepsMemory_of_keptNv (fun _ => rfl) fun t => ?_
  repeat' split
  all_goals rfl

theorem keepsMemory_lostTimeExpiry (n ch : Nat) : KeepsMemory (.lostTimeExpiry n ch) := by
  refine keepsMemory_of_keptNv (fun _ => rfl) fun t => ?_
  split <;> simp

theorem keepsMemory_lossHoldExpiry : KeepsMemory .lossHoldExpiry := by
  refine keepsMemory_of_keptNv (fun _ => rfl) fun t => ?_
  split <;> rfl

theorem keepsMemory_stationAbsent (n : Nat) : KeepsMemory (.stationAbsent n) := by
  refine keepsMemory_of_keptNv (fun _ => rfl) fun t => ?_
  repeat' split
  all_goals simp

theorem keepsMemory_take : KeepsMemory .take := by
  refine keepsMemory_of_keptNv (fun _ => rfl) fun t => ?_
  repeat' split
  all_goals simp

theorem keepsMemory_refreshTimerExpiry : KeepsMemory .refreshTimerExpiry := by
  refine keepsMemory_of_keptNv (fun _ => rfl) fun t => ?_
  split <;> simp

theorem keepsMemory_tripLineObserved (b : Bool) : KeepsMemory (.tripLineObserved b) := by
  refine keepsMemory_of_keptNv (execTripLineObserved_eq b) fun t => ?_
  have trips : (t.takeTrip b).keptNv = t.keptNv := (keptNv_of_still (t.takeTrip_still b)).trans rfl
  repeat' split
  · rfl
  all_goals exact trips

theorem keepsMemory_silence : KeepsMemory .silence := by
  refine keepsMemory_of_keptNv (fun _ => rfl) fun t => ?_
  split <;> rfl

theorem keepsMemory_shiftTimerExpiry : KeepsMemory .shiftTimerExpiry := by
  refine keepsMemory_of_keptNv (fun _ => rfl) fun t => ?_
  split <;> simp

theorem keepsMemory_collationTimerExpiry : KeepsMemory .collationTimerExpiry := by
  refine keepsMemory_of_keptNv (fun _ => rfl) fun t => ?_
  split <;> simp

/-! ### The control update, the inputs and the slots -/

theorem keepsMemory_controlUpdate : KeepsMemory .controlUpdate := by
  refine keepsMemory_of_keptNv (fun _ => rfl) fun t => ?_
  split <;> simp

theorem keepsMemory_startTimerExpiry (i : Fin 4) : KeepsMemory (.startTimerExpiry i) := by
  refine keepsMemory_of_keptNv (fun _ => rfl) fun t => ?_
  unfold State.onCf; simp only; repeat' split
  · rfl
  · exact (keptNv_of_still (State.cfStop_still _ _ _ _)).trans rfl
  · rfl
  · rfl

theorem keepsMemory_freshTimeExpiry (k : Fin 16) : KeepsMemory (.freshTimeExpiry k) := by
  refine keepsMemory_of_keptNv (fun _ => rfl) fun t => ?_
  split <;> rfl

theorem keepsMemory_holdTimeExpiry (k : Fin 16) : KeepsMemory (.holdTimeExpiry k) := by
  refine keepsMemory_of_keptNv (fun _ => rfl) fun t => ?_
  split <;> simp

theorem keepsMemory_runPermitEdge (i : Fin 4) (b : Bool) : KeepsMemory (.runPermitEdge i b) := by
  refine keepsMemory_of_keptNv (fun _ => rfl) fun t => ?_
  split
  · rfl
  extract_lets p u
  repeat' split
  · rfl
  · rfl
  · exact (keptNv_of_still (u.cfPermitFalls_still i _)).trans rfl
  · exact (keptNv_of_still (u.diPermitFalls_still i _)).trans rfl
  · exact (keptNv_of_still (u.caPermitFalls_still i _)).trans rfl
  · exact (keptNv_of_still (u.cgPermitFalls_still i _)).trans rfl

theorem State.confirm_keptNv (s : State) (i : Fin 4) (w : GateSwitch) (b : Bool) : (s.confirm i w b).keptNv = s.keptNv :=
  keptNv_of_still (s.confirm_still i w b)

theorem keepsMemory_initialLevel (line : InputLine) (b : Bool) : KeepsMemory (.initialLevel line b) := by
  refine keepsMemory_of_keptNv (fun _ => rfl) fun t => ?_
  repeat' split
  case h_2 => exact t.confirm_keptNv _ _ b
  all_goals rfl

theorem State.kickStream_keptNv (s : State) : s.kickStream.keptNv = s.keptNv := keptNv_of_still s.kickStream_still

theorem keepsMemory_driveRefreshTimerExpiry : KeepsMemory .driveRefreshTimerExpiry := by
  refine keepsMemory_of_keptNv (fun _ => rfl) fun t => ?_
  split
  · rfl
  · exact State.kickStream_keptNv _

theorem keepsMemory_phaseTimerExpiry (i : Fin 4) : KeepsMemory (.phaseTimerExpiry i) := by
  refine keepsMemory_of_keptNv (fun _ => rfl) fun t => ?_
  unfold State.onDi; simp only; repeat' split
  · rfl
  · exact (keptNv_of_still (State.gateJam_still (t.reach _) i _)).trans rfl
  · rfl

theorem keepsMemory_jamClear (i : Fin 4) : KeepsMemory (.jamClear i) := by
  refine keepsMemory_of_keptNv (fun _ => rfl) fun t => ?_
  unfold State.onDi; simp only; repeat' split
  · exact (keptNv_of_still (State.gateGo_still (t.setSlot i _) i)).trans rfl
  · rfl
  · rfl

theorem keepsMemory_divertTimerExpiry (i : Fin 4) : KeepsMemory (.divertTimerExpiry i) := by
  refine keepsMemory_of_keptNv (fun _ => rfl) fun t => ?_
  unfold State.onDi; simp only; repeat' split
  all_goals rfl

/-! ### Every command and every step -/

/-- R163, R176, R180: every command keeps the memories canonical, and those that do not store leave them alone. -/
theorem exec_keepsMemory : ∀ c : Instr, KeepsMemory c
  | .powerOnStart b => keepsMemory_powerOnStart b
  | .resetAsserted => keepsMemory_resetAsserted
  | .lineRestart b => keepsMemory_lineRestart b
  | .listenTimerExpiry => keepsMemory_listenTimerExpiry
  | .frameReceived b => keepsMemory_of_keptNv (fun _ => rfl) fun t => t.hearBurst_keptNv b
  | .frameCutShort b => keepsMemory_of_keptNv (fun _ => rfl) fun t => t.hearBurst_keptNv b
  | .duplicateTimerExpiry => keepsMemory_duplicateTimerExpiry
  | .silenceTimerExpiry => keepsMemory_silenceTimerExpiry
  | .quietGap => keepsMemory_of_keptNv (fun _ => rfl) fun t => t.mediumQuiet_keptNv
  | .backoffSlot => keepsMemory_of_keptNv (fun _ => rfl) fun t => t.countSlot_keptNv
  | .defer => keepsMemory_of_keptNv (fun _ => rfl) fun t => t.mediumBusy_keptNv
  | .collision => keepsMemory_collision
  | .sentCleanly => keepsMemory_sentCleanly
  | .staleTimeExpiry n ch => keepsMemory_staleTimeExpiry n ch
  | .lostTimeExpiry n ch => keepsMemory_lostTimeExpiry n ch
  | .lossHoldExpiry => keepsMemory_lossHoldExpiry
  | .stationAbsent n => keepsMemory_stationAbsent n
  | .take => keepsMemory_take
  | .refreshTimerExpiry => keepsMemory_refreshTimerExpiry
  | .controlUpdate => keepsMemory_controlUpdate
  | .startTimerExpiry i => keepsMemory_startTimerExpiry i
  | .sampleWord k n b => keepsMemory_of_keptNv (fun _ => rfl) fun t => t.takeWord_keptNv k n.toNat b
  | .freshTimeExpiry k => keepsMemory_freshTimeExpiry k
  | .holdTimeExpiry k => keepsMemory_holdTimeExpiry k
  | .runPermitEdge i b => keepsMemory_runPermitEdge i b
  | .gateConfirmation i w b => keepsMemory_of_keptNv (fun _ => rfl) fun t => t.confirm_keptNv i w b
  | .phaseTimerExpiry i => keepsMemory_phaseTimerExpiry i
  | .jamClear i => keepsMemory_jamClear i
  | .divertTimerExpiry i => keepsMemory_divertTimerExpiry i
  | .driveWord => keepsMemory_of_keptNv (fun _ => rfl) fun _ => State.kickStream_keptNv _
  | .driveRefreshTimerExpiry => keepsMemory_driveRefreshTimerExpiry
  | .tripLineObserved b => keepsMemory_tripLineObserved b
  | .acknowledge => keepsMemory_of_keptNv (fun _ => rfl) fun t => keptNv_of_still t.panelAckAll_still
  | .silence => keepsMemory_silence
  | .shiftTimerExpiry => keepsMemory_shiftTimerExpiry
  | .collationTimerExpiry => keepsMemory_collationTimerExpiry
  | .programCompletion b => keepsMemory_of_sound (fun _ => rfl) (fun t => programEnds_sound t b) rfl
  | .eraseCompletion b => keepsMemory_of_sound (fun _ => rfl) (fun t => eraseEnds_sound t b) rfl
  | .status => keepsMemory_of_keptNv (fun _ => rfl) fun _ => rfl
  | .ident => keepsMemory_of_keptNv (fun _ => rfl) fun t => t.answer_keptNv _
  | .dirEntry _ => keepsMemory_of_keptNv (fun _ => rfl) fun t => t.answer_keptNv _
  | .pictureEntry _ => keepsMemory_of_keptNv (fun _ => rfl) fun t => t.answer_keptNv _
  | .alarmEntry _ => keepsMemory_of_keptNv (fun _ => rfl) fun t => t.answer_keptNv _
  | .channelView _ => keepsMemory_of_keptNv (fun _ => rfl) fun t => t.answer_keptNv _
  | .window e m o => keepsMemory_of_keptNv (fun _ => rfl) fun t => t.openWindow_keptNv e m o
  | .stream n => keepsMemory_of_keptNv (fun _ => rfl) fun t => t.streamUnits_keptNv n
  | .prefetchReadDone => keepsMemory_of_keptNv (fun _ => rfl) fun t => t.readEnds_keptNv
  | .writeEnable => keepsMemory_of_keptNv (fun _ => rfl) fun t => t.closeWindow_keptNv
  | .configWrite _ _ _ => keepsMemory_of_keptNv (fun _ => rfl) fun t => t.areaCommand_keptNv _ _
  | .configErase => keepsMemory_of_keptNv (fun _ => rfl) fun t => t.areaCommand_keptNv _ _
  | .configOperationCompletion b => keepsMemory_of_sound (fun _ => rfl) (fun t => configCompletes_sound t b) rfl
  | .otpWrite _ _ _ => keepsMemory_of_keptNv (fun _ => rfl) fun t => t.areaCommand_keptNv _ _
  | .freeze => keepsMemory_of_keptNv (fun _ => rfl) fun t => t.areaCommand_keptNv _ _
  | .otpProgramCompletion b => keepsMemory_of_sound (fun _ => rfl) (fun t => otpCompletes_sound t b) rfl
  | .flush => keepsMemory_of_keptNv (fun _ => rfl) fun t => t.flushQueue_keptNv
  | .commandDiscarded => keepsMemory_of_keptNv (fun _ => rfl) fun _ => rfl
  | .unknownCommand _ => keepsMemory_of_keptNv (fun _ => rfl) fun _ => rfl
  | .supplyFailure w => keepsMemory_supplyFailure w
  | .initialLevel l b => keepsMemory_initialLevel l b

theorem idle_canonical (s : State) : ∃ t, idle s = .next t ∧ (s.nv.wf = true → t.nv.wf = true) := by
  unfold idle
  repeat' split
  · exact ⟨_, rfl, id⟩
  · obtain ⟨t, ht, stores⟩ := exec_keepsMemory _ s
    exact ⟨t, ht, stores.canonical⟩
  · obtain ⟨t, ht, stores⟩ := exec_keepsMemory _ (s.useFree 1)
    exact ⟨t, ht, stores.canonical⟩
  · exact ⟨_, rfl, id⟩

/-- R163, R176, R180: every step keeps the memories canonical. -/
theorem step_canonical (s : State) : ∃ t, step s = .next t ∧ (s.nv.wf = true → t.nv.wf = true) := by
  unfold step
  split
  · rename_i c rest _
    obtain ⟨t, ht, stores⟩ := exec_keepsMemory c { s with pending := rest }
    exact ⟨t, ht, stores.canonical⟩
  · exact idle_canonical s

/-- Settles O8: a start changes no byte, what is cut or completed writes in canonical form, and nothing else changes a byte. -/
theorem memoriesStayCanonical : Obligations.MemoriesStayCanonical := by
  intro s t canonical h
  obtain ⟨u, hu, keeps⟩ := step_canonical s
  cases hu.symm.trans h
  exact keeps canonical

/-- Settles O7: a command that is none of the eight that store leaves the memories as they are. -/
theorem onlyTheEngineChangesMemory : Obligations.OnlyTheEngineChangesMemory := by
  intro c s t h program erase config otp reset line power supply
  have still : storesBytes c = false := by
    unfold storesBytes
    split
    · exact absurd rfl (program _)
    · exact absurd rfl (erase _)
    · exact absurd rfl (config _)
    · exact absurd rfl (otp _)
    · exact absurd rfl reset
    · exact absurd rfl (line _)
    · exact absurd rfl (power _)
    · exact absurd rfl (supply _)
    · rfl
  obtain ⟨u, hu, stores⟩ := exec_keepsMemory c s
  cases hu.symm.trans h
  rw [stores.frame still]
  exact ⟨rfl, rfl, fun _ => ⟨rfl, rfl, rfl⟩⟩

end Sys2Proof.Machine
end

section
/-! PROOFS. The completions of the store engine (R163, R169, R171), FLUSH and the bad commands (R172, R181, R182), and the part at
reset. -/

namespace Sys2Proof.Machine

section
variable {s t : State}

/-- The store's counters of failed programs, erases and failed erases stand where the still parts do. -/
theorem engineCounters_of_still (h : t.still = s.still) :
    t.store.counters.programFailures = s.store.counters.programFailures ∧
      t.store.counters.erases = s.store.counters.erases ∧
      t.store.counters.eraseFailures = s.store.counters.eraseFailures := by
  obtain ⟨failures, erases, eraseFailures, -, -⟩ : _ ∧ _ ∧ _ ∧ _ ∧ _ := by
    simpa [State.still] using congrArg Still.writes h
  exact ⟨failures, erases, eraseFailures⟩

/-! ## Programs (R163, R166, R169) -/

/-- The engine with its program at its end. -/
def State.programOver (s : State) : State := { s with store := { s.store with program := none } }

theorem exec_programCompletion {op : ProgramOp} (h : s.calm) (hp : s.store.program = some op) (pass : Bool) :
    exec (.programCompletion pass) s =
      .next (if pass then s.begun.programOver.programPasses op else s.begun.programOver.programFails op).runStore.settle := by
  have ends : s.begun.programEnds pass =
      (if pass then s.begun.programOver.programPasses op else s.begun.programOver.programFails op).runStore := by
    unfold State.programEnds
    rw [show s.begun.store.program = some op from hp]
    rfl
  exact congrArg Host.Outcome.next (h.takeEvent_eq ends)

/-- R166, R169: a program that passes writes its records' bytes at its address. -/
theorem State.programPasses_still (s : State) (op : ProgramOp) :
    (s.programPasses op).still = ({ s with nv := { s.nv with
      array := s.nv.array.writeBytes op.address (op.records.flatMap (QRecord.bytes (s.aux op.file).base)) } } : State).still := by
  simp [State.programPasses]

/-- R163, R169: a program that fails leaves free bytes at its address, and is counted. -/
theorem State.programFails_still (s : State) (op : ProgramOp) : (s.programFails op).still =
    ((s.tearProgram op).countStore fun c => { c with programFailures := up16 c.programFailures }).still := by
  unfold State.programFails
  simp only
  rw [foldl_still _ (by intro t r; simp)]
  rfl

theorem tornBytes_length (k n : Nat) : (tornBytes k n).length = n := by simp [tornBytes]

/-- The store going on and the requests leave the still parts as the completion did. -/
theorem State.completed_still (s : State) : s.runStore.settle.still = s.still :=
  (State.settle_still _).trans s.runStore_still

/-- R166, R169: a program ends with a pass. -/
theorem exec_programCompletion_passes {op : ProgramOp} (h : s.calm) (hp : s.store.program = some op) :
    ∃ t, exec (.programCompletion true) s = .next t ∧ t.still = ({ s with nv := { s.nv with
      array := s.nv.array.writeBytes op.address (op.records.flatMap (QRecord.bytes (s.aux op.file).base)) } } : State).still :=
  ⟨_, exec_programCompletion h hp true, (State.completed_still _).trans (State.programPasses_still _ op)⟩

/-- R163, R169: a program ends with a failure. -/
theorem exec_programCompletion_fails {op : ProgramOp} (h : s.calm) (hp : s.store.program = some op) :
    ∃ t, exec (.programCompletion false) s = .next t ∧ t.still =
      ((s.tearProgram op).countStore fun c => { c with programFailures := up16 c.programFailures }).still :=
  ⟨_, exec_programCompletion h hp false, (State.completed_still _).trans (State.programFails_still _ op)⟩

/-- Settles O52: the array takes the bytes at the program's address, which the store and the alarm unit then leave alone. -/
theorem programsWriteTheirRecords : Obligations.ProgramsWriteTheirRecords := by
  rintro s op bytes calm wf running rfl
  obtain ⟨t, passes, written⟩ := exec_programCompletion_passes calm running
  obtain ⟨u, fails, torn⟩ := exec_programCompletion_fails calm running
  refine ⟨⟨t, passes, ?_⟩, u, fails, (engineCounters_of_still torn).1, ?_⟩
  · rw [nv_of_still written]
    exact ⟨fun n h => Memory.read_writeBytes_in _ _ n wf h, fun a out => Memory.read_writeBytes_out _ _ wf out, rfl, rfl,
      congrArg Still.picture written, congrArg Still.fields written⟩
  · rw [nv_of_still torn]
    exact ⟨fun a out => Memory.read_writeBytes_out _ _ wf (by rwa [tornBytes_length]), rfl, rfl,
      congrArg Still.picture torn, congrArg Still.fields torn⟩

/-! ## Erases (R163, R171, R172) -/

/-- The engine with its erase at its end. -/
def State.eraseOver (s : State) : State := { s with store := { s.store with erase := none } }

theorem exec_eraseCompletion_suspended {x : EraseOp} (h : s.calm) (hx : s.store.erase = some x) (k : x.suspended = true)
    (pass : Bool) : exec (.eraseCompletion pass) s = .next s.begun := by
  have stays : s.begun.eraseEnds pass = s.begun := by
    unfold State.eraseEnds
    rw [show s.begun.store.erase = some x from hx]
    exact if_pos k
  exact congrArg Host.Outcome.next ((h.takeEvent_eq stays).trans (h.settle_begun rfl))

theorem exec_eraseCompletion {x : EraseOp} (h : s.calm) (hx : s.store.erase = some x) (k : x.suspended = false) (pass : Bool) :
    exec (.eraseCompletion pass) s = .next (if pass then s.begun.eraseOver.erasePasses x.granule
      else s.begun.eraseOver.eraseFails x.granule).runStore.settle := by
  have ends : s.begun.eraseEnds pass = (if pass then s.begun.eraseOver.erasePasses x.granule
      else s.begun.eraseOver.eraseFails x.granule).runStore := by
    unfold State.eraseEnds
    rw [show s.begun.store.erase = some x from hx]
    exact if_neg (by simp [k])
  exact congrArg Host.Outcome.next (h.takeEvent_eq ends)

/-- R171: an erase that passes erases its granule's bytes, and is counted. -/
theorem State.erasePasses_still (s : State) (g : Fin 128) : (s.erasePasses g).still =
    (State.countStore { s with nv := { s.nv with array := s.nv.array.eraseBytes (g.val * 4096) 4096 } }
      fun c => { c with erases := up16 c.erases }).still :=
  (State.clearStoreFull_still _).trans rfl

/-- R171: an erase that fails is counted. -/
theorem State.eraseFails_still (s : State) (g : Fin 128) : (s.eraseFails g).still =
    (s.countStore fun c => { c with eraseFailures := up16 c.eraseFailures }).still := rfl

/-- R171: an erase ends with a pass. -/
theorem exec_eraseCompletion_passes {x : EraseOp} (h : s.calm) (hx : s.store.erase = some x) (k : x.suspended = false) :
    ∃ t, exec (.eraseCompletion true) s = .next t ∧ t.still =
      (State.countStore { s with nv := { s.nv with array := s.nv.array.eraseBytes (x.granule.val * 4096) 4096 } }
        fun c => { c with erases := up16 c.erases }).still :=
  ⟨_, exec_eraseCompletion h hx k true, (State.completed_still _).trans (State.erasePasses_still _ x.granule)⟩

/-- R171: an erase ends with a failure. -/
theorem exec_eraseCompletion_fails {x : EraseOp} (h : s.calm) (hx : s.store.erase = some x) (k : x.suspended = false) :
    ∃ t, exec (.eraseCompletion false) s = .next t ∧ t.still =
      (s.countStore fun c => { c with eraseFailures := up16 c.eraseFailures }).still :=
  ⟨_, exec_eraseCompletion h hx k false, (State.completed_still _).trans (State.eraseFails_still _ x.granule)⟩

/-- Settles O53: the bytes of the granule are erased, which the store and the alarm unit then leave alone. -/
theorem erasesClearOneGranule : Obligations.ErasesClearOneGranule := by
  intro s x calm wf running
  refine ⟨fun held pass => exec_eraseCompletion_suspended calm running held pass, fun runs => ?_, fun runs => ?_⟩
  · obtain ⟨t, passes, erased⟩ := exec_eraseCompletion_passes calm running runs
    refine ⟨t, passes, ?_⟩
    rw [nv_of_still erased]
    exact ⟨fun a low high => Memory.read_eraseBytes_in _ _ low high, fun a out => Memory.read_eraseBytes_out _ _ wf out,
      (engineCounters_of_still erased).2.1, rfl, rfl, congrArg Still.picture erased, congrArg Still.fields erased⟩
  · obtain ⟨t, fails, counted⟩ := exec_eraseCompletion_fails calm running runs
    exact ⟨t, fails, congrArg Still.nv counted, (engineCounters_of_still counted).2.2, congrArg Still.picture counted,
      congrArg Still.fields counted⟩

end

/-! ## FLUSH and bad commands (R172, R181, R182) -/

/-- R182: a window that is closed takes its buffer and its read with it; nothing else of the still parts changes. -/
theorem State.closeWindow_closed (s : State) : ∃ buffer reading, s.closeWindow.still =
    ({ s with port := { s.port with window := none, buffer := buffer, reading := reading } } : State).still := by
  unfold State.closeWindow
  split
  · exact ⟨[], false, State.runStore_still _⟩
  · rename_i closed
    have none : s.port.window = none := by simpa using closed
    exact ⟨s.port.buffer, s.port.reading, by rw [← none]⟩

theorem window_none_of_still {s t : State} (h : t.still = s.still) (k : s.port.window = none) : t.port.window = none := by
  have windows := congrArg Still.window h
  simpa [State.still, k] using windows

/-- R172, R181: FLUSH sets its result, and closes the window with all that it holds. -/
theorem exec_flush {s : State} (h : s.calm) : ∃ t buffer reading, exec .flush s = .next t ∧ t.still = ({ s with
    port := { s.port with window := none, buffer := buffer, reading := reading, lastResult := .done } } : State).still := by
  obtain ⟨buffer, reading, closed⟩ := s.begun.closeWindow_closed
  have flushed : s.begun.flushQueue.settle.still = (s.begun.closeWindow.result .done).still := State.completed_still _
  have result : (s.begun.closeWindow.result .done).still = { s.begun.closeWindow.still with lastResult := .done } := rfl
  refine ⟨_, buffer, reading, congrArg Host.Outcome.next (State.takeEvent_live _ h.1), flushed.trans (result.trans ?_)⟩
  rw [closed]; rfl

/-- Settles O60: FLUSH closes the window, sets its result and marks records, and then the store goes on; the other two count. -/
theorem flushAndBadCommands : Obligations.FlushAndBadCommands := by
  refine ⟨fun s calm => ?_, fun s b calm => ⟨?_, ?_⟩⟩
  · obtain ⟨t, buffer, reading, flush, still⟩ := exec_flush calm
    exact ⟨t, flush, congrArg Still.lastResult still, window_none_of_still still rfl, congrArg Still.writeEnable still,
      congrArg Still.nv still, congrArg Still.picture still, congrArg Still.fields still⟩
  · exact congrArg Host.Outcome.next (State.takeEvent_calm _ calm calm.2)
  · exact congrArg Host.Outcome.next (State.takeEvent_calm _ calm calm.2)

/-! ## The part at reset (R163, R176, R180) -/

/-- Settles O14: at reset every block is empty, no line is observed and nothing is supplied. -/
theorem resetIsSafe : Obligations.ResetIsSafe :=
  ⟨rfl, rfl, ⟨Nat.zero_le _, .nil⟩, nofun, State.alarmsLegal_of_empty rfl rfl, ⟨.nil, .nil, nofun⟩, ⟨.nil, nofun⟩, nofun,
    rfl, rfl, fun _ => ⟨rfl, rfl, rfl⟩⟩

end Sys2Proof.Machine
end

section
/-! PROOFS. Records, and what programs, links, erases and drops leave in the map and the queue (R165 to R171, R173, R184). -/

namespace Sys2Proof.Machine

section
variable {s t : State}

/-! ## Records (R166, R184) -/

theorem byteSum_concat (bs : List Byte) (b : Byte) : byteSum (bs ++ [b]) = byteSum bs + b := by simp [byteSum]

/-- R184: the check makes the sum of all bytes 0. -/
theorem byteSum_sumCheck (bs : List Byte) : byteSum (bs ++ [sumCheck bs]) = 0 := by
  rw [byteSum_concat, sumCheck]
  bv_omega

theorem QRecord.bytes_sum (base : Int) (r : QRecord) : byteSum (r.bytes base) = 0 := byteSum_sumCheck _

theorem QRecord.bytes_length (base : Int) (r : QRecord) : (r.bytes base).length = r.rest.length + 7 := by
  simp [QRecord.bytes, be4]

/-! ## What the map's entries read as after a write (R163) -/

theorem State.writeGranule_alloc (s : State) (g h : Fin 128) (v : Granule) :
    (s.writeGranule g v).map.alloc[h] = if h = g then v else s.map.alloc[h] := by
  simp [Vector.getElem_set, Fin.ext_iff, eq_comm]

theorem State.setAux_aux_self (s : State) (e : Fin 32) (x : FileAux) : (s.setAux e x).aux e = x := by
  simp [State.setAux, State.aux]

/-! ## Records that leave the queue (R168) -/

theorem State.dequeue_store (s : State) (gone : QRecord → Bool) :
    (s.dequeue gone).store = { s.store with queue := s.store.queue.filter fun r => !gone r } := by
  unfold State.dequeue; simp only; split <;> rfl

theorem State.dequeue_map (s : State) (gone : QRecord → Bool) : (s.dequeue gone).map = s.map := by
  unfold State.dequeue; simp only; split <;> rfl

/-! ## Drops (R168) -/

/-- R168: the gap flag that a dropped record leaves its file, or the flag due. -/
def State.leaveGap (s : State) (r : QRecord) : State :=
  match r.bound with
  | .file e =>
    if (s.dir e).state = .empty then s.setAux e { s.aux e with gapDue := true }
    else if (s.dir e).gap then s
    else s.writeDir e { s.dir e with gap := true }
  | .next => { s with store := { s.store with nextGapDue := true } }
  | .unopened => s

theorem State.dropRecord_eq (s : State) (r : QRecord) : s.dropRecord r =
    ((s.leaveGap r).countStore fun c => { c with queueDrops := up16 c.queueDrops }).ask (.raise .journalGap 255) := rfl

/-- R168: a gap flag asks for nothing, counts nothing and leaves the queue. -/
theorem State.leaveGap_frame (s : State) (r : QRecord) : (s.leaveGap r).agenda = s.agenda ∧
    (s.leaveGap r).store.counters = s.store.counters ∧ (s.leaveGap r).store.queue = s.store.queue := by
  unfold State.leaveGap; repeat' split
  all_goals exact ⟨rfl, rfl, rfl⟩

/-- R168: a file that is written takes the flag. -/
theorem State.leaveGap_written {r : QRecord} {e : Fin 32} (h : r.bound = .file e) (k : (s.dir e).state ≠ .empty) :
    (s.leaveGap r).dir e = { s.dir e with gap := true } := by
  unfold State.leaveGap
  rw [h]
  simp only [if_neg k]
  split
  · rename_i gap
    rw [← gap]
  · exact s.writeDir_dir_self e _

/-- R168: for a file that is not written yet the flag is due. -/
theorem State.leaveGap_unwritten {r : QRecord} {e : Fin 32} (h : r.bound = .file e) (k : (s.dir e).state = .empty) :
    (s.leaveGap r).aux e = { s.aux e with gapDue := true } := by
  unfold State.leaveGap
  rw [h]
  simp only [if_pos k]
  exact s.setAux_aux_self e _

theorem State.leaveGap_next {r : QRecord} (h : r.bound = .next) : (s.leaveGap r).store.nextGapDue = true := by
  unfold State.leaveGap; rw [h]

theorem State.leaveGap_unopened {r : QRecord} (h : r.bound = .unopened) : s.leaveGap r = s := by
  unfold State.leaveGap; rw [h]

/-- R168: what a drop does: the flag of its file, the count, the request. -/
theorem State.dropRecord_drops (s : State) (r : QRecord) :
    (s.dropRecord r).agenda = s.agenda ++ [.raise .journalGap 255] ∧
    (s.dropRecord r).store.counters = { s.store.counters with queueDrops := up16 s.store.counters.queueDrops } ∧
    (s.dropRecord r).store.queue = s.store.queue ∧
    (∀ e, r.bound = .file e → (s.dir e).state ≠ .empty → (s.dropRecord r).dir e = { s.dir e with gap := true }) ∧
    (∀ e, r.bound = .file e → (s.dir e).state = .empty → (s.dropRecord r).aux e = { s.aux e with gapDue := true }) ∧
    (r.bound = .next → (s.dropRecord r).store.nextGapDue = true) ∧
    (r.bound = .unopened → (s.dropRecord r).map = s.map ∧ (s.dropRecord r).store.nextGapDue = s.store.nextGapDue) := by
  obtain ⟨agenda, counters, queue⟩ := s.leaveGap_frame r
  refine ⟨congrArg (· ++ _) agenda, ?_, queue, fun e h k => State.leaveGap_written h k, fun e h k => State.leaveGap_unwritten h k,
    State.leaveGap_next, fun h => ?_⟩
  · exact congrArg (fun c : StoreCounters => { c with queueDrops := up16 c.queueDrops }) counters
  · rw [State.dropRecord_eq, State.leaveGap_unopened h]
    exact ⟨rfl, rfl⟩

/-! ## Programs (R169) -/

/-- R169: the entry of a file after a program that passed, field by field. -/
theorem DirEntry.programmed_eq (d : DirEntry) (op : ProgramOp) : d.programmed op = { d with
    page := if 256 ≤ op.byte + op.size then op.page + 1 else op.page
    byte := if 256 ≤ op.byte + op.size then 0 else op.byte + op.size
    records := min 65535 (d.records + op.records.length)
    restartMark := d.restartMark || op.records.any fun r => r.type == .restart
    saturated := d.saturated || op.records.any fun r => r.saturated } := by
  unfold DirEntry.programmed advance nextPosition
  split <;> rfl

/-- R169: what a program that passes writes in the map, and which records leave the queue. -/
theorem State.programPasses_writes (s : State) (op : ProgramOp) :
    (s.programPasses op).dir op.file = (s.dir op.file).programmed op ∧
      (∀ f, f ≠ op.file → (s.programPasses op).dir f = s.dir f) ∧ (s.programPasses op).map.alloc = s.map.alloc ∧
      ∀ r, r ∈ (s.programPasses op).store.queue ↔ r ∈ s.store.queue ∧ ∀ q ∈ op.records, q.seq ≠ r.seq := by
  unfold State.programPasses
  simp only [State.dir, State.dequeue_map, State.dequeue_store]
  refine ⟨State.writeDir_dir_self _ _ _, fun f h => State.writeDir_dir_ne _ _ _ _ h, rfl, fun r => ?_⟩
  simp [ProgramOp.carried]

/-- Between two states the allocation table and the write positions and record counts of the files stay. -/
structure State.KeepsFiles (s t : State) : Prop where
  alloc : t.map.alloc = s.map.alloc
  entry : ∀ f, ∃ gap, t.dir f = { s.dir f with gap := gap }

theorem State.KeepsFiles.of_map (h : t.map = s.map) : s.KeepsFiles t :=
  ⟨by rw [h], fun f => ⟨(s.dir f).gap, by rw [State.dir, h]; rfl⟩⟩

theorem State.KeepsFiles.trans {u : State} (h : s.KeepsFiles t) (k : t.KeepsFiles u) : s.KeepsFiles u := by
  refine ⟨k.alloc.trans h.alloc, fun f => ?_⟩
  obtain ⟨_, first⟩ := h.entry f
  obtain ⟨gap, second⟩ := k.entry f
  exact ⟨gap, by rw [second, first]⟩

/-- R168: a drop changes no more of the files than gap flags. -/
theorem State.dropRecord_keepsFiles (s : State) (r : QRecord) : s.KeepsFiles (s.dropRecord r) := by
  refine .trans (t := s.leaveGap r) ?_ (.of_map rfl)
  unfold State.leaveGap; repeat' split
  · exact .of_map rfl
  · exact .of_map rfl
  · rename_i e _ _ _
    refine ⟨rfl, fun f => ?_⟩
    by_cases h : f = e
    · exact ⟨true, by rw [h, State.writeDir_dir_self]⟩
    · exact ⟨(s.dir f).gap, s.writeDir_dir_ne e f _ h⟩
  · exact .of_map rfl
  · exact .of_map rfl

/-- R169: a program that fails skips its page, and no more of the files changes than gap flags. -/
theorem State.programFails_writes (s : State) (op : ProgramOp) : (s.programFails op).map.alloc = s.map.alloc ∧
    ∃ gap, (s.programFails op).dir op.file = { s.dir op.file with page := op.page + 1, byte := 0, gap := gap } := by
  unfold State.programFails
  extract_lets s1 d s2 q st s3
  have drops (l : List QRecord) : s2.KeepsFiles (l.foldl (fun t r => (t.dequeue fun x => x.seq == r.seq).dropRecord r) s3) :=
    List.foldlRecOn (motive := s2.KeepsFiles) l _ (.of_map rfl) fun t kept r _ =>
      kept.trans (.trans (.of_map (t.dequeue_map _)) (State.dropRecord_keepsFiles _ r))
  obtain ⟨alloc, entries⟩ := drops (q.filter fun r => decide (2 ≤ r.fails))
  obtain ⟨gap, entry⟩ := entries op.file
  rw [State.writeDir_dir_self] at entry
  exact ⟨alloc, gap, entry⟩

/-! ## Links (R170) -/

/-- R170: the first granule of a file: the map is written twice. -/
theorem State.linkGranule_first {e : Fin 32} (g : Fin 128) (h : (s.dir e).last = none) : s.linkGranule e g =
    ((s.writeGranule g (.last 1)).writeDir e
        { s.dir e with last := some g, first := some ((s.dir e).first.getD g) }).countStore
      fun c => { c with links := up16 c.links } := by
  simp only [State.linkGranule, h]

/-- R170: a granule is joined to the end of a chain: the map is written three times. -/
theorem State.linkGranule_next {e : Fin 32} {l : Fin 128} (g : Fin 128) (h : (s.dir e).last = some l) : s.linkGranule e g =
    (((s.writeGranule g (.last 1)).writeGranule l (.next g)).writeDir e
        { s.dir e with last := some g, first := some ((s.dir e).first.getD g) }).countStore
      fun c => { c with links := up16 c.links } := by
  simp only [State.linkGranule, h]

/-- R170: what a link writes in the map, in order. -/
theorem State.linkGranule_writes (s : State) (e : Fin 32) (g : Fin 128) (fresh : (s.dir e).last ≠ some g) :
    (s.linkGranule e g).map.alloc[g] = .last 1 ∧
    (∀ l, (s.dir e).last = some l → (s.linkGranule e g).map.alloc[l] = .next g ∧ (s.linkGranule e g).mapLog =
      [.dir e (s.dir e), .granule l s.map.alloc[l], .granule g s.map.alloc[g]] ++ s.mapLog) ∧
    (∀ h, h ≠ g → (s.dir e).last ≠ some h → (s.linkGranule e g).map.alloc[h] = s.map.alloc[h]) ∧
    (s.linkGranule e g).dir e = { s.dir e with last := some g, first := some ((s.dir e).first.getD g) } ∧
    (∀ f, f ≠ e → (s.linkGranule e g).dir f = s.dir f) := by
  cases last : (s.dir e).last with
  | none =>
    rw [State.linkGranule_first g last]
    let s1 := s.writeGranule g (.last 1)
    refine ⟨?_, nofun, fun h hg _ => ?_, s1.writeDir_dir_self e _, fun f hf => s1.writeDir_dir_ne e f _ hf⟩
    · exact (s.writeGranule_alloc g g _).trans (if_pos rfl)
    · exact (s.writeGranule_alloc g h _).trans (if_neg hg)
  | some l =>
    rw [State.linkGranule_next g last]
    let s1 := s.writeGranule g (.last 1)
    let s2 := s1.writeGranule l (.next g)
    have apart : g ≠ l := fun same => fresh (by rw [last, same])
    refine ⟨?_, fun k hk => ?_, fun h hg hl => ?_, s2.writeDir_dir_self e _, fun f hf => s2.writeDir_dir_ne e f _ hf⟩
    · exact (s1.writeGranule_alloc l g _).trans ((if_neg apart).trans ((s.writeGranule_alloc g g _).trans (if_pos rfl)))
    · cases hk
      have old : s1.map.alloc[l] = s.map.alloc[l] := (s.writeGranule_alloc g l _).trans (if_neg apart.symm)
      refine ⟨(s1.writeGranule_alloc l l _).trans (if_pos rfl), ?_⟩
      rw [← old]; rfl
    · have other : h ≠ l := fun same => hl (by rw [same])
      exact (s1.writeGranule_alloc l h _).trans ((if_neg other).trans ((s.writeGranule_alloc g h _).trans (if_neg hg)))

/-! ## Erases and reclaims (R171, R173) -/

theorem State.clearStoreFull_map (s : State) : s.clearStoreFull.map = s.map := by
  unfold State.clearStoreFull; split <;> rfl

theorem State.clearStoreFull_store (s : State) : s.clearStoreFull.store = s.store := by
  unfold State.clearStoreFull; split <;> rfl

theorem State.erasePasses_map (s : State) (g : Fin 128) :
    (s.erasePasses g).map = { s.map with alloc := s.map.alloc.set g .free } := State.clearStoreFull_map _

/-- R171: granules are written ERASING one by one. -/
def State.eraseAll (s : State) (l : List (Fin 128)) : State := l.foldl (fun t g => t.writeGranule g .erasing) s

/-- R171: granules written ERASING: nothing else of the map changes. -/
theorem State.eraseAll_map (l : List (Fin 128)) (s : State) : (s.eraseAll l).map.dir = s.map.dir ∧
    ∀ g : Fin 128, (s.eraseAll l).map.alloc[g] = if g ∈ l then .erasing else s.map.alloc[g] := by
  induction l generalizing s with
  | nil => exact ⟨rfl, fun g => (if_neg List.not_mem_nil).symm⟩
  | cons h l ih =>
    obtain ⟨dir, alloc⟩ := ih (s.writeGranule h .erasing)
    refine ⟨dir, fun g => (alloc g).trans ?_⟩
    rw [State.writeGranule_alloc]
    by_cases first : g = h <;> by_cases later : g ∈ l <;> simp [first, later]

/-- R171: granules written ERASING leave the store, the requests, the alarms and the configuration. -/
theorem State.eraseAll_frame (l : List (Fin 128)) (s : State) : (s.eraseAll l).store = s.store ∧
    (s.eraseAll l).agenda = s.agenda ∧ (s.eraseAll l).alarms = s.alarms ∧ (s.eraseAll l).cfg = s.cfg := by
  induction l generalizing s with
  | nil => exact ⟨rfl, rfl, rfl, rfl⟩
  | cons h l ih => exact ih (s.writeGranule h .erasing)

theorem State.willStand_congr (agenda : t.agenda = s.agenda) (alarms : t.alarms = s.alarms) (cfg : t.cfg = s.cfg) (c : AlarmCode) :
    t.willStand c = s.willStand c := by
  simp only [State.willStand, State.stands, State.findAlarm, State.ownNumber, agenda, alarms, cfg]

/-- R130: with no request sent an alarm will stand where it stands. -/
theorem State.willStand_quiet (h : s.agenda = []) (c : AlarmCode) : s.willStand c = s.stands c 255 := by
  unfold State.willStand; rw [h]; rfl

/-- R130: an alarm whose raise was sent last will stand. -/
theorem State.willStand_raised {c : AlarmCode} (h : s.agenda.getLast? = some (.raise c 255)) : s.willStand c = true := by
  obtain ⟨front, sent⟩ := List.getLast?_eq_some_iff.1 h
  simp [State.willStand, sent]

/-- R171: a reclaim before the clear of STORE FULL: the entry and the chain are written, the reclaim is counted. -/
def State.emptied (s : State) (e : Fin 32) : State :=
  let s1 := ((s.writeDir e {}).eraseAll (s.map.chain (s.dir e))).countStore fun c => { c with reclaims := up16 c.reclaims }
  { s1 with port := { s1.port with
    window := s1.port.window.map fun (w : ReadWindow) => if w.entry = e then { w with dead := true } else w } }

theorem State.reclaimFile_eq (s : State) (e : Fin 32) : s.reclaimFile e = (s.emptied e).clearStoreFull := rfl

/-- R171: what a reclaim writes in the map and counts. -/
theorem State.reclaimFile_writes (s : State) (e : Fin 32) :
    (s.reclaimFile e).dir e = {} ∧ (∀ f, f ≠ e → (s.reclaimFile e).dir f = s.dir f) ∧
    (∀ g : Fin 128, (s.reclaimFile e).map.alloc[g] = if g ∈ s.map.chain (s.dir e) then .erasing else s.map.alloc[g]) ∧
    (s.reclaimFile e).store.counters.reclaims = up16 s.store.counters.reclaims := by
  rw [State.reclaimFile_eq, State.clearStoreFull_store]
  simp only [State.dir, State.clearStoreFull_map]
  obtain ⟨dir, alloc⟩ := State.eraseAll_map (s.map.chain (s.dir e)) (s.writeDir e {})
  obtain ⟨store, -⟩ := State.eraseAll_frame (s.map.chain (s.dir e)) (s.writeDir e {})
  have entry (f : Fin 32) : (s.emptied e).map.dir[f] = (s.writeDir e {}).dir f := congrArg (fun v : Vector DirEntry 32 => v[f]) dir
  refine ⟨(entry e).trans (s.writeDir_dir_self e _), fun f h => (entry f).trans (s.writeDir_dir_ne e f _ h), alloc, ?_⟩
  exact congrArg (fun x : Store => up16 x.counters.reclaims) store

/-- R173: a reclaim asks for the clear of STORE FULL where that alarm will stand. -/
theorem State.reclaimFile_agenda (s : State) (e : Fin 32) :
    (s.reclaimFile e).agenda = if s.willStand .storeFull then s.agenda ++ [.clear .storeFull 255] else s.agenda := by
  obtain ⟨-, agenda, alarms, cfg⟩ := State.eraseAll_frame (s.map.chain (s.dir e)) (s.writeDir e {})
  have same : (s.emptied e).willStand .storeFull = s.willStand .storeFull := State.willStand_congr agenda alarms cfg _
  rw [State.reclaimFile_eq, State.clearStoreFull, same]
  split
  · exact congrArg (· ++ _) agenda
  · exact agenda

end

end Sys2Proof.Machine
end

section
/-! PROOFS. The retention fence, and the file steps: which is written next and what it writes (R165, R167, R171). -/

namespace Sys2Proof.Machine

section
variable {s t : State}

/-! ## The retention fence (R171) -/

theorem mem_entryList (e : Fin 32) : e ∈ entryList := List.mem_finRange e

theorem countP_entryList (p : Fin 32 → Bool) : entryList.countP p = (Finset.univ.filter fun f => p f = true).card := by
  rw [List.countP_eq_length_filter, Finset.card, Finset.filter, Fin.univ_def]
  simp [entryList]

theorem State.oldest_eq_none {l : List (Fin 32)} : s.oldest l = none ↔ l = [] := by
  refine ⟨fun h => ?_, fun h => h ▸ rfl⟩
  cases l with
  | nil => rfl
  | cons e l =>
    unfold State.oldest at h
    repeat' split at h
    all_goals cases h

/-- R171: the entry of least close sequence number among some. -/
theorem State.oldest_least {l : List (Fin 32)} {e : Fin 32} (h : s.oldest l = some e) :
    e ∈ l ∧ ∀ f ∈ l, (s.dir e).closeSeq ≤ (s.dir f).closeSeq := by
  induction l generalizing e with
  | nil => cases h
  | cons a l ih =>
    unfold State.oldest at h
    split at h
    · rename_i none
      cases h
      rw [State.oldest_eq_none.1 none]
      exact ⟨List.mem_cons_self, List.forall_mem_singleton.2 le_rfl⟩
    · rename_i f found
      obtain ⟨mem, least⟩ := ih found
      split at h <;> cases h <;> rename_i order
      · exact ⟨List.mem_cons_self, List.forall_mem_cons.2 ⟨le_rfl, fun g hg => order.trans (least g hg)⟩⟩
      · exact ⟨List.mem_cons_of_mem _ mem, List.forall_mem_cons.2 ⟨by omega, least⟩⟩

/-- R171: a file outside the fence. -/
theorem State.reclaimable_iff {g : Cfg} {e : Fin 32} (h : s.cfg = some g) : s.reclaimable e = true ↔
    (s.dir e).state = .closed ∧ (s.aux e).reserved = false ∧ (s.aux e).steps = [] ∧
      g.retain ≤ (Finset.univ.filter fun f : Fin 32 =>
        (s.dir f).state = .closed ∧ (s.dir e).closeSeq < (s.dir f).closeSeq).card := by
  unfold State.reclaimable
  rw [h]
  simp [countP_entryList, and_assoc]

/-- R171: the file that is reclaimed. -/
theorem State.reclaim_takes (h : s.reclaim = some t) : ∃ e, t = s.reclaimFile e ∧ s.reclaimable e = true ∧
    ∀ f, s.reclaimable f = true → (s.dir e).closeSeq ≤ (s.dir f).closeSeq := by
  obtain ⟨e, found, rfl⟩ := Option.map_eq_some_iff.1 h
  obtain ⟨mem, least⟩ := State.oldest_least found
  exact ⟨e, rfl, (List.mem_filter.1 mem).2, fun f hf => least f (List.mem_filter.2 ⟨mem_entryList f, hf⟩)⟩

theorem State.reclaimable_closed {e : Fin 32} (h : s.reclaimable e = true) : (s.dir e).state = .closed := by
  simp only [State.reclaimable, Bool.and_eq_true, beq_iff_eq] at h
  exact h.1.1.1

/-! ## The conditions of a step (R167) -/

theorem State.otherIn_eq_false {e : Fin 32} {st : FileState} :
    s.otherIn e st = false ↔ ∀ f, f ≠ e → (s.dir f).state ≠ st := by
  simp [State.otherIn, mem_entryList]

theorem State.stillQueued_eq_false {e : Fin 32} {n : Nat} :
    s.stillQueued e n = false ↔ ∀ r ∈ s.store.queue, r.bound = .file e → n ≤ r.seq := by
  simp [State.stillQueued]

theorem State.stepAllowed_opened {e : Fin 32} {n : Serial} {k : Nat} :
    s.stepAllowed e (.opened n, k) = true ↔ ∀ f, f ≠ e → (s.dir f).state ≠ .opened := by
  rw [← State.otherIn_eq_false]
  simp [State.stepAllowed]

theorem State.stepAllowed_collating {e : Fin 32} {k : Nat} : s.stepAllowed e (.collating, k) = true ↔
    (∀ r ∈ s.store.queue, r.bound = .file e → k ≤ r.seq) ∧ ∀ f, f ≠ e → (s.dir f).state ≠ .collating := by
  rw [← State.otherIn_eq_false, ← State.stillQueued_eq_false]
  simp [State.stepAllowed]

theorem State.stepAllowed_closed {e : Fin 32} {cut : Bool} {k : Nat} :
    s.stepAllowed e (.closed cut, k) = true ↔ ∀ r ∈ s.store.queue, r.bound = .file e → k ≤ r.seq := by
  rw [← State.stillQueued_eq_false]
  simp [State.stepAllowed]

/-! ## What a step writes (R167) -/

/-- The greatest of some close sequence numbers and a bound. -/
theorem foldl_max_closeSeq (s : State) (l : List (Fin 32)) (n : Nat) :
    n ≤ l.foldl (fun n e => max n (s.dir e).closeSeq) n ∧
      (∀ e ∈ l, (s.dir e).closeSeq ≤ l.foldl (fun n e => max n (s.dir e).closeSeq) n) ∧
      (l.foldl (fun n e => max n (s.dir e).closeSeq) n = n ∨
        ∃ e ∈ l, l.foldl (fun n e => max n (s.dir e).closeSeq) n = (s.dir e).closeSeq) := by
  induction l generalizing n with
  | nil => exact ⟨le_rfl, nofun, .inl rfl⟩
  | cons e l ih =>
    obtain ⟨bound, greatest, attained⟩ := ih (max n (s.dir e).closeSeq)
    refine ⟨(le_max_left _ _).trans bound, List.forall_mem_cons.2 ⟨(le_max_right _ _).trans bound, greatest⟩, ?_⟩
    rw [List.foldl_cons]
    rcases attained with first | ⟨f, mem, later⟩
    · rw [first]
      rcases max_choice n (s.dir e).closeSeq with old | new
      · exact .inl old
      · exact .inr ⟨e, List.mem_cons_self, new⟩
    · exact .inr ⟨f, List.mem_cons_of_mem _ mem, later⟩

theorem State.closeSeq_le_greatestClose (s : State) (e : Fin 32) : (s.dir e).closeSeq ≤ s.greatestClose :=
  (foldl_max_closeSeq s entryList 0).2.1 e (mem_entryList e)

/-- R167: the greatest close sequence number is that of an entry; 0 where none has one. -/
theorem State.greatestClose_attained (s : State) : ∃ e, s.greatestClose = (s.dir e).closeSeq := by
  rcases (foldl_max_closeSeq s entryList 0).2.2 with zero | ⟨e, -, same⟩
  · refine ⟨0, ?_⟩
    have least := s.closeSeq_le_greatestClose 0
    have none : s.greatestClose = 0 := zero
    omega
  · exact ⟨e, same⟩

theorem State.writeStep_opened (s : State) (e : Fin 32) (n : Serial) : (s.writeStep e (.opened n)).dir e =
    { state := .opened, shift := n, openedTime := s.seconds, gap := (s.aux e).gapDue } := State.writeDir_dir_self s e _

theorem State.writeStep_collating (s : State) (e : Fin 32) :
    (s.writeStep e .collating).dir e = { s.dir e with state := .collating } := State.writeDir_dir_self s e _

theorem State.writeStep_closed (s : State) (e : Fin 32) (cut : Bool) : (s.writeStep e (.closed cut)).dir e =
    { s.dir e with state := .closed, closeSeq := s.greatestClose + 1, closedTime := s.seconds, cut := cut } :=
  State.writeDir_dir_self s e _

theorem State.writeStep_dir_ne (s : State) {e f : Fin 32} (st : FileStep) (h : f ≠ e) : (s.writeStep e st).dir f = s.dir f := by
  cases st <;> exact s.writeDir_dir_ne e f _ h

/-- R167: a step that is written is no longer pending, and the steps after it stay. -/
theorem State.takeStep_steps (s : State) (e : Fin 32) (st : FileStep) :
    ((s.takeStep e st).aux e).steps = (s.aux e).steps.drop 1 := by
  cases st <;> simp [State.takeStep, State.writeStep, State.aux, State.setAux]

/-! ## The step that is written next (R167) -/

/-- R167: no step is written where no first pending step of the entries looked at is allowed. -/
theorem State.nextStep_eq_none {l : List (Fin 32)} : s.nextStep l = none ↔
    ∀ e ∈ l, ∀ x rest, (s.aux e).steps = x :: rest → s.stepAllowed e x = false := by
  induction l with
  | nil => simp [State.nextStep]
  | cons e l ih =>
    rw [List.forall_mem_cons, ← ih, State.nextStep]
    split
    · rename_i pending
      simp [pending]
    · rename_i st rest pending
      split
      · rename_i allowed
        simp [pending, allowed]
      · rename_i refused
        simp [pending, refused]

theorem earlierStep_le (x y : Fin 32 × FileStep × Nat) :
    (earlierStep x (some y)).2.2 ≤ x.2.2 ∧ (earlierStep x (some y)).2.2 ≤ y.2.2 := by
  simp only [earlierStep]
  split <;> omega

/-- R167: the step that is written next was requested first of those allowed. -/
theorem State.nextStep_first {l : List (Fin 32)} {x : Fin 32 × FileStep × Nat} (h : s.nextStep l = some x) :
    ∀ f ∈ l, ∀ y rest, (s.aux f).steps = y :: rest → s.stepAllowed f y = true → x.2.2 ≤ y.2 := by
  induction l generalizing x with
  | nil => cases h
  | cons e l ih =>
    rw [List.forall_mem_cons]
    rw [State.nextStep] at h
    split at h
    · rename_i pending
      exact ⟨by simp [pending], ih h⟩
    · rename_i st rest pending
      split at h
      · cases h
        cases later : s.nextStep l with
        | none =>
          have refused := State.nextStep_eq_none.1 later
          refine ⟨fun y more first _ => ?_, fun f mem y more first allowed => ?_⟩
          · cases pending.symm.trans first
            exact le_rfl
          · exact absurd (allowed.symm.trans (refused f mem y more first)) (by decide)
        | some y =>
          have least := ih later
          have order := earlierStep_le (e, st) y
          refine ⟨fun z more first _ => ?_, fun f mem z more first allowed => ?_⟩
          · cases pending.symm.trans first
            exact order.1
          · exact order.2.trans (least f mem z more first allowed)
      · rename_i refused
        refine ⟨fun z more first allowed => ?_, ih h⟩
        cases pending.symm.trans first
        exact absurd allowed refused

theorem State.stepOnce_eq_none : s.stepOnce = none ↔
    ∀ e x rest, (s.aux e).steps = x :: rest → s.stepAllowed e x = false := by
  have none : s.stepOnce = none ↔ s.nextStep entryList = none := by
    unfold State.stepOnce; split <;> simp [*]
  rw [none, State.nextStep_eq_none]
  exact ⟨fun h e => h e (mem_entryList e), fun h e _ => h e⟩

/-- R167: the step that is written is an entry's first pending step, allowed, and the one of those that was requested first. -/
theorem State.stepOnce_takes (h : s.stepOnce = some t) : ∃ e st n rest, (s.aux e).steps = (st, n) :: rest ∧
    s.stepAllowed e (st, n) = true ∧ t = s.takeStep e st ∧
    ∀ f x more, (s.aux f).steps = x :: more → s.stepAllowed f x = true → n ≤ x.2 := by
  unfold State.stepOnce at h
  split at h
  · cases h
  · rename_i x next
    cases h
    obtain ⟨-, ⟨rest, pending⟩, allowed⟩ := State.nextStep_spec next
    exact ⟨x.1, x.2.1, x.2.2, rest, pending, allowed, rfl, fun f => State.nextStep_first next f (mem_entryList f)⟩

end

/-- Settles O16: each clause by what its operation writes in the map and the queue. -/
theorem recordsSumToZero : Obligations.RecordsSumToZero := by
  refine ⟨fun base r => ⟨r.bytes_sum base, r.bytes_length base, rfl⟩, fun s op => ⟨?_, ?_⟩,
    fun s e g fresh => s.linkGranule_writes e g fresh, fun s g => ⟨s.erasePasses_map g, rfl⟩, fun s e => ?_,
    fun s t taken => ?_, fun s g e cfg => State.reclaimable_iff cfg, fun s e n k cut => ?_,
    fun s => ⟨State.stepOnce_eq_none, fun t => State.stepOnce_takes⟩, fun s r => s.dropRecord_drops r⟩
  · rw [← DirEntry.programmed_eq]
    exact s.programPasses_writes op
  · obtain ⟨alloc, gap, entry⟩ := s.programFails_writes op
    rw [entry]
    exact ⟨alloc, rfl, rfl, rfl⟩
  · obtain ⟨entry, others, alloc, counted⟩ := s.reclaimFile_writes e
    refine ⟨entry, others, alloc, counted, fun quiet => ?_, fun raised => ?_⟩
    · rw [s.reclaimFile_agenda e, State.willStand_quiet quiet, quiet]; rfl
    · rw [s.reclaimFile_agenda e, State.willStand_raised raised]; rfl
  · obtain ⟨e, same, fence, least⟩ := State.reclaim_takes taken
    exact ⟨e, same, fence, State.reclaimable_closed fence, least⟩
  · have closed := s.writeStep_closed e cut
    refine ⟨State.stepAllowed_opened, State.stepAllowed_collating, State.stepAllowed_closed, s.writeStep_opened e n,
      s.writeStep_collating e, ?_, fun f => ?_, ?_, fun f st h => s.writeStep_dir_ne st h, fun st => s.takeStep_steps e st⟩
    · rw [closed]
    · rw [closed]
      exact Nat.lt_succ_of_le (s.closeSeq_le_greatestClose f)
    · obtain ⟨f, greatest⟩ := s.greatestClose_attained
      exact ⟨f, by rw [closed, ← greatest]⟩

end Sys2Proof.Machine
end

section
/-! PROOFS. Every command but the starts, RESET and a loss of supply is an event, which a part without supply or in RESET does not
take (R176), and no event changes the accepted configuration or the strap (R177, R178). -/

namespace Sys2Proof.Machine

/-- R176: the commands that start and stop the part. -/
def Instr.startsOrStops : Instr → Bool
  | .powerOnStart _ | .resetAsserted | .lineRestart _ | .supplyFailure _ => true
  | _ => false

/-- A command is an event, and its meaning keeps what is kept from start to start. -/
def IsEvent (c : Instr) : Prop :=
  ∃ f : State → State, (∀ s, exec c s = .next (s.takeEvent f)) ∧ ∀ t : State, (f t).kept = t.kept

/-- An event that leaves the memories alone. -/
theorem isEvent_of_keptNv {c : Instr} {f : State → State} (hc : ∀ s, exec c s = .next (s.takeEvent f))
    (h : ∀ t : State, (f t).keptNv = t.keptNv) : IsEvent c := ⟨f, hc, fun t => kept_of_keptNv (h t)⟩

/-- An event of the slots, the outputs or the alarm unit. -/
theorem isEvent_of_still {c : Instr} {f : State → State} (hc : ∀ s, exec c s = .next (s.takeEvent f))
    (h : ∀ t : State, (f t).still = t.still) : IsEvent c := ⟨f, hc, fun t => kept_of_still (h t)⟩

/-- A completion of the store engine. -/
theorem isEvent_of_sound {c : Instr} {f : State → State} (hc : ∀ s, exec c s = .next (s.takeEvent f))
    (h : ∀ t : State, t.sound (f t)) : IsEvent c := ⟨f, hc, fun t => (h t).1⟩

/-! ### Events that fork -/

theorem isEvent_duplicateTimerExpiry : IsEvent .duplicateTimerExpiry :=
  isEvent_of_keptNv (fun _ => rfl) fun t => by split <;> rfl

theorem isEvent_silenceTimerExpiry : IsEvent .silenceTimerExpiry :=
  isEvent_of_keptNv (fun _ => rfl) fun t => by
    split
    · rfl
    · exact (State.setSilence_keptNv _).trans rfl

theorem isEvent_staleTimeExpiry (n ch : Nat) : IsEvent (.staleTimeExpiry n ch) :=
  isEvent_of_keptNv (fun _ => rfl) fun t => by
    split
    · split <;> rfl
    · rfl

theorem isEvent_stationAbsent (n : Nat) : IsEvent (.stationAbsent n) :=
  isEvent_of_keptNv (fun _ => rfl) fun t => by
    split
    · rfl
    · split <;> simp

theorem isEvent_take : IsEvent .take :=
  isEvent_of_keptNv (fun _ => rfl) fun t => by
    split
    · rfl
    · split
      · split <;> simp
      · rfl

theorem onCf_keptNv {f : CfSlot → State} (s : State) (i : Fin 4) (h : ∀ c, (f c).keptNv = s.keptNv) :
    (s.onCf i f).keptNv = s.keptNv := by
  unfold State.onCf
  split
  · exact h _
  · rfl

theorem onDi_keptNv {f : DiSlot → State} (s : State) (i : Fin 4) (h : ∀ d, (f d).keptNv = s.keptNv) :
    (s.onDi i f).keptNv = s.keptNv := by
  unfold State.onDi
  split
  · exact h _
  · rfl

theorem isEvent_startTimerExpiry (i : Fin 4) : IsEvent (.startTimerExpiry i) :=
  isEvent_of_keptNv (fun _ => rfl) fun t => onCf_keptNv t i fun c => by
    split
    · rfl
    · split
      · exact (keptNv_of_still (State.cfStop_still _ _ _ _)).trans rfl
      · rfl

theorem isEvent_runPermitEdge (i : Fin 4) (b : Bool) : IsEvent (.runPermitEdge i b) :=
  isEvent_of_keptNv (fun _ => rfl) fun t => by
    split
    · rfl
    extract_lets p u
    have hu : u.keptNv = t.keptNv := rfl
    split
    · rfl
    split
    · rfl
    · exact (keptNv_of_still (u.cfPermitFalls_still i _)).trans hu
    · exact (keptNv_of_still (u.diPermitFalls_still i _)).trans hu
    · exact (keptNv_of_still (u.caPermitFalls_still i _)).trans hu
    · exact (keptNv_of_still (u.cgPermitFalls_still i _)).trans hu

theorem isEvent_initialLevel (line : InputLine) (b : Bool) : IsEvent (.initialLevel line b) :=
  isEvent_of_keptNv (fun _ => rfl) fun t => by
    split
    · rfl
    · split
      case h_2 => exact t.confirm_keptNv _ _ b
      all_goals rfl

theorem isEvent_driveRefreshTimerExpiry : IsEvent .driveRefreshTimerExpiry :=
  isEvent_of_keptNv (fun _ => rfl) fun t => by
    split
    · rfl
    · exact State.kickStream_keptNv _

theorem isEvent_phaseTimerExpiry (i : Fin 4) : IsEvent (.phaseTimerExpiry i) :=
  isEvent_of_keptNv (fun _ => rfl) fun t => onDi_keptNv t i fun d => by
    split
    · rfl
    · exact (keptNv_of_still (State.gateJam_still _ i _)).trans rfl

theorem isEvent_jamClear (i : Fin 4) : IsEvent (.jamClear i) :=
  isEvent_of_still (fun _ => rfl) fun t => onDi_still t i fun d => by split <;> simp

theorem isEvent_divertTimerExpiry (i : Fin 4) : IsEvent (.divertTimerExpiry i) :=
  isEvent_of_keptNv (fun _ => rfl) fun t => onDi_keptNv t i fun d => by split <;> rfl

theorem isEvent_tripLineObserved (b : Bool) : IsEvent (.tripLineObserved b) :=
  isEvent_of_keptNv (execTripLineObserved_eq b) fun t => by
    have trips : (t.takeTrip b).keptNv = t.keptNv := (keptNv_of_still (t.takeTrip_still b)).trans rfl
    split
    · rfl
    · split <;> exact trips

/-! ### Every command -/

/-- R176: every command but those that start and stop the part is an event, which keeps the configuration. -/
theorem isEvent : ∀ c : Instr, Instr.startsOrStops c = false → IsEvent c
  | .listenTimerExpiry, _ => isEvent_of_keptNv (fun _ => rfl) fun t => by split <;> simp
  | .frameReceived b, _ => isEvent_of_keptNv (fun _ => rfl) fun t => t.hearBurst_keptNv b
  | .frameCutShort b, _ => isEvent_of_keptNv (fun _ => rfl) fun t => t.hearBurst_keptNv b
  | .duplicateTimerExpiry, _ => isEvent_duplicateTimerExpiry
  | .silenceTimerExpiry, _ => isEvent_silenceTimerExpiry
  | .quietGap, _ => isEvent_of_keptNv (fun _ => rfl) fun t => t.mediumQuiet_keptNv
  | .backoffSlot, _ => isEvent_of_keptNv (fun _ => rfl) fun t => t.countSlot_keptNv
  | .defer, _ => isEvent_of_keptNv (fun _ => rfl) fun t => t.mediumBusy_keptNv
  | .collision, _ => isEvent_of_keptNv (fun _ => rfl) fun t => by split <;> simp
  | .sentCleanly, _ => isEvent_of_keptNv (fun _ => rfl) fun t => by split <;> simp
  | .staleTimeExpiry n ch, _ => isEvent_staleTimeExpiry n ch
  | .lostTimeExpiry n ch, _ => isEvent_of_keptNv (fun _ => rfl) fun t => by split <;> simp
  | .lossHoldExpiry, _ => isEvent_of_keptNv (fun _ => rfl) fun t => by split <;> rfl
  | .stationAbsent n, _ => isEvent_stationAbsent n
  | .take, _ => isEvent_take
  | .refreshTimerExpiry, _ => isEvent_of_keptNv (fun _ => rfl) fun t => by split <;> simp
  | .controlUpdate, _ => isEvent_of_keptNv (fun _ => rfl) fun t => by split <;> simp
  | .startTimerExpiry i, _ => isEvent_startTimerExpiry i
  | .sampleWord k n b, _ => isEvent_of_keptNv (fun _ => rfl) fun t => t.takeWord_keptNv k n.toNat b
  | .freshTimeExpiry _, _ => isEvent_of_keptNv (fun _ => rfl) fun t => by split <;> rfl
  | .holdTimeExpiry _, _ => isEvent_of_keptNv (fun _ => rfl) fun t => by split <;> simp
  | .runPermitEdge i b, _ => isEvent_runPermitEdge i b
  | .gateConfirmation i w b, _ => isEvent_of_still (fun _ => rfl) fun t => t.confirm_still i w b
  | .phaseTimerExpiry i, _ => isEvent_phaseTimerExpiry i
  | .jamClear i, _ => isEvent_jamClear i
  | .divertTimerExpiry i, _ => isEvent_divertTimerExpiry i
  | .driveWord, _ => isEvent_of_keptNv (fun _ => rfl) fun _ => State.kickStream_keptNv _
  | .driveRefreshTimerExpiry, _ => isEvent_driveRefreshTimerExpiry
  | .tripLineObserved b, _ => isEvent_tripLineObserved b
  | .acknowledge, _ => isEvent_of_still (fun _ => rfl) fun t => t.panelAckAll_still
  | .silence, _ => isEvent_of_keptNv (fun _ => rfl) fun t => by split <;> rfl
  | .shiftTimerExpiry, _ => isEvent_of_keptNv (fun _ => rfl) fun t => by split <;> simp
  | .collationTimerExpiry, _ => isEvent_of_keptNv (fun _ => rfl) fun t => by split <;> simp
  | .programCompletion b, _ => isEvent_of_sound (fun _ => rfl) fun t => programEnds_sound t b
  | .eraseCompletion b, _ => isEvent_of_sound (fun _ => rfl) fun t => eraseEnds_sound t b
  | .status, _ => isEvent_of_keptNv (fun _ => rfl) fun _ => rfl
  | .ident, _ => isEvent_of_keptNv (fun _ => rfl) fun t => t.answer_keptNv _
  | .dirEntry _, _ => isEvent_of_keptNv (fun _ => rfl) fun t => t.answer_keptNv _
  | .pictureEntry _, _ => isEvent_of_keptNv (fun _ => rfl) fun t => t.answer_keptNv _
  | .alarmEntry _, _ => isEvent_of_keptNv (fun _ => rfl) fun t => t.answer_keptNv _
  | .channelView _, _ => isEvent_of_keptNv (fun _ => rfl) fun t => t.answer_keptNv _
  | .window e m o, _ => isEvent_of_keptNv (fun _ => rfl) fun t => t.openWindow_keptNv e m o
  | .stream n, _ => isEvent_of_keptNv (fun _ => rfl) fun t => t.streamUnits_keptNv n
  | .prefetchReadDone, _ => isEvent_of_keptNv (fun _ => rfl) fun t => t.readEnds_keptNv
  | .writeEnable, _ => isEvent_of_keptNv (fun _ => rfl) fun t => t.closeWindow_keptNv
  | .configWrite _ _ _, _ => isEvent_of_keptNv (fun _ => rfl) fun t => t.areaCommand_keptNv _ _
  | .configErase, _ => isEvent_of_keptNv (fun _ => rfl) fun t => t.areaCommand_keptNv _ _
  | .configOperationCompletion b, _ => isEvent_of_sound (fun _ => rfl) fun t => configCompletes_sound t b
  | .otpWrite _ _ _, _ => isEvent_of_keptNv (fun _ => rfl) fun t => t.areaCommand_keptNv _ _
  | .freeze, _ => isEvent_of_keptNv (fun _ => rfl) fun t => t.areaCommand_keptNv _ _
  | .otpProgramCompletion b, _ => isEvent_of_sound (fun _ => rfl) fun t => otpCompletes_sound t b
  | .flush, _ => isEvent_of_keptNv (fun _ => rfl) fun t => t.flushQueue_keptNv
  | .commandDiscarded, _ => isEvent_of_keptNv (fun _ => rfl) fun _ => rfl
  | .unknownCommand _, _ => isEvent_of_keptNv (fun _ => rfl) fun _ => rfl
  | .initialLevel l b, _ => isEvent_initialLevel l b

theorem State.takeEvent_kept (s : State) {f : State → State} (h : ∀ t : State, (f t).kept = t.kept) :
    (s.takeEvent f).kept = s.kept := by
  cases live : s.live
  · rw [State.takeEvent_dead f live]
  · rw [State.takeEvent_live f live]
    exact (kept_of_still (State.settle_still _)).trans (h s.begun)

/-- Settles O3: every command answers a state, whatever it does to the memories. -/
theorem noCommandStops : Obligations.NoCommandStops := fun c s => by
  obtain ⟨t, runs, -⟩ := exec_keepsMemory c s
  exact ⟨t, runs⟩

theorem startsOrStops_iff {c : Instr} : Instr.startsOrStops c = true ↔
    (∃ b, c = .powerOnStart b) ∨ c = .resetAsserted ∨ (∃ b, c = .lineRestart b) ∨ ∃ n, c = .supplyFailure n := by
  cases c <;> simp [Instr.startsOrStops]

/-- Settles O5: RESET does nothing to a part that is not live, and no event is taken there. -/
theorem deadPartTakesNothing : Obligations.DeadPartTakesNothing := by
  intro c s dead power line supply
  cases hc : Instr.startsOrStops c
  · obtain ⟨f, eq, -⟩ := isEvent c hc
    rw [eq, State.takeEvent_dead f dead]
  · obtain ⟨b, h⟩ | rfl | ⟨b, h⟩ | ⟨n, h⟩ := startsOrStops_iff.1 hc
    · exact absurd h (power b)
    · have off : (s.supply && !s.resetHeld) = false := dead
      simp [exec, execResetAsserted, off]
    · exact absurd h (line b)
    · exact absurd h (supply n)

/-- Settles O6: what is left are the events, which keep what is kept from start to start. -/
theorem configurationStands : Obligations.ConfigurationStands := by
  intro c s t run power line supply reset
  have event : Instr.startsOrStops c = false := by
    rw [Bool.eq_false_iff, ne_eq, startsOrStops_iff]
    rintro (⟨b, h⟩ | h | ⟨b, h⟩ | ⟨n, h⟩)
    exacts [power b h, reset h, line b h, supply n h]
  obtain ⟨f, eq, kept⟩ := isEvent c event
  cases (eq s).symm.trans run
  have stands := s.takeEvent_kept kept
  exact ⟨congrArg Kept.cfg stands, congrArg Kept.clampedFields stands, congrArg Kept.strap stands,
    congrArg Kept.supply stands, congrArg Kept.resetHeld stands⟩

end Sys2Proof.Machine
end

section
/-! PROOFS. The service port's read commands, the read window and STREAM (R182, R183). -/

namespace Sys2Proof.Machine

section
variable {s t : State}

/-! ## What the port's commands leave alone -/

/-- Between two states the memories, the floor picture and the measurement stage stay. -/
def State.unmoved (s t : State) : Prop := t.nv = s.nv ∧ t.picture = s.picture ∧ t.fields = s.fields

theorem unmoved_of_parts (memory : t.keptNv = s.keptNv) (outlook : t.outlook = s.outlook) : s.unmoved t :=
  ⟨nv_of_keptNv memory, picture_of_outlook outlook, congrArg Outlook.fields outlook⟩

/-- An event of the port with its requests settled. -/
theorem unmoved_of_settle (memory : t.keptNv = s.begun.keptNv) (outlook : t.outlook = s.begun.outlook) : s.unmoved t.settle :=
  unmoved_of_parts (t.settle_keptNv.trans memory) (t.settle_outlook.trans outlook)

/-! ## The read window (R182) -/

theorem State.closeWindow_none (h : s.port.window = none) : s.closeWindow = s := by
  unfold State.closeWindow
  rw [h]
  rfl

theorem State.closeWindow_window (s : State) : s.closeWindow.port.window = none := by
  obtain ⟨buffer, reading, closed⟩ := s.closeWindow_closed
  exact window_none_of_still closed rfl

theorem window_some_of_still {w : ReadWindow} (h : t.still = s.still) (k : s.port.window = some w) :
    ∃ v, t.port.window = some v ∧ v.entry = w.entry ∧ v.fixed = w.fixed ∧ v.offset = w.offset := by
  have windows : t.still.window = some (w.entry, w.fixed, w.offset) := by rw [h]; simp [State.still, k]
  obtain ⟨v, hv, eq⟩ := Option.map_eq_some_iff.1 windows
  simp only [Prod.mk.injEq] at eq
  exact ⟨v, hv, eq⟩

/-- R182: a read that is started for the buffer is wanted, and nothing else of the still parts changes. -/
theorem State.portKick_reads (s : State) :
    ∃ reading, s.portKick.still = ({ s with port := { s.port with reading := reading } } : State).still := by
  unfold State.portKick
  split
  · exact ⟨s.port.reading, rfl⟩
  · split
    · exact ⟨true, State.runStore_still _⟩
    · exact ⟨s.port.reading, rfl⟩

/-- R182: WINDOW opens its window with an empty buffer. -/
theorem State.openWindow_opens (s : State) (mode : Byte) (offset : BitVec 24) {entry : Byte} (h : entry.toNat < 32)
    (k : mode.toNat ≤ 1) : ∃ reading, (s.openWindow entry mode offset).still = ({ s.closeWindow with
      port := { s.closeWindow.port with
        window := some ⟨⟨entry.toNat, h⟩, mode == 1, offset.toNat, false⟩, buffer := [], reading := reading } } : State).still := by
  unfold State.openWindow
  simp only [dif_pos h, if_pos k]
  exact State.portKick_reads _

theorem State.openWindow_refused (s : State) {entry mode : Byte} (offset : BitVec 24)
    (h : 32 ≤ entry.toNat ∨ 1 < mode.toNat) : s.openWindow entry mode offset = s.closeWindow := by
  unfold State.openWindow
  by_cases low : entry.toNat < 32
  · have high : ¬ mode.toNat ≤ 1 := by omega
    simp only [dif_pos low, if_neg high]
  · simp only [dif_neg low]

theorem State.readEnds_fills {w : ReadWindow} (h : s.port.window = some w) (reading : s.port.reading = true)
    (readable : s.arrayReadable = true) : s.readEnds = State.runStore { s with port := { s.port with
      buffer := s.port.buffer ++ s.fileBytes w (w.offset + s.port.buffer.length)
        ((if w.fixed then 16 else 32) - s.port.buffer.length)
      reading := false } } := by
  unfold State.readEnds
  rw [h]
  simp only [reading, readable, Bool.and_self, if_true]

theorem State.readEnds_waits (h : s.port.reading = false ∨ s.arrayReadable = false) : s.readEnds = s := by
  unfold State.readEnds
  split
  · rfl
  · rcases h with h | h <;> simp [h]

/-- Settles O55: the window and the buffer are still parts, so that what the store then does leaves them as they were set. -/
theorem windowsOpenAndFill : Obligations.WindowsOpenAndFill := by
  refine ⟨fun s entry mode offset calm => ?_, fun s w calm opened => ⟨fun reading readable => ?_, fun waits => ?_⟩⟩
  · obtain ⟨nv, picture, fields⟩ : s.unmoved (s.begun.openWindow entry mode offset).settle :=
      unmoved_of_settle (State.openWindow_keptNv _ _ _ _) (State.openWindow_outlook _ _ _ _)
    refine ⟨_, congrArg Host.Outcome.next (State.takeEvent_live _ calm.1), nv, picture, fields, fun low mode1 => ?_,
      fun high => ?_⟩
    · obtain ⟨reading, opens⟩ := s.begun.openWindow_opens mode offset low mode1
      have still := (State.settle_still _).trans opens
      exact ⟨congrArg Still.buffer still, window_some_of_still still rfl⟩
    · have closed : (s.begun.openWindow entry mode offset).port.window = none := by
        rw [s.begun.openWindow_refused offset high]
        exact s.begun.closeWindow_window
      exact window_none_of_still (State.settle_still _) closed
  · have fills := State.readEnds_fills (s := s.begun) opened reading readable
    have still : s.begun.readEnds.settle.still = _ := (State.settle_still _).trans ((congrArg State.still fills).trans
      (State.runStore_still _))
    obtain ⟨nv, picture, fields⟩ : s.unmoved s.begun.readEnds.settle :=
      unmoved_of_settle (State.readEnds_keptNv _) (State.readEnds_outlook _)
    exact ⟨_, congrArg Host.Outcome.next (State.takeEvent_live _ calm.1), congrArg Still.buffer still,
      congrArg Still.reading still, nv, picture, fields⟩
  · have stays : s.begun.readEnds = s.begun := State.readEnds_waits waits
    exact congrArg Host.Outcome.next ((calm.takeEvent_eq stays).trans (calm.settle_begun rfl))

/-! ## Snapshots (R183) -/

/-- A command that answers with a snapshot, with no window open. -/
theorem exec_answer_windowless {c : Instr} {f : State → List Byte} (calm : s.calm) (closed : s.port.window = none)
    (hc : exec c s = .next (s.takeEvent fun t => t.answer f)) :
    exec c s = .next { s.begun with port := { s.port with response := f s.begun } } := by
  have answers : s.begun.answer f = { s.begun with port := { s.port with response := f s.begun } } := by
    unfold State.answer
    rw [State.closeWindow_none (s := s.begun) closed]
    rfl
  rw [hc]
  exact congrArg Host.Outcome.next ((calm.takeEvent_eq answers).trans (calm.settle_begun rfl))

/-- A command that answers with a snapshot closes the window. -/
theorem exec_answer {c : Instr} {f : State → List Byte} (calm : s.calm)
    (hc : exec c s = .next (s.takeEvent fun t => t.answer f)) :
    ∃ t, exec c s = .next t ∧ t.port.window = none ∧ s.unmoved t :=
  ⟨_, hc.trans (congrArg Host.Outcome.next (State.takeEvent_live _ calm.1)),
    window_none_of_still (State.settle_still _) s.begun.closeWindow_window,
    unmoved_of_settle (State.answer_keptNv _ _) (State.answer_outlook _ _)⟩

/-- The answer to an index beyond a table's entries. -/
theorem exec_answer_beyond {c : Instr} {f : State → List Byte} (calm : s.calm) (closed : s.port.window = none)
    (hc : exec c s = .next (s.takeEvent fun t => t.answer f)) (beyond : f s.begun = [0xEE]) :
    ∃ t, exec c s = .next t ∧ t.port.response = [0xEE] :=
  ⟨_, exec_answer_windowless calm closed hc, beyond⟩

/-- Settles O54: a snapshot is an answer, and an answer closes the window and gives what its table shows. -/
theorem snapshotsChangeNothing : Obligations.SnapshotsChangeNothing := by
  refine ⟨fun s index calm => ⟨?_, fun closed => ?_, fun c read => ?_⟩, fun s index calm closed => ?_⟩
  · exact congrArg Host.Outcome.next (State.takeEvent_calm _ calm calm.2)
  · exact ⟨exec_answer_windowless (f := State.identBytes) calm closed rfl,
      exec_answer_windowless (f := fun t => t.dirResponse index.toNat) calm closed rfl,
      exec_answer_windowless (f := fun t => t.pictureResponse index.toNat) calm closed rfl,
      exec_answer_windowless (f := fun t => t.alarmResponse index.toNat) calm closed rfl,
      exec_answer_windowless (f := fun t => t.channelResponse index.toNat) calm closed rfl⟩
  · rcases read with rfl | rfl | rfl | rfl | rfl
    all_goals exact exec_answer calm rfl
  · refine ⟨fun beyond => exec_answer_beyond calm closed rfl ?_, fun beyond => exec_answer_beyond calm closed rfl ?_,
      fun beyond => exec_answer_beyond calm closed rfl ?_, fun beyond => exec_answer_beyond calm closed rfl ?_⟩
    · exact dif_neg (by omega)
    · have none : s.begun.picture.entries[index.toNat]? = none := List.getElem?_eq_none beyond
      simp only [State.pictureResponse, none, noEntry]
    · have none : s.begun.alarms.all[index.toNat]? = none := List.getElem?_eq_none beyond
      simp only [State.alarmResponse, none, noEntry]
    · exact dif_neg (by omega)

/-! ## STREAM (R182) -/

/-- R182: the unit of a window without bytes to send. -/
def endUnit : List Byte := 0xE0 :: List.replicate 16 0xFF

/-- R182: the unit that carries the bytes of the buffer. -/
def State.readyUnit (s : State) (w : ReadWindow) : List Byte :=
  0x5A :: (s.port.buffer.take (min 16 (s.windowLength w - w.offset)) ++
    List.replicate (16 - min 16 (s.windowLength w - w.offset)) 0xFF)

/-- R182: a window with nothing to send: none is open, or it stands at the end of its file. -/
def State.windowOver (s : State) : Prop := ∀ w, s.port.window = some w → s.windowLength w ≤ w.offset

theorem State.unitBytes_over (h : s.windowOver) : s.unitBytes = endUnit := by
  unfold State.unitBytes
  split
  · rfl
  · exact if_pos (h _ ‹_›)

theorem State.unitDone_over (h : s.windowOver) : s.unitDone = s := by
  unfold State.unitDone
  split
  · rfl
  · exact if_pos (h _ ‹_›)

theorem State.unitCut_over (h : s.windowOver) : s.unitCut = s := by
  unfold State.unitCut
  split
  · rfl
  · exact if_pos (h _ ‹_›)

section
variable {w : ReadWindow}

theorem State.unitBytes_ready (h : s.port.window = some w) (more : w.offset < s.windowLength w)
    (ready : s.unitReady w = true) : s.unitBytes = s.readyUnit w := by
  have held : (s.port.buffer.take (min 16 (s.windowLength w - w.offset))).length =
      min 16 (s.windowLength w - w.offset) := by
    rw [List.length_take]
    exact min_eq_left (of_decide_eq_true ready)
  unfold State.unitBytes
  rw [h]
  simp only [if_neg (Nat.not_le.2 more), if_pos ready, held]
  rfl

theorem State.unitCut_ready (h : s.port.window = some w) (ready : s.unitReady w = true) : s.unitCut = s := by
  unfold State.unitCut
  rw [h]
  simp only [ready, if_true, ite_self]

/-- R182: a READY unit moves the offset past its bytes. -/
theorem State.unitDone_ready (h : s.port.window = some w) (more : w.offset < s.windowLength w)
    (ready : s.unitReady w = true) : ∃ buffer reading, s.unitDone.still = ({ s with port := { s.port with
      window := some { w with offset := w.offset + min 16 (s.windowLength w - w.offset) }
      buffer := buffer, reading := reading } } : State).still := by
  unfold State.unitDone
  rw [h]
  simp only [if_neg (Nat.not_le.2 more), if_pos ready]
  obtain ⟨reading, kicked⟩ := State.portKick_reads { s with port := { s.port with
    window := some { w with offset := w.offset + min 16 (s.windowLength w - w.offset) }
    buffer := if w.fixed then [] else s.port.buffer.drop (min 16 (s.windowLength w - w.offset)) } }
  exact ⟨_, reading, kicked⟩

theorem State.unitBytes_missed (h : s.port.window = some w) (more : w.offset < s.windowLength w)
    (missing : s.unitReady w = false) : s.unitBytes = 0x00 :: List.replicate 16 0xFF := by
  unfold State.unitBytes
  rw [h]
  simp [Nat.not_le.2 more, missing]

theorem State.unitDone_missed (h : s.port.window = some w) (more : w.offset < s.windowLength w)
    (missing : s.unitReady w = false) : s.unitDone = s.unitMissed w := by
  unfold State.unitDone
  rw [h]
  simp [Nat.not_le.2 more, missing]

theorem State.unitCut_missed (h : s.port.window = some w) (more : w.offset < s.windowLength w)
    (missing : s.unitReady w = false) : s.unitCut = s.unitMissed w := by
  unfold State.unitCut
  rw [h]
  simp [Nat.not_le.2 more, missing]

/-- R182: a unit that is not ready waits for a read; in FIXED the read begins the buffer anew. -/
theorem State.unitMissed_reads (s : State) (w : ReadWindow) : (s.unitMissed w).still = ({ s with port := { s.port with
    buffer := if s.port.reading = false ∧ w.fixed = true then [] else s.port.buffer, reading := true } } : State).still := by
  unfold State.unitMissed
  split
  · rename_i reading
    simp [State.still, reading]
  · rename_i idle
    rw [State.runStore_still]
    simp [idle]

end

/-! ### Whole units and cut ones -/

theorem State.unitBytes_length (s : State) : s.unitBytes.length = 17 := by
  unfold State.unitBytes
  split
  · rfl
  · split
    · rfl
    · split
      · simp only [List.length_cons, List.length_append, List.length_replicate, List.length_take]
        omega
      · rfl

theorem State.units_length (n r : Nat) (s : State) (out : List Byte) (h : r < 17) :
    (State.units n r s out).2.length = out.length + (17 * n + r) := by
  induction n generalizing s out with
  | zero =>
    unfold State.units
    split
    · simp_all
    · simp only [List.length_append, List.length_take, s.unitBytes_length]
      omega
  | succ n ih =>
    unfold State.units
    rw [ih, List.length_append, s.unitBytes_length]
    omega

theorem State.streamUnits_length (s : State) (clocked : Nat) : (s.streamUnits clocked).port.response.length = clocked := by
  have whole := State.units_length (clocked / 17) (clocked % 17) s [] (Nat.mod_lt _ (by decide))
  exact whole.trans ((Nat.zero_add _).trans (Nat.div_add_mod clocked 17))

/-- R182: 17 bytes are one whole unit. -/
theorem State.streamUnits_whole (s : State) :
    s.streamUnits 17 = { s.unitDone with port := { s.unitDone.port with response := s.unitBytes } } := rfl

/-- R182: fewer are a unit cut short. -/
theorem State.streamUnits_cut (s : State) {n : Nat} (pos : 0 < n) (h : n < 17) :
    s.streamUnits n = { s.unitCut with port := { s.unitCut.port with response := s.unitBytes.take n } } := by
  unfold State.streamUnits
  rw [Nat.div_eq_of_lt h, Nat.mod_eq_of_lt h]
  unfold State.units
  simp only [Nat.ne_of_gt pos, if_false, List.nil_append]

/-- A unit that is cut short with no effect. -/
theorem State.streamUnits_idle {n : Nat} (h : n < 17) (cut : s.unitCut = s) :
    s.streamUnits n = { s with port := { s.port with response := s.unitBytes.take n } } := by
  rcases Nat.eq_zero_or_pos n with rfl | pos
  · rfl
  · rw [s.streamUnits_cut pos h, cut]

/-- R182: with nothing to send, a unit is END, whole or cut, and has no effect. -/
theorem State.streamUnits_over (h : s.windowOver) {n : Nat} (few : n ≤ 17) :
    s.streamUnits n = { s with port := { s.port with response := endUnit.take n } } := by
  rcases Nat.lt_or_eq_of_le few with cut | rfl
  · rw [State.streamUnits_idle cut (State.unitCut_over h), State.unitBytes_over h]
  · rw [s.streamUnits_whole, State.unitDone_over h, State.unitBytes_over h]
    rfl

/-- R182: a unit that is ready is sent, and the offset moves past its bytes. -/
theorem State.streamUnits_ready {w : ReadWindow} (h : s.port.window = some w) (more : w.offset < s.windowLength w)
    (ready : s.unitReady w = true) : ∃ buffer reading, (s.streamUnits 17).still = ({ s with port := { s.port with
      window := some { w with offset := w.offset + min 16 (s.windowLength w - w.offset) }
      buffer := buffer, reading := reading, response := s.readyUnit w } } : State).still := by
  obtain ⟨buffer, reading, moved⟩ := State.unitDone_ready h more ready
  refine ⟨buffer, reading, (rfl : _ = { s.unitDone.still with response := s.unitBytes }).trans ?_⟩
  rw [moved, State.unitBytes_ready h more ready]
  rfl

/-- R182: a unit that is not ready, whole or cut, begins the read it waits for. -/
theorem State.streamUnits_missed {w : ReadWindow} (h : s.port.window = some w) (more : w.offset < s.windowLength w)
    (missing : s.unitReady w = false) {n : Nat} (pos : 0 < n) (few : n ≤ 17) : (s.streamUnits n).still =
      ({ s with port := { s.port with
        buffer := if s.port.reading = false ∧ w.fixed = true then [] else s.port.buffer
        reading := true, response := ((0x00 : Byte) :: List.replicate 16 0xFF).take n } } : State).still := by
  have misses : s.streamUnits n = { s.unitMissed w with port := { (s.unitMissed w).port with
      response := ((0x00 : Byte) :: List.replicate 16 0xFF).take n } } := by
    rcases Nat.lt_or_eq_of_le few with cut | rfl
    · rw [s.streamUnits_cut pos cut, State.unitCut_missed h more missing, State.unitBytes_missed h more missing]
    · rw [s.streamUnits_whole, State.unitDone_missed h more missing, State.unitBytes_missed h more missing]
      rfl
  have still : (s.streamUnits n).still = { (s.unitMissed w).still with
      response := ((0x00 : Byte) :: List.replicate 16 0xFF).take n } := congrArg State.still misses
  rw [still, s.unitMissed_reads]
  rfl

theorem exec_stream (h : s.calm) (n : Nat) : exec (.stream n) s = .next (s.begun.streamUnits n).settle :=
  congrArg Host.Outcome.next (State.takeEvent_live _ h.1)

/-- A stream that sends no request ends with its own effect. -/
theorem exec_stream_eq (h : s.calm) {n : Nat} (eq : s.begun.streamUnits n = t) (k : t.agenda = s.agenda) :
    exec (.stream n) s = .next t := by
  rw [exec_stream h, eq, h.settle_begun k]

/-- Settles O56: each kind of unit by what it sends and does, which the store and the alarm unit then leave alone. -/
theorem streamsAnswerInUnits : Obligations.StreamsAnswerInUnits := by
  refine fun s clocked calm => ⟨⟨_, exec_stream calm clocked, ?_, ?_⟩, fun closed => ?_, fun w opened more ready => ?_,
    fun w opened => ⟨fun ended n few => ?_, fun more ready n cut => ?_, fun more missing n pos few => ?_⟩⟩
  · have answered : (s.begun.streamUnits clocked).settle.port.response = (s.begun.streamUnits clocked).port.response :=
      congrArg Still.response (State.settle_still _)
    rw [answered]
    exact s.begun.streamUnits_length clocked
  · exact unmoved_of_settle (State.streamUnits_keptNv _ _) (State.streamUnits_outlook _ _)
  · have atEnd : s.begun.windowOver := fun w opened => absurd (closed.symm.trans opened) (by simp)
    exact exec_stream_eq calm (State.streamUnits_over atEnd le_rfl) rfl
  · obtain ⟨buffer, reading, sent⟩ := State.streamUnits_ready (s := s.begun) opened more ready
    have still := (State.settle_still _).trans sent
    obtain ⟨v, window, entry, fixed, offset⟩ := window_some_of_still still rfl
    exact ⟨_, v, exec_stream calm 17, window, entry, fixed, offset, congrArg Still.response still⟩
  · have atEnd : s.begun.windowOver := fun v other => by
      cases opened.symm.trans other
      exact ended
    exact exec_stream_eq calm (State.streamUnits_over atEnd few) rfl
  · have idle := State.streamUnits_idle cut (State.unitCut_ready (s := s.begun) opened ready)
    rw [State.unitBytes_ready (s := s.begun) opened more ready] at idle
    exact exec_stream_eq calm idle rfl
  · have still := (State.settle_still _).trans (State.streamUnits_missed (s := s.begun) opened more missing pos few)
    obtain ⟨v, window, entry, fixed, offset⟩ := window_some_of_still still opened
    exact ⟨_, v, exec_stream calm n, congrArg Still.response still, congrArg Still.reading still, window, entry, fixed,
      offset, congrArg Still.buffer still⟩

end

end Sys2Proof.Machine
end

section
/-! PROOFS. Write commands, which are tested in order (R180 to R182). -/

namespace Sys2Proof.Machine

section
variable {s t : State}

/-- R181: the result that a program or erase command is given: LOCKED, BUSY, its own refusal, or IN PROGRESS. -/
def State.verdict (s : State) (refusal : Option Result) : Result :=
  if s.protection ≠ .commission ∨ s.port.writeEnable = false then .locked
  else if s.engineBusy = true then .busy else refusal.getD .inProgress

/-- A program or erase command given its result, with the operation handed to the engine where it is IN PROGRESS. -/
def State.answered (s : State) (r : Result) (op : AreaOp) : State :=
  { s with port := { s.port with writeEnable := false, lastResult := r }
           store := { s.store with area := if r = .inProgress then some op else s.store.area } }

theorem State.verdict_closeWindow (s : State) (refusal : Option Result) : s.closeWindow.verdict refusal =
    if s.protection ≠ .commission ∨ s.port.writeEnable = false then .locked
    else if s.closeWindow.engineBusy = true then .busy else refusal.getD .inProgress := by
  obtain ⟨buffer, reading, closed⟩ := s.closeWindow_closed
  have protection : s.closeWindow.protection = s.protection := congrArg Still.protection closed
  have enabled : s.closeWindow.port.writeEnable = s.port.writeEnable := congrArg Still.writeEnable closed
  rw [State.verdict, protection, enabled]

/-- R181, R182: a program or erase command closes the window, and is given its result. -/
theorem State.areaCommand_eq (s : State) {refusal : Option Result} (op : AreaOp) (own : refusal ≠ some .inProgress) :
    s.areaCommand refusal op = s.closeWindow.answered (s.closeWindow.verdict refusal) op := by
  unfold State.areaCommand State.verdict State.answered
  simp only
  split
  · rfl
  · split
    · rfl
    · cases refusal with
      | none => rfl
      | some r =>
        have refused : r ≠ .inProgress := fun h => own (congrArg some h)
        simp only [Option.getD_some, if_neg refused]
        rfl

/-- R180, R181: the four program and erase commands, each with its own test and the operation it asks the engine for. -/
def State.asksArea (s : State) (offset : BitVec 16) (count block lock : Byte) (data : List Byte) (c : Instr)
    (refusal : Option Result) (op : AreaOp) : Prop :=
  (c = .configWrite offset count data ∧
      refusal = (if count.toNat = 0 ∨ 64 < count.toNat ∨ 1024 < offset.toNat + count.toNat then some .range else none) ∧
      op = .write offset.toNat (data.take count.toNat)) ∨
    (c = .configErase ∧ refusal = none ∧ op = .erase) ∨
    (c = .otpWrite block lock data ∧
      refusal = (if 14 < block.toNat then some .range
        else if s.nv.otpLocks[Fin.ofNat 16 block.toNat] then some .locked else none) ∧
      op = .otp (Fin.ofNat 16 block.toNat) (data.take 32) (lock == 1)) ∨
    (c = .freeze ∧ refusal = (if s.nv.image.isNone then some .invalid else none) ∧ op = .freeze)

section
variable {offset : BitVec 16} {count block lock : Byte} {data : List Byte} {c : Instr} {refusal : Option Result} {op : AreaOp}

/-- No command refuses itself as IN PROGRESS. -/
theorem State.asksArea.refuses (h : s.asksArea offset count block lock data c refusal op) : refusal ≠ some .inProgress := by
  obtain ⟨-, rfl, -⟩ | ⟨-, rfl, -⟩ | ⟨-, rfl, -⟩ | ⟨-, rfl, -⟩ := h
  · split <;> simp
  · simp
  · split
    · simp
    · split <;> simp
  · split <;> simp

theorem State.asksArea.exec_eq (h : s.asksArea offset count block lock data c refusal op) (calm : s.calm) :
    exec c s = .next (s.begun.closeWindow.answered (s.begun.closeWindow.verdict refusal) op).settle := by
  have runs : exec c s = .next (s.begun.areaCommand refusal op).settle := by
    obtain ⟨rfl, rfl, rfl⟩ | ⟨rfl, rfl, rfl⟩ | ⟨rfl, rfl, rfl⟩ | ⟨rfl, rfl, rfl⟩ := h
    all_goals exact congrArg Host.Outcome.next (State.takeEvent_live _ calm.1)
  rw [runs, s.begun.areaCommand_eq op h.refuses]

/-- With no window open the command's result is all that it does. -/
theorem State.asksArea.exec_windowless (h : s.asksArea offset count block lock data c refusal op) (calm : s.calm)
    (closed : s.port.window = none) : exec c s = .next (s.begun.answered (s.verdict refusal) op) := by
  rw [h.exec_eq calm, State.closeWindow_none (s := s.begun) closed]
  exact congrArg Host.Outcome.next (calm.settle_begun rfl)

/-- R182: the command closes an open window first. -/
theorem State.asksArea.exec_window (h : s.asksArea offset count block lock data c refusal op) (calm : s.calm) :
    ∃ t r, exec c s = .next t ∧ t.port.window = none ∧ t.port.writeEnable = false ∧ t.port.lastResult = r ∧
      t.store.area = (if r = .inProgress then some op else s.store.area) ∧
      r = (if s.protection ≠ .commission ∨ s.port.writeEnable = false then .locked
        else if s.begun.closeWindow.engineBusy = true then .busy else refusal.getD .inProgress) ∧
      t.nv = s.nv ∧ t.picture = s.picture ∧ t.fields = s.fields := by
  have still := State.settle_still (s.begun.closeWindow.answered (s.begun.closeWindow.verdict refusal) op)
  have area : s.begun.closeWindow.store.area = s.store.area := by
    obtain ⟨buffer, reading, closed⟩ := s.begun.closeWindow_closed
    exact congrArg Still.area closed
  have frame : s.unmoved (s.begun.closeWindow.answered (s.begun.closeWindow.verdict refusal) op).settle :=
    unmoved_of_settle s.begun.closeWindow_keptNv s.begun.closeWindow_outlook
  exact ⟨_, _, h.exec_eq calm, window_none_of_still still s.begun.closeWindow_window, congrArg Still.writeEnable still,
    congrArg Still.lastResult still, area ▸ congrArg Still.area still, s.begun.verdict_closeWindow refusal, frame⟩

end

/-- R181: WRITE ENABLE closes the window and sets its latch. -/
theorem exec_writeEnable (calm : s.calm) : exec .writeEnable s = .next (State.settle { s.begun.closeWindow with
    port := { s.begun.closeWindow.port with writeEnable := true, lastResult := .done } }) :=
  congrArg Host.Outcome.next (State.takeEvent_live _ calm.1)

/-- Settles O57: a command is given its verdict, on the state with its window closed. -/
theorem writeCommandsAreTestedInOrder : Obligations.WriteCommandsAreTestedInOrder := by
  refine ⟨fun s offset count block lock data calm closed =>
      ⟨?_, fun c refusal op (asks : s.asksArea offset count block lock data c refusal op) => ?_⟩,
    fun s offset count block lock data calm _ =>
      ⟨?_, fun c refusal op (asks : s.asksArea offset count block lock data c refusal op) => asks.exec_window calm⟩⟩
  · rw [exec_writeEnable calm, State.closeWindow_none (s := s.begun) closed]
    exact congrArg Host.Outcome.next (calm.settle_begun rfl)
  · rw [asks.exec_windowless calm closed]
    refine ⟨fun locked => ?_, fun service enabled busy => ?_, fun r service enabled idle refused => ?_,
      fun service enabled idle taken => ?_⟩
    · have verdict : s.verdict refusal = .locked := if_pos locked
      rw [verdict]; rfl
    · have verdict : s.verdict refusal = .busy := by simp [State.verdict, service, enabled, busy]
      rw [verdict]; rfl
    · have verdict : s.verdict refusal = r := by simp [State.verdict, service, enabled, idle, refused]
      have other : r ≠ .inProgress := fun h => asks.refuses (h ▸ refused)
      rw [verdict, State.answered, if_neg other]; rfl
    · have verdict : s.verdict refusal = .inProgress := by simp [State.verdict, service, enabled, idle, taken]
      rw [verdict]; rfl
  · have still := State.settle_still ({ s.begun.closeWindow with
      port := { s.begun.closeWindow.port with writeEnable := true, lastResult := .done } } : State)
    exact ⟨_, exec_writeEnable calm, window_none_of_still still s.begun.closeWindow_window,
      congrArg Still.writeEnable still, congrArg Still.lastResult still,
      unmoved_of_settle s.begun.closeWindow_keptNv s.begun.closeWindow_outlook⟩

end

end Sys2Proof.Machine
end

section
/-! PROOFS. The completions of configuration and OTP operations (R69, R180, R181). -/

namespace Sys2Proof.Machine

/-! ## Programmed bytes (R180, R181) -/

/-- R180, R181: a program leaves every programmed byte as it is. -/
theorem Memory.read_program_programmed (bs : List Byte) {m : Memory} (a : Nat) {x : Nat} (h : m.wf = true)
    (programmed : m.read x ≠ 0xFF) : (m.program a bs).read x = m.read x := by
  by_cases inside : a ≤ x ∧ x < a + bs.length
  · obtain ⟨i, rfl⟩ := Nat.exists_eq_add_of_le inside.1
    rw [Memory.read_program_in bs a i h (by omega)]
    exact if_neg programmed
  · exact Memory.read_program_out bs a h (by omega)

/-- R180, R181: erased bytes read back as the data programmed. -/
theorem Memory.readBytes_program_erased (bs : List Byte) {m : Memory} (a : Nat) (h : m.wf = true)
    (erased : ∀ n, n < bs.length → m.read (a + n) = 0xFF) : (m.program a bs).readBytes a bs.length = bs := by
  refine List.ext_getElem (by simp [Memory.readBytes]) fun n _ k => ?_
  have read : (m.program a bs).read (a + n) = bs[n] :=
    (Memory.read_program_in bs a n h k).trans (if_pos (erased n k))
  simpa [Memory.readBytes] using read

theorem tearData_length (k : Nat) (data : List Byte) : (tearData k data).length = data.length := by
  simp [tearData, tornBytes_length]

section
variable {s t : State}

/-! ## An operation's end (R181) -/

/-- R181: the part with an operation of the port at its end: the memories as it leaves them, and the result where the command
still holds IN PROGRESS. -/
def State.areaOver (s : State) (nv : Nonvolatile) (r : Result) : State :=
  { s with nv := nv, store := { s.store with area := none }
           port := { s.port with lastResult := s.port.lastResult.completed r } }

/-- R181: the engine, idle again, and the requests leave the still parts as the operation's end set them. -/
theorem State.areaDone_settles (s : State) (r : Result) : (s.areaDone r).settle.still =
    { s.still with area := none, lastResult := s.still.lastResult.completed r } := State.completed_still _

theorem State.areaOver_still (s : State) (nv : Nonvolatile) (r : Result) : (s.areaOver nv r).still =
    { s.still with nv := nv, area := none, lastResult := s.still.lastResult.completed r } := rfl

/-- R181: the completion of an operation of the port that leaves the memories `nv`. -/
theorem areaDone_over {nv : Nonvolatile} (r : Result) (h : t.still = { s.still with nv := nv }) :
    (t.areaDone r).settle.still = (s.areaOver nv r).still := by
  rw [State.areaDone_settles, h, State.areaOver_still]

/-- What an operation that has ended leaves. -/
theorem areaOver_parts {nv : Nonvolatile} {r : Result} (h : t.still = (s.areaOver nv r).still) :
    t.nv = nv ∧ t.port.lastResult = (if s.port.lastResult = .inProgress then r else s.port.lastResult) ∧
      t.store.area = none ∧ t.protection = s.protection ∧ t.picture = s.picture ∧ t.fields = s.fields :=
  ⟨congrArg Still.nv h, congrArg Still.lastResult h, congrArg Still.area h, congrArg Still.protection h,
    congrArg Still.picture h, congrArg Still.fields h⟩

/-! ## The configuration area (R181) -/

/-- R181: the configuration area after a CONFIG WRITE that has read back as its data, or has not. -/
def Nonvolatile.configWritten (nv : Nonvolatile) (offset : Nat) (data : List Byte) : Nonvolatile :=
  { nv with
    config := nv.config.program offset data
    tornImage := if (nv.config.program offset data).readBytes offset data.length = data
      then mend nv.tornImage offset data.length else nv.tornImage }

theorem exec_configWritten {offset : Nat} {data : List Byte} (calm : s.calm) (h : s.store.area = some (.write offset data)) :
    ∃ t, exec (.configOperationCompletion true) s = .next t ∧ t.still = (s.areaOver (s.nv.configWritten offset data)
      (if (s.nv.config.program offset data).readBytes offset data.length = data then .done else .verifyFailed)).still := by
  have ends : s.begun.configCompletes true = State.areaDone { s.begun with nv := s.nv.configWritten offset data }
      (if (s.nv.config.program offset data).readBytes offset data.length = data then .done else .verifyFailed) := by
    unfold State.configCompletes
    rw [show s.begun.store.area = some (.write offset data) from h]
    simp only [if_true, State.configWritten, beq_iff_eq]
    rfl
  exact ⟨_, congrArg Host.Outcome.next (calm.takeEvent_eq ends), areaDone_over _ rfl⟩

theorem exec_configErased (calm : s.calm) (h : s.store.area = some .erase) :
    ∃ t, exec (.configOperationCompletion true) s = .next t ∧ t.still =
      (s.areaOver { s.nv with config := s.nv.config.eraseBytes 0 1024, tornImage := [] } .done).still := by
  have ends : s.begun.configCompletes true = s.begun.configErased := by
    unfold State.configCompletes
    rw [show s.begun.store.area = some .erase from h]
    rfl
  exact ⟨_, congrArg Host.Outcome.next (calm.takeEvent_eq ends), areaDone_over _ rfl⟩

/-- R163: the memories with free bytes where an operation of the port failed its verify. -/
def Nonvolatile.torn (nv : Nonvolatile) (k : Nat) : AreaOp → Nonvolatile
  | .write offset data => { nv with config := nv.config.program offset (tearData k data) }
  | .erase => { nv with config := nv.config.writeBytes 0 (tornBytes k Config.configBytes) }
  | .otp block data _ => { nv with otp := nv.otp.program (32 * block.val) (tearData k data) }
  | .freeze => { nv with otp := nv.otp.program 480 (tearData k freezeMark) }

theorem State.tearArea_still (s : State) (op : AreaOp) :
    (s.tearArea op).still = { s.still with nv := s.nv.torn s.free op } := by
  cases op with
  | write offset data => exact State.useFree_still _ _
  | erase => exact State.useFree_still _ _
  | otp block data lock => exact State.useFree_still _ _
  | freeze => exact State.useFree_still _ _

/-- R181: a configuration operation fails its verify. -/
theorem exec_configFails {op : AreaOp} (calm : s.calm) (h : s.store.area = some op)
    (config : op = .erase ∨ ∃ offset data, op = .write offset data) : ∃ t, exec (.configOperationCompletion false) s = .next t ∧
      t.still = (s.areaOver (s.nv.torn s.free op) .verifyFailed).still := by
  have ends : s.begun.configCompletes false = (s.begun.tearArea op).areaDone .verifyFailed := by
    unfold State.configCompletes
    rw [show s.begun.store.area = some op from h]
    obtain rfl | ⟨offset, data, rfl⟩ := config
    all_goals rfl
  exact ⟨_, congrArg Host.Outcome.next (calm.takeEvent_eq ends), areaDone_over _ (s.begun.tearArea_still op)⟩

/-- Settles O58: the bytes by what a program, an erase and a tear write, the rest by what an operation's end leaves. -/
theorem configOperationsComplete : Obligations.ConfigOperationsComplete := by
  refine fun s calm wf => ⟨fun offset data running => ⟨?_, ?_⟩, fun running => ?_, fun running => ?_⟩
  · obtain ⟨t, ends, still⟩ := exec_configWritten calm running
    obtain ⟨nv, result, area, -⟩ := areaOver_parts still
    refine ⟨t, ends, ?_⟩
    rw [nv]
    exact ⟨fun n h => Memory.read_program_in data offset n wf h, fun a out => Memory.read_program_out data offset wf out,
      result, area, rfl, rfl⟩
  · obtain ⟨t, ends, still⟩ := exec_configFails calm running (.inr ⟨offset, data, rfl⟩)
    obtain ⟨nv, result, area, -⟩ := areaOver_parts still
    refine ⟨t, ends, result, ?_⟩
    rw [nv]
    exact ⟨fun a out => Memory.read_program_out _ offset wf (by rwa [tearData_length]), area, rfl, rfl⟩
  · obtain ⟨t, ends, still⟩ := exec_configErased calm running
    obtain ⟨nv, result, area, -⟩ := areaOver_parts still
    refine ⟨t, ends, ?_⟩
    rw [nv]
    exact ⟨fun a h => Memory.read_eraseBytes_in 0 1024 (Nat.zero_le a) (by omega), result, area, rfl, rfl⟩
  · obtain ⟨t, ends, still⟩ := exec_configFails calm running (.inl rfl)
    obtain ⟨nv, result, area, protection, picture, fields⟩ := areaOver_parts still
    refine ⟨t, ends, result, area, ?_, ?_, protection, picture, fields⟩
    · rw [nv, Nonvolatile.torn]
    · rw [nv, Nonvolatile.torn]

/-! ## The OTP blocks (R69, R180) -/

/-- R180: the OTP blocks after a program of a block, which is locked where it reads back as its data and a lock was asked for. -/
def Nonvolatile.otpWritten (nv : Nonvolatile) (block : Fin 16) (data : List Byte) (lock : Bool) : Nonvolatile :=
  { nv with
    otp := nv.otp.program (32 * block.val) data
    otpLocks := if lock = true ∧ (nv.otp.program (32 * block.val) data).readBytes (32 * block.val) data.length = data
      then nv.otpLocks.set block true else nv.otpLocks }

theorem State.otpProgrammed_eq (s : State) (block : Fin 16) (data : List Byte) (lock : Bool) :
    s.otpProgrammed block data lock = ({ s with nv := s.nv.otpWritten block data lock },
      decide ((s.nv.otp.program (32 * block.val) data).readBytes (32 * block.val) data.length = data)) := by
  unfold State.otpProgrammed Nonvolatile.otpWritten
  simp only [Bool.and_eq_true, beq_iff_eq, and_comm, Prod.mk.injEq, true_and]
  exact beq_eq_decide _ _

theorem exec_otpWritten {block : Fin 16} {data : List Byte} {lock : Bool} (calm : s.calm)
    (h : s.store.area = some (.otp block data lock)) :
    ∃ t, exec (.otpProgramCompletion true) s = .next t ∧ t.still = (s.areaOver (s.nv.otpWritten block data lock)
      (if (s.nv.otp.program (32 * block.val) data).readBytes (32 * block.val) data.length = data
        then .done else .verifyFailed)).still := by
  have ends : s.begun.otpCompletes true = State.areaDone { s.begun with nv := s.nv.otpWritten block data lock }
      (if (s.nv.otp.program (32 * block.val) data).readBytes (32 * block.val) data.length = data
        then .done else .verifyFailed) := by
    unfold State.otpCompletes
    rw [show s.begun.store.area = some (.otp block data lock) from h]
    simp only [if_true, State.otpWritten, State.otpProgrammed_eq, decide_eq_true_eq]
    rfl
  exact ⟨_, congrArg Host.Outcome.next (calm.takeEvent_eq ends), areaDone_over _ rfl⟩

theorem freezeMark_length : freezeMark.length = 32 := by decide

/-- R180: block 15 begins at byte 480. -/
theorem freezeBlock : 32 * (15 : Fin 16).val = 480 := rfl

section
variable {mark : List Byte}

/-- R180: the memories after the program of block 15 with a mark, which locks the block where it reads back. -/
def Nonvolatile.freezeWritten (nv : Nonvolatile) (mark : List Byte) : Nonvolatile :=
  { nv with
    otp := nv.otp.program 480 mark
    otpLocks := if (nv.otp.program 480 mark).readBytes 480 32 = mark then nv.otpLocks.set (15 : Fin 16) true
      else nv.otpLocks }

theorem State.otpProgrammed_mark (s : State) (h : mark.length = 32) : s.otpProgrammed 15 mark true =
    ({ s with nv := s.nv.freezeWritten mark }, decide ((s.nv.otp.program 480 mark).readBytes 480 32 = mark)) := by
  simp only [State.otpProgrammed_eq, Nonvolatile.otpWritten, Nonvolatile.freezeWritten, h, freezeBlock, true_and]

/-- R180: the program of the freeze mark ends, and the protection state follows block 15. -/
theorem exec_freezeWritten (calm : s.calm) (h : s.store.area = some .freeze) (hm : freezeMark = mark) :
    ∃ t, exec (.otpProgramCompletion true) s = .next t ∧ t.still = (State.areaOver { s with
        protection := if (s.nv.freezeWritten mark).frozen = true then .frozen else s.protection } (s.nv.freezeWritten mark)
      (if (s.nv.otp.program 480 mark).readBytes 480 32 = mark then .done else .verifyFailed)).still := by
  have ends : s.begun.otpCompletes true = State.areaDone { s.begun with
        protection := if (s.nv.freezeWritten mark).frozen = true then .frozen else s.protection
        nv := s.nv.freezeWritten mark }
      (if (s.nv.otp.program 480 mark).readBytes 480 32 = mark then .done else .verifyFailed) := by
    unfold State.otpCompletes
    rw [show s.begun.store.area = some .freeze from h]
    simp only [State.freezeWritten, if_true, hm, State.otpProgrammed_mark _ (hm ▸ freezeMark_length), decide_eq_true_eq]
    rfl
  exact ⟨_, congrArg Host.Outcome.next (calm.takeEvent_eq ends), areaDone_over _ rfl⟩

/-- R69, R179, Formats: a locked block 15 that reads as the freeze mark freezes the part. -/
theorem Nonvolatile.frozen_of_mark {nv : Nonvolatile} (hm : freezeMark = mark) (reads : nv.otp.readBytes 480 32 = mark)
    (locked : nv.otpLocks[15] = true) : nv.frozen = true := by
  have block : nv.block 15 = freezeMark := reads.trans hm.symm
  have sum : (byteSum freezeMark == 0) = true := by decide
  have first : (at1 freezeMark 0 == 1) = true := by decide
  simp only [Nonvolatile.frozen, Nonvolatile.usable, block, sum, first, Bool.and_true]
  exact locked

/-- R180: a FREEZE that reads back as its mark locks block 15, and the part is frozen. -/
theorem Nonvolatile.freezeWritten_same {nv : Nonvolatile} (hm : freezeMark = mark)
    (same : (nv.otp.program 480 mark).readBytes 480 32 = mark) :
    (nv.freezeWritten mark).frozen = true ∧ (nv.freezeWritten mark).otpLocks = nv.otpLocks.set 15 true := by
  have locks : (nv.freezeWritten mark).otpLocks = nv.otpLocks.set 15 true := if_pos same
  refine ⟨Nonvolatile.frozen_of_mark hm same ?_, locks⟩
  rw [locks]
  exact Vector.getElem_set_self _

end

/-- R180: an OTP program fails its verify. -/
theorem exec_otpFails {op : AreaOp} (calm : s.calm) (h : s.store.area = some op)
    (otp : op = .freeze ∨ ∃ block data lock, op = .otp block data lock) : ∃ t, exec (.otpProgramCompletion false) s = .next t ∧
      t.still = (State.areaOver { s with
        protection := if op = .freeze ∧ (s.nv.torn s.free op).frozen = true then .frozen else s.protection }
        (s.nv.torn s.free op) .verifyFailed).still := by
  obtain rfl | ⟨block, data, lock, rfl⟩ := otp
  · have ends : s.begun.otpCompletes false = State.areaDone { s.begun.tearArea .freeze with
        protection := if (s.begun.tearArea .freeze).nv.frozen = true then .frozen
          else (s.begun.tearArea .freeze).protection } .verifyFailed := by
      unfold State.otpCompletes
      rw [show s.begun.store.area = some .freeze from h]
      rfl
    have torn := s.begun.tearArea_still .freeze
    have nv : (s.begun.tearArea .freeze).nv = s.nv.torn s.free .freeze := congrArg Still.nv torn
    have protection : (s.begun.tearArea .freeze).protection = s.protection := congrArg Still.protection torn
    rw [nv, protection] at ends
    refine ⟨_, congrArg Host.Outcome.next (calm.takeEvent_eq ends), areaDone_over _ ?_⟩
    simp only [true_and]
    exact congrArg (fun k : Still => { k with
      protection := if (s.nv.torn s.free .freeze).frozen = true then .frozen else s.protection }) torn
  · have ends : s.begun.otpCompletes false = (s.begun.tearArea (.otp block data lock)).areaDone .verifyFailed := by
      unfold State.otpCompletes
      rw [show s.begun.store.area = some (.otp block data lock) from h]
      rfl
    refine ⟨_, congrArg Host.Outcome.next (calm.takeEvent_eq ends), areaDone_over _ ?_⟩
    simp only [reduceCtorEq, false_and, if_false]
    exact s.begun.tearArea_still (.otp block data lock)

/-- R180: where a program of a block fails its verify, its bytes alone are free. -/
theorem Nonvolatile.torn_otp (nv : Nonvolatile) (k : Nat) {op : AreaOp} {block : Fin 16} {size : Nat}
    (h : (∃ data lock, op = .otp block data lock ∧ size = data.length) ∨ (op = .freeze ∧ block = 15 ∧ size = 32)) :
    ∃ data, data.length = size ∧ nv.torn k op = { nv with otp := nv.otp.program (32 * block.val) data } := by
  obtain ⟨data, lock, rfl, rfl⟩ | ⟨rfl, rfl, rfl⟩ := h
  · exact ⟨_, tearData_length k data, rfl⟩
  · refine ⟨tearData k freezeMark, by rw [tearData_length, freezeMark_length], ?_⟩
    simp only [Nonvolatile.torn, freezeBlock]

/-- Settles O59: the bytes by what a program and a tear write, the locks and the protection by whether the block reads back. -/
theorem otpProgramsComplete : Obligations.OtpProgramsComplete := by
  refine fun s calm wf => ⟨fun block data lock running => ?_, fun mark isMark running => ?_, fun op block size running otp => ?_⟩
  · obtain ⟨t, ends, still⟩ := exec_otpWritten calm running
    obtain ⟨nv, result, area, -⟩ := areaOver_parts still
    refine ⟨t, ends, ?_⟩
    rw [nv]
    exact ⟨fun n h => Memory.read_program_in data _ n wf h, fun a out => Memory.read_program_out data _ wf out,
      result, rfl, area, rfl, rfl⟩
  · have hm : freezeMark = mark := Eq.trans (by decide) isMark.symm
    have size : mark.length = 32 := hm ▸ freezeMark_length
    obtain ⟨t, ends, still⟩ := exec_freezeWritten calm running hm
    obtain ⟨nv, result, area, protection, -⟩ := areaOver_parts still
    refine ⟨t, ends, ?_⟩
    rw [nv, protection]
    refine ⟨fun n h => Memory.read_program_in mark 480 n wf h, fun a out => Memory.read_program_out mark 480 wf out, result,
      fun same => ?_, fun other => ⟨rfl, if_neg other⟩, fun erased => ?_, area, rfl, rfl⟩
    · obtain ⟨frozen, locks⟩ := Nonvolatile.freezeWritten_same hm same
      exact ⟨if_pos frozen, locks⟩
    · have reads := Memory.readBytes_program_erased mark 480 wf (by rwa [size])
      rwa [size] at reads
  · have failing : op = .freeze ∨ ∃ block data lock, op = .otp block data lock :=
      otp.symm.imp (fun h => h.1) fun ⟨data, lock, h, _⟩ => ⟨block, data, lock, h⟩
    obtain ⟨t, ends, still⟩ := exec_otpFails calm running failing
    obtain ⟨nv, result, area, protection, -⟩ := areaOver_parts still
    obtain ⟨data, length, torn⟩ := s.nv.torn_otp s.free otp
    refine ⟨t, ends, result, ?_⟩
    rw [protection, nv, torn]
    exact ⟨fun a out => Memory.read_program_out data _ wf (by rwa [length]),
      fun a programmed => Memory.read_program_programmed data _ wf programmed, rfl, rfl, area, rfl, rfl⟩

end

end Sys2Proof.Machine
end

section
/-! PROOFS. RESET and a loss of supply: what they cut, and the part at rest after them (R14, R15, R17, R20, R73 to R75, R110, R163,
R176). -/

namespace Sys2Proof.Machine

section
variable {s t : State}

/-! ## What is cut (R163, R175, R177) -/

theorem State.tearArea_eq (s : State) (op : AreaOp) : ∃ nv free, s.tearArea op = { s with nv := nv, free := free } := by
  cases op with
  | write offset data => exact ⟨_, _, rfl⟩
  | erase => exact ⟨_, _, rfl⟩
  | otp block data lock => exact ⟨_, _, rfl⟩
  | freeze => exact ⟨_, _, rfl⟩

/-- R163, R175: a cut leaves free bytes where an operation was in flight, and none where none was. -/
theorem State.cutOps_eq (s : State) : ∃ nv free, s.cutOps = { s with nv := nv, free := free } ∧
    (s.store.program = none → s.store.area = none → nv = s.nv) := by
  have area (u : State) (h : u.store.area = s.store.area) : ∃ nv free,
      (match s.store.area with | none => u | some op => u.tearArea op) = { u with nv := nv, free := free } ∧
        (s.store.area = none → nv = u.nv) := by
    cases k : s.store.area with
    | none => exact ⟨u.nv, u.free, rfl, fun _ => rfl⟩
    | some op =>
      obtain ⟨nv, free, eq⟩ := u.tearArea_eq op
      exact ⟨nv, free, eq, nofun⟩
  unfold State.cutOps
  cases program : s.store.program with
  | none =>
    obtain ⟨nv, free, eq, same⟩ := area s rfl
    exact ⟨nv, free, eq, fun _ => same⟩
  | some op =>
    obtain ⟨nv, free, eq, -⟩ := area (s.tearProgram op) rfl
    exact ⟨nv, free, eq, nofun⟩

/-- R177: a loss of supply marks the torn bytes of the operation in flight. -/
theorem State.markTorn_eq (s : State) : ∃ torn, s.markTorn = { s with nv := { s.nv with tornImage := torn } } ∧
    (s.store.area = none → torn = s.nv.tornImage) := by
  unfold State.markTorn
  split
  · exact ⟨_, rfl, fun _ => rfl⟩
  · rename_i running
    exact ⟨_, rfl, fun idle => absurd (idle.symm.trans running) (by simp)⟩

/-! ## The part at rest (R75, R143, R145) -/

/-- R75, R145: in a part that is not live, with no unit in its slots and no alarm, every discrete output is at rest. -/
theorem State.outputs_rest (dead : t.live = false) (slots : ∀ i, t.slot i = .unused) (alarms : t.alarms = {}) :
    (∀ i, t.lines i = Lines.rest) ∧ t.horn = false ∧ t.pulls = false ∧ ∀ cls, t.lamp cls = .dark := by
  have none : t.alarms.all = [] := by rw [alarms]; rfl
  have off : (t.supply && !t.resetHeld) = false := dead
  refine ⟨fun i => ?_, ?_, ?_, fun cls => ?_⟩
  · simp only [State.lines, slots]
  · simp [State.horn, none]
  · simp [State.pulls, none]
  · simp [State.lamp, none, off]

theorem State.slot_unused (h : t.channels.slots = Vector.replicate 4 .unused) (i : Fin 4) : t.slot i = .unused := by
  simp [State.slot, h]

/-! ## RUN left with an attempt on the medium (R14, R15, R17) -/

/-- R15: a transmission that RUN's end stops is counted as a collision. -/
theorem State.leaveRun_sending (h : s.link.access = .sending) : s.leaveRun.link =
    { (State.collide { s with station := .start }).link with access := .idle, backoff := 0, sendingEntry := none } := by
  unfold State.leaveRun
  simp only [h, if_true]

theorem State.leaveRun_again {f : QFrame} (h : s.link.access = .sending) (hf : s.sendingFrame = some f)
    (few : f.attempts < 7) :
    s.leaveRun.link = { s.link.struck f with access := .idle, backoff := 0, sendingEntry := none } := by
  rw [State.leaveRun_sending h, State.collide_again (s := { s with station := .start }) hf few]
  rfl

/-- R17: the eighth attempt gives the frame up. -/
theorem State.leaveRun_eighth {f : QFrame} (h : s.link.access = .sending) (hf : s.sendingFrame = some f)
    (many : 7 ≤ f.attempts) :
    s.leaveRun.link.window = 4 ∧ s.leaveRun.link.discardsInRow = min 4 (s.link.discardsInRow + 1) ∧
      s.leaveRun.link.counters.collisions = up16 s.link.counters.collisions ∧
      s.leaveRun.link.counters.exhaustionDiscards = up16 s.link.counters.exhaustionDiscards ∧
      (f.entry < s.link.entryCount → ∀ q ∈ s.leaveRun.link.queue, q.entry ≠ f.entry) := by
  have still := State.collide_eighth_still (s := { s with station := .start }) hf many
  have carries := State.collide_eighth_carries (s := { s with station := .start }) hf many
  rw [State.leaveRun_sending h]
  obtain ⟨collisions, discards⟩ :
      (State.collide { s with station := .start }).link.counters.collisions = up16 s.link.counters.collisions ∧
      (State.collide { s with station := .start }).link.counters.exhaustionDiscards =
        up16 s.link.counters.exhaustionDiscards := by
    have received := congrArg Still.received still
    simp only [State.still, Link.struck_gaveUp, LinkCounters.received, List.cons.injEq] at received
    obtain ⟨-, -, -, -, -, -, -, -, collisions, discards, -⟩ := received
    exact ⟨collisions, discards⟩
  refine ⟨congrArg Still.contention still, congrArg Still.discardsInRow still, collisions, discards, fun given => ?_⟩
  rw [Link.struck_gaveUp] at carries
  exact carries.absent mem_without given

/-! ## RESET and the loss of supply (R176) -/

theorem exec_resetAsserted (live : s.live = true) : exec .resetAsserted s = .next s.assertReset :=
  congrArg Host.Outcome.next (if_pos live)

theorem exec_supplyFailure (supply : s.supply = true) (n : Option Nat) :
    exec (.supplyFailure n) s = .next (s.loseSupply n) := congrArg Host.Outcome.next (if_pos supply)

/-- R110, R163, R176: what RESET leaves. -/
theorem State.assertReset_eq (s : State) : ∃ nv free, s.assertReset =
    { s.quiet s.countInHand with resetHeld := true, link := s.leaveRun.link, nv := nv, free := free } ∧
      (s.store.program = none → s.store.area = none → nv = s.nv) := by
  obtain ⟨nv, free, cut, same⟩ := s.cutOps_eq
  refine ⟨nv, free, ?_, same⟩
  unfold State.assertReset
  rw [cut]
  rfl

/-- R110, R163, R176: what a loss of supply leaves. -/
theorem State.loseSupply_eq (s : State) (n : Option Nat) : ∃ nv free, s.loseSupply n =
    { s.quiet (Vector.replicate 4 none) with
      supply := false, resetHeld := false, output := {}, nv := nv, free := free
      map := match n with
        | none => s.map
        | some n => (s.mapLog.take (s.mapLog.length - n)).foldl MapRegion.undo s.map } ∧
      (s.store.program = none → s.store.area = none → nv = s.nv) := by
  have cuts (u : State) : ∃ nv free, u.markTorn.cutOps = { u with nv := nv, free := free } ∧
      (u.store.program = none → u.store.area = none → nv = u.nv) := by
    obtain ⟨torn, marked, unmarked⟩ := u.markTorn_eq
    obtain ⟨nv, free, cut, same⟩ := u.markTorn.cutOps_eq
    rw [marked] at cut same
    refine ⟨nv, free, marked ▸ cut, fun program area => ?_⟩
    rw [same program area, unmarked area]
  unfold State.loseSupply
  cases n with
  | none =>
    obtain ⟨nv, free, cut, same⟩ := cuts s
    exact ⟨nv, free, by simp only [cut]; rfl, same⟩
  | some n =>
    obtain ⟨nv, free, cut, same⟩ := cuts (s.undoMap n)
    refine ⟨nv, free, by simp only [cut]; rfl, fun program area => same ?_ area⟩
    simp [State.undoMap, program]

/-- Settles O18: what RESET and a loss of supply leave, field by field; the link by how RUN is left. -/
theorem resetAndSupplyLoss : Obligations.ResetAndSupplyLoss := by
  refine ⟨fun s live => ?_, fun s n supply => ?_⟩
  · obtain ⟨nv, free, eq, same⟩ := s.assertReset_eq
    have supplied : s.supply = true := by
      have on : (s.supply && !s.resetHeld) = true := live
      exact (Bool.and_eq_true_iff.1 on).1
    have slots (i : Fin 4) : s.assertReset.slot i = .unused := State.slot_unused rfl i
    obtain ⟨lines, horn, pulls, lamps⟩ := State.outputs_rest (t := s.assertReset) (by simp [eq, State.live]) slots rfl
    refine ⟨_, exec_resetAsserted live, rfl, by rw [eq]; exact supplied, by rw [eq]; rfl, rfl, rfl, slots, by rw [eq]; rfl,
      fun idle => State.leaveRun_link idle, fun f sending frame => ⟨rfl, rfl, ?_, fun few => State.leaveRun_again sending frame few,
        fun many => ?_⟩, rfl, rfl, rfl, rfl, rfl, rfl, lines, horn, pulls, lamps, fun program area => ?_⟩
    · rcases Nat.lt_or_ge f.attempts 7 with few | many
      · exact congrArg (fun l => l.counters.collisions) (State.leaveRun_again sending frame few)
      · obtain ⟨-, -, collisions, -⟩ := State.leaveRun_eighth sending frame many
        exact collisions
    · obtain ⟨window, row, -, discards, absent⟩ := State.leaveRun_eighth sending frame many
      exact ⟨window, row, discards, absent⟩
    · rw [eq]
      exact same program area
  · obtain ⟨nv, free, eq, same⟩ := s.loseSupply_eq n
    have slots (i : Fin 4) : (s.loseSupply n).slot i = .unused := State.slot_unused rfl i
    obtain ⟨lines, horn, pulls, lamps⟩ := State.outputs_rest (t := s.loseSupply n) rfl slots rfl
    refine ⟨_, exec_supplyFailure supply n, rfl, rfl, rfl, rfl, congrArg State.map eq, rfl, rfl, rfl, rfl, rfl, rfl, lines, horn,
      pulls, lamps, fun program area => ?_⟩
    rw [eq]
    exact same program area

end

end Sys2Proof.Machine
end

section
/-! PROOFS. The station outside RUN offers nothing to the medium: with its slots stopped, neither an offer nor the alarm unit's work
moves the medium access on (R14, R20). -/

namespace Sys2Proof.Machine

/-! ## The alarm unit's work, by its parts -/

/-- What every part of the alarm unit's work carries on: its own table, the requests, the records and the notices it offers, and
the reports of the trip cause. -/
structure AlarmCarries (P : State → Prop) : Prop where
  alarms : ∀ {s : State} (a : Alarms), P s → P { s with alarms := a }
  agenda : ∀ {s : State} (a : List AlarmRequest), P s → P { s with agenda := a }
  raised : ∀ {s : State} (n : Nat), P s → P (s.postRaise n)
  append : ∀ {s : State} (type : RecordType) (rest : List Byte) (b : Binding) (p q : Bool), P s → P (s.append type rest b p q)
  offer : ∀ {s : State} (n : Notice), P s → P (s.offer n)
  trips : ∀ {s : State}, P s → P s.evalTrips

namespace AlarmCarries

variable {P : State → Prop} (w : AlarmCarries P) {s : State}
include w

theorem journal (h : P s) (n : Nat) (e : AlarmEntry) (r a l : Nat) : P (s.journal n e r a l) := w.append _ _ _ _ _ h

theorem dropAlarm (h : P s) (e : AlarmEntry) : P (s.dropAlarm e) := by
  unfold State.dropAlarm
  split
  · exact w.alarms _ h
  · exact w.alarms _ h

theorem enterNew (h : P s) (e : AlarmEntry) : P (s.enterNew e) := by
  have placed : P (s.placeAlarm e) := by
    unfold State.placeAlarm
    split
    · exact w.alarms _ h
    · exact w.alarms _ h
  exact w.journal (w.alarms _ placed) _ _ _ _ _

theorem enterOwn (h : P s) (c : AlarmCode) (ch : Nat) : P (s.enterOwn c ch) := by
  unfold State.enterOwn
  extract_lets e a s1 s2 s3
  have posted : P s2 := w.raised _ (w.enterNew (w.alarms _ h) e)
  refine w.trips ?_
  simp only [s3]
  split
  · exact w.offer _ posted
  · exact posted

theorem logRaise (h : P s) (c : AlarmCode) (ch : Nat) : P (s.logRaise c ch) := by
  have counted : P { s with alarms := { s.alarms with occurrence := (s.ownEntry c ch).occurrence } } := w.alarms _ h
  have posted := w.raised 4 (w.journal counted 1 (s.ownEntry c ch) 4 0 0)
  unfold State.logRaise
  simp only
  split
  · exact h
  split
  · exact w.alarms _ posted
  · exact posted

theorem loseRaise (h : P s) : P s.loseRaise := by
  have flood (t : State) (k : P t) : P t.raiseFlood := by
    unfold State.raiseFlood
    refine w.enterOwn (w.alarms _ ?_) _ _
    split
    · exact w.alarms _ k
    · exact k
  have counted : P (s.countAlarm fun c => { c with lostRaises := up16 c.lostRaises }) := w.alarms _ h
  unfold State.loseRaise
  extract_lets s1
  repeat' split
  · exact w.logRaise counted _ _
  · exact w.alarms _ counted
  · exact flood _ counted

theorem makeRoom {t : State} (h : P s) (room : s.makeRoom = some t) : P t := by
  unfold State.makeRoom at room
  split at room
  · cases room
    exact h
  · obtain ⟨e, -, rfl⟩ := Option.map_eq_some_iff.1 room
    unfold State.evictAlarm
    extract_lets s1 s2
    have dropped : P s1 := w.alarms _ (w.dropAlarm h e)
    refine w.journal ?_ _ _ _ _ _
    simp only [s2]
    split
    · exact w.alarms _ dropped
    · exact dropped

theorem takeRaise (h : P s) (c : AlarmCode) (ch : Nat) : P (s.takeRaise c ch) := by
  unfold State.takeRaise
  repeat' split
  case h_2 t room => exact w.enterOwn (w.alarms _ (w.makeRoom h room)) c ch
  · exact w.alarms _ h
  · exact w.logRaise h c ch
  · exact w.enterOwn h c ch
  · exact h
  · exact w.loseRaise h

theorem clearEntry (h : P s) (e : AlarmEntry) : P (s.clearEntry e) := by
  have offered (t : State) (f : AlarmEntry) (k : P t) : P (t.offerClear f) := by
    unfold State.offerClear
    split
    · exact w.offer _ k
    · exact k
  have marked (f : AlarmEntry) (n r l : Nat) : P ((s.setAlarm f).journal n f r 0 l) := w.journal (w.alarms _ h) _ _ _ _ _
  have dropped (n r l : Nat) : P ((s.dropAlarm e).journal n e r 0 l) := w.journal (w.dropAlarm h e) _ _ _ _ _
  unfold State.clearEntry
  extract_lets lost
  clear_value lost
  repeat' split
  · exact offered _ _ (marked _ _ _ _)
  · exact h
  · exact offered _ _ (marked _ _ _ _)
  · exact offered _ _ (dropped _ _ _)
  · exact h

theorem clearKey (h : P s) (c : AlarmCode) (ch : Nat) : P (s.clearKey c ch) := by
  unfold State.clearKey
  repeat' split
  · unfold State.logClear
    split
    · exact h
    · exact w.journal (w.alarms _ h) _ _ _ _ _
  · exact h
  · exact w.clearEntry h _

theorem takeClear (h : P s) (c : AlarmCode) (ch : Nat) : P (s.takeClear c ch) := by
  unfold State.takeClear
  split
  · exact w.alarms _ h
  · have cleared : P (s.clearKey c ch) := w.clearKey h c ch
    refine w.trips ?_
    unfold State.floodCheck
    split
    · exact w.clearKey cleared _ _
    · exact cleared

theorem settle (h : P s) : P s.settle := by
  have takes (t : State) (k : P t) : P t.takeFirst := by
    unfold State.takeFirst
    split
    · exact k
    · rename_i r _ _
      refine w.agenda _ ?_
      cases r with
      | raise c ch => exact w.takeRaise k c ch
      | clear c ch => exact w.takeClear k c ch
  have some (n : Nat) (t : State) (k : P t) : P (t.settleSome n) := by
    induction n generalizing t with
    | zero => exact k
    | succ n ih =>
      unfold State.settleSome
      split
      · exact k
      · exact ih _ (takes t k)
  exact w.agenda _ (some Config.settleFuel s h)

end AlarmCarries

/-! ## The medium access outside RUN -/

/-- R20: the station is outside RUN with the medium access IDLE, and no slot is one that a report of the trip cause moves. -/
structure State.Resting (s : State) : Prop where
  station : s.station ≠ .run
  access : s.link.access = .idle
  backoff : s.link.backoff = 0
  stable : ∀ i, (s.slot i).stable = true

theorem eachSlot_fixed {f : State → Fin 4 → State} {s : State} (h : ∀ i, f s i = s) : s.eachSlot f = s := by
  simp [State.eachSlot, h]

/-- R142: a report of the trip cause changes nothing where no slot runs or stands TRIPPED. -/
theorem State.evalTrips_stable {s : State} (h : ∀ i, (s.slot i).stable = true) : s.evalTrips = s := by
  refine eachSlot_fixed fun i => ?_
  have stable := h i
  cases unit : s.slot i with
  | cf c =>
    rw [unit] at stable
    simp only [SlotUnit.stable, Bool.or_eq_true, beq_iff_eq] at stable
    rcases stable with off | fault
    · simp [State.cfTrip, CfState.runs, off]
    · simp [State.cfTrip, CfState.runs, fault]
  | di d =>
    rw [unit] at stable
    simp only [SlotUnit.stable, Bool.or_eq_true, beq_iff_eq] at stable
    rcases stable with off | fault
    · simp [State.diTrip, DiSlot.runs, off]
    · simp [State.diTrip, DiSlot.runs, fault]
  | _ => rfl

/-- R9 to R12: an offer alone changes the queue and its counters. -/
theorem Link.enter_access (l : Link) (n : Notice) :
    (l.enter n).1.access = l.access ∧ (l.enter n).1.backoff = l.backoff := by
  unfold Link.enter; repeat' split
  all_goals exact ⟨rfl, rfl⟩

namespace State.Resting

variable {s t : State}

/-- Work that leaves the link and the slots alone. -/
theorem of_eq (h : s.Resting) (link : t.link = s.link) (plant : t.plant = s.plant) (station : t.station = s.station) : t.Resting where
  station := station ▸ h.station
  access := link ▸ h.access
  backoff := link ▸ h.backoff
  stable i := by
    rw [State.slot_of_channels (congrArg Prod.fst plant : t.channels = s.channels)]
    exact h.stable i

/-- R8, R14: an offer outside RUN leaves the medium access as it is. -/
theorem offer (h : s.Resting) (n : Notice) : (s.offer n).Resting := by
  have access : (s.offer n).link.access = s.link.access ∧ (s.offer n).link.backoff = s.link.backoff := by
    unfold State.offer
    simp only [h.access, reduceCtorEq, if_false]
    split
    · rw [State.handBack_link]
      exact ⟨rfl, rfl⟩
    · have entered := s.link.enter_access n
      rw [h.access] at entered
      split
      · rwa [State.kickAccess, if_neg h.station]
      · rwa [State.handBack_link]
  have channels : (s.offer n).channels = s.channels := congrArg Prod.fst (s.offer_plant n)
  have station : (s.offer n).station = s.station := congrArg Still.station (s.offer_still n)
  refine ⟨station ▸ h.station, access.1.trans h.access, access.2.trans h.backoff, fun i => ?_⟩
  rw [State.slot_of_channels channels]
  exact h.stable i

theorem evalTrips (h : s.Resting) : s.evalTrips.Resting := (State.evalTrips_stable h.stable).symm ▸ h

/-- R145: an append to the report store leaves the medium access and the slots. -/
theorem append (h : s.Resting) (type : RecordType) (rest : List Byte) (b : Binding) (p q : Bool) :
    (s.append type rest b p q).Resting :=
  h.of_eq (s.append_link type rest b p q) (s.append_plant type rest b p q)
    (congrArg Still.station (s.append_still type rest b p q))

end State.Resting

/-- R14: outside RUN the alarm unit's work leaves the medium access. -/
theorem resting_carries : AlarmCarries State.Resting where
  alarms _ h := h.of_eq rfl rfl rfl
  agenda _ h := h.of_eq rfl rfl rfl
  raised _ h := h.of_eq rfl rfl rfl
  append type rest b p q h := h.append type rest b p q
  offer n h := h.offer n
  trips h := h.evalTrips

/-! ## The slots of an accepted image (R76, R92, R113, R120) -/

/-- R76, R92: every unit that an image gives begins stopped. -/
theorem takeUnit_stable (img : List Byte) (fuels : Vector Nat 8) (i : Fin 4) (now : Nat) :
    ((takeUnit img fuels i).begin now).stable = true := by
  have given (block : Option SlotUnit) (h : ∀ u, block = some u → (u.begin now).stable = true) :
      ((block.getD .unused).begin now).stable = true := by
    cases block with
    | none => rfl
    | some u => exact h u rfl
  unfold takeUnit takeBlock
  split
  · rfl
  refine given _ fun u taken => ?_
  split at taken
  · unfold takeCf at taken
    simp only at taken
    split at taken <;> cases taken
    rfl
  · unfold takeDi at taken
    obtain ⟨k, -, rfl⟩ := Option.map_eq_some_iff.1 taken
    rfl
  · unfold takeCa at taken
    simp only at taken
    split at taken <;> cases taken
    rfl
  · unfold takeCg at taken
    simp only at taken
    split at taken <;> cases taken
    rfl
  · cases taken

end Sys2Proof.Machine
end

section
/-! PROOFS. The report store with nothing queued and no step pending, and the parts of it that keep a current file and its time base
(R167 to R169). -/

namespace Sys2Proof.Machine

section
variable (s : State)

theorem State.setAux_aux_ne {e f : Fin 32} (x : FileAux) (h : f ≠ e) : (s.setAux e x).aux f = s.aux f := by
  have apart : e.val ≠ f.val := fun same => h (Fin.ext same.symm)
  simp [State.setAux, State.aux, Vector.getElem_set_ne, apart]

/-! ## A store at rest -/

/-- R167, R168: nothing is queued and no file step is pending. -/
structure State.StoreRests (s : State) : Prop where
  queue : s.store.queue = []
  steps : ∀ f, (s.aux f).steps = []

theorem State.runSteps_of_none (n : Nat) {s : State} (h : s.stepOnce = none) : s.runSteps n = s := by
  cases n with
  | zero => rfl
  | succ n => rw [State.runSteps, h]

theorem State.stepOnce_of_steps {s : State} (h : ∀ f, (s.aux f).steps = []) : s.stepOnce = none :=
  State.stepOnce_eq_none.2 fun e _ _ pending => absurd ((h e).symm.trans pending) (by simp)

theorem State.StoreRests.stepOnce {s : State} (h : s.StoreRests) : s.stepOnce = none := State.stepOnce_of_steps h.steps

/-- R171, R172: the store's work changes the erase in flight and the store's counters alone. -/
def State.Erases (s t : State) : Prop :=
  ∃ x c, t = { s with store := { s.store with erase := x, counters := c } }

theorem State.Erases.refl (s : State) : s.Erases s := ⟨_, _, rfl⟩

theorem State.Erases.trans {s t u : State} (h : s.Erases t) (k : t.Erases u) : s.Erases u := by
  obtain ⟨x, c, rfl⟩ := h
  obtain ⟨y, d, rfl⟩ := k
  exact ⟨y, d, rfl⟩

theorem State.Erases.rests {s t : State} (h : s.Erases t) (k : s.StoreRests) : t.StoreRests := by
  obtain ⟨x, c, rfl⟩ := h
  exact ⟨k.queue, k.steps⟩

theorem State.Erases.dir {s t : State} (h : s.Erases t) (e : Fin 32) : t.dir e = s.dir e := by
  obtain ⟨x, c, rfl⟩ := h
  rfl

/-- R172: with nothing queued an erase is begun, suspended or resumed, and nothing is served. -/
theorem State.engineStep_quiet {s : State} (h : s.store.queue = []) : s.Erases s.engineStep.1 := by
  have idle (t : State) (k : t.store.queue = []) : t.serveSuspended = t := by
    simp [State.serveSuspended, State.priorityRecord, State.flushRecord, k]
  unfold State.engineStep
  split
  · exact .refl s
  split
  · rename_i x running
    unfold State.chooseErasing
    repeat' split
    · exact ⟨_, _, rfl⟩
    · exact ⟨_, _, idle s h⟩
    · exact ⟨_, _, idle _ h⟩
    · exact .refl s
  · unfold State.chooseIdle
    simp only [h, List.find?_nil]
    split
    · exact .refl s
    · exact ⟨_, _, rfl⟩

/-- R169: a store at rest goes on with the erases alone. -/
theorem State.StoreRests.runStore {s : State} (h : s.StoreRests) : s.Erases s.runStore := by
  have goes (n : Nat) (t : State) (k : t.StoreRests) : t.Erases (t.storeLoop n) := by
    induction n generalizing t with
    | zero => exact .refl t
    | succ n ih =>
      unfold State.storeLoop
      simp only [State.runSteps_of_none 64 k.stepOnce]
      have chosen := State.engineStep_quiet k.queue
      split
      · exact chosen.trans (ih _ (chosen.rests k))
      · exact chosen
  exact goes 64 s h

/-- R167: the steps that can be written come before the engine's choice. -/
theorem State.runStore_runSteps {s t : State} (h : s.runSteps 64 = t) (k : t.stepOnce = none) : s.runStore = t.runStore := by
  unfold State.runStore State.storeLoop
  rw [h, State.runSteps_of_none 64 k]

/-! ## The current file and the time bases -/

/-- R167: the current file, and the time base of every entry. -/
def State.course (s : State) : Option (Fin 32) × (Fin 32 → Int) := (s.store.current, fun e => (s.aux e).base)

/-- A change of an entry's aux that keeps its time base. -/
theorem State.setAux_course (e : Fin 32) {x : FileAux} (h : x.base = (s.aux e).base) : (s.setAux e x).course = s.course := by
  refine Prod.ext rfl (funext fun f => ?_)
  by_cases same : f = e
  · subst same
    exact (congrArg FileAux.base (s.setAux_aux_self f x)).trans h
  · exact congrArg FileAux.base (s.setAux_aux_ne x same)

theorem State.dropRecord_course (r : QRecord) : (s.dropRecord r).course = s.course := by
  unfold State.dropRecord
  split
  · split
    · exact s.setAux_course _ rfl
    · split <;> rfl
  · rfl
  · rfl

theorem State.dequeue_course (gone : QRecord → Bool) : (s.dequeue gone).course = s.course := by
  unfold State.dequeue
  simp only
  split <;> rfl

theorem State.reclaim_course {s t : State} (h : s.reclaim = some t) : t.course = s.course := by
  obtain ⟨e, -, rfl⟩ := Option.map_eq_some_iff.1 h
  have erased (l : List (Fin 128)) : (l.foldl (fun t g => t.writeGranule g .erasing) (s.writeDir e {})).course = s.course :=
    List.foldlRecOn (motive := fun t : State => t.course = s.course) l _ rfl fun _ kept _ _ => kept
  refine Eq.trans ?_ (erased (s.map.chain (s.dir e)))
  unfold State.reclaimFile State.clearStoreFull
  simp only
  split <;> rfl

theorem State.programFrom_course (e : Fin 32) (r : QRecord) (f : List QRecord) : (s.programFrom e r f).course = s.course := by
  have widened (t : State) (p : Nat) : (t.widenLast e p).course = t.course := by
    unfold State.widenLast
    repeat' split
    all_goals rfl
  refine (widened _ _).trans ?_
  repeat' split
  · rfl
  · unfold State.linkGranule
    simp only
    split <;> rfl
  · rfl

theorem State.chooseIdle_course : s.chooseIdle.1.course = s.course := by
  have dropped (r : QRecord) : (s.dropHead r).course = s.course := by
    refine (State.dropRecord_course _ r).trans ?_
    split
    · rfl
    · exact State.dequeue_course _ _
  unfold State.chooseIdle
  repeat' split
  · rfl
  · rfl
  · rfl
  · exact s.programFrom_course _ _ _
  · rfl
  · exact State.reclaim_course ‹_›
  · exact dropped _

theorem State.chooseErasing_course (x : EraseOp) : (s.chooseErasing x).course = s.course := by
  have served (t : State) : t.serveSuspended.course = t.course := by
    unfold State.serveSuspended
    repeat' split
    · rfl
    · exact t.programFrom_course _ _ _
    · rfl
    · rfl
    · exact t.programFrom_course _ _ _
  unfold State.chooseErasing
  repeat' split
  · rfl
  · exact served s
  · exact served _
  · rfl

theorem State.engineStep_course : s.engineStep.1.course = s.course := by
  unfold State.engineStep
  repeat' split
  · rfl
  · exact s.chooseErasing_course _
  · exact s.chooseIdle_course

/-- R167: a step that is written keeps the current file and the time bases. -/
theorem State.takeStep_course (e : Fin 32) (st : FileStep) : (s.takeStep e st).course = s.course := by
  have taken := s.setAux_course e (x := { s.aux e with steps := (s.aux e).steps.drop 1 }) rfl
  refine Eq.trans ?_ taken
  unfold State.takeStep State.writeStep
  split
  · exact State.setAux_course (State.writeDir _ e _) e rfl
  · rfl
  · rfl

theorem State.runSteps_course (n : Nat) : (s.runSteps n).course = s.course := by
  induction n generalizing s with
  | zero => rfl
  | succ n ih =>
    unfold State.runSteps
    split
    · rfl
    · rename_i t written
      obtain ⟨e, st, -, -, -, -, rfl, -⟩ := State.stepOnce_takes written
      exact (ih _).trans (s.takeStep_course e st)

theorem State.runStore_course : s.runStore.course = s.course := by
  have round (t : State) : (t.runSteps 64).engineStep.1.course = t.course :=
    (State.engineStep_course _).trans (t.runSteps_course 64)
  have goes (n : Nat) (t : State) : (t.storeLoop n).course = t.course := by
    induction n generalizing t with
    | zero => rfl
    | succ n ih =>
      unfold State.storeLoop
      simp only
      split
      · exact (ih _).trans (round t)
      · exact round t
  exact goes 64 s

theorem State.append_course (type : RecordType) (rest : List Byte) (b : Binding) (p q : Bool) :
    (s.append type rest b p q).course = s.course := by
  have taken (t : State) (r : QRecord) : (t.takeRecord r).course = t.course := by
    unfold State.takeRecord
    repeat' split
    case isFalse.isTrue => rfl
    all_goals exact State.dropRecord_course _ _
  unfold State.append
  split
  · rfl
  · exact (State.runStore_course _).trans (taken _ _)

end

end Sys2Proof.Machine
end

section
/-! PROOFS. What the accountant does with the start scan's report of a file (R158, R159). -/

namespace Sys2Proof.Machine

section
variable {s : State} {e : Fin 32}

/-! ## A CLOSED step that is asked for (R167) -/

/-- R167: a CLOSED step is requested of an entry that has no step pending. -/
def State.asks (s : State) (e : Fin 32) (cut : Bool) : State :=
  s.nextNumber.setAux e { s.aux e with steps := [(.closed cut, s.store.seq)] }

theorem State.asks_steps (s : State) (e : Fin 32) (cut : Bool) :
    ((s.asks e cut).aux e).steps = [(.closed cut, s.store.seq)] := congrArg FileAux.steps (s.nextNumber.setAux_aux_self e _)

theorem State.asks_steps_ne {f : Fin 32} (steps : ∀ f, (s.aux f).steps = []) (cut : Bool) (h : f ≠ e) :
    ((s.asks e cut).aux f).steps = [] := (congrArg FileAux.steps (s.nextNumber.setAux_aux_ne _ h)).trans (steps f)

theorem State.requestStep_asks (steps : (s.aux e).steps = []) (named : (s.dir e).state ≠ .empty) (cut : Bool) :
    s.requestStep (some e) (.closed cut) = (s.asks e cut).runStore := by
  simp only [State.requestStep, named, false_and, if_false, steps, List.nil_append]
  rfl

/-- R167: the one step that is pending is written where the queue allows it. -/
theorem State.asks_stepOnce (h : s.StoreRests) (e : Fin 32) (cut : Bool) :
    (s.asks e cut).stepOnce = some ((s.asks e cut).takeStep e (.closed cut)) := by
  have allowed : (s.asks e cut).stepAllowed e (.closed cut, s.store.seq) = true :=
    State.stepAllowed_closed.2 fun r queued => absurd (h.queue ▸ queued : r ∈ []) (by simp)
  cases step : (s.asks e cut).stepOnce with
  | none => exact absurd (allowed.symm.trans (State.stepOnce_eq_none.1 step e _ [] (s.asks_steps e cut))) (by decide)
  | some t =>
    obtain ⟨f, st, n, rest, first, -, rfl, -⟩ := State.stepOnce_takes step
    by_cases same : f = e
    · subst same
      cases (s.asks_steps f cut).symm.trans first
      rfl
    · exact absurd ((State.asks_steps_ne h.steps cut same).symm.trans first) (by simp)

/-- R167: with nothing queued a CLOSED step asked of a file whose steps are done is written at once. -/
theorem State.requestStep_closes (h : s.StoreRests) (named : (s.dir e).state ≠ .empty) (cut : Bool) :
    ((s.requestStep (some e) (.closed cut)).dir e).state = .closed ∧
      ((s.requestStep (some e) (.closed cut)).dir e).cut = cut := by
  let written : State := (s.asks e cut).takeStep e (.closed cut)
  have rests : written.StoreRests := by
    refine ⟨h.queue, fun f => ?_⟩
    by_cases same : f = e
    · rw [same, State.takeStep_steps, State.asks_steps]; rfl
    · exact (congrArg FileAux.steps ((s.asks e cut).setAux_aux_ne _ same)).trans (State.asks_steps_ne h.steps cut same)
  have steps : (s.asks e cut).runSteps 64 = written := by
    rw [State.runSteps, State.asks_stepOnce h e cut]
    exact State.runSteps_of_none 63 rests.stepOnce
  have dir : (s.asks e cut).runStore.dir e = written.dir e := by
    rw [State.runStore_runSteps steps rests.stepOnce]
    exact rests.runStore.dir e
  rw [State.requestStep_asks (h.steps e) named, dir, show written.dir e = _ from State.writeStep_closed _ e cut]
  exact ⟨rfl, rfl⟩

/-- R167: a CLOSED step waits for a record of its file that is being programmed. -/
theorem State.requestStep_waits {r : QRecord} (steps : ∀ f, (s.aux f).steps = []) (named : (s.dir e).state ≠ .empty)
    (queued : r ∈ s.store.queue) (bound : r.bound = .file e) (before : r.seq < s.store.seq)
    (running : s.store.program.isSome = true) (cut : Bool) : s.requestStep (some e) (.closed cut) = s.asks e cut := by
  have refused : (s.asks e cut).stepAllowed e (.closed cut, s.store.seq) = false := by
    rw [← Bool.not_eq_true, State.stepAllowed_closed]
    exact fun all => Nat.not_le.2 before (all r queued bound)
  have done : (s.asks e cut).stepOnce = none := State.stepOnce_eq_none.2 fun f x rest pending => by
    by_cases same : f = e
    · subst same
      cases (s.asks_steps f cut).symm.trans pending
      exact refused
    · exact absurd ((State.asks_steps_ne steps cut same).symm.trans pending) (by simp)
  have busy : (s.asks e cut).engineStep = (s.asks e cut, false) := by
    rw [State.engineStep, if_pos (.inr (.inl running))]
  rw [State.requestStep_asks (steps e) named, State.runStore, State.storeLoop, State.runSteps_of_none 64 done, busy]
  rfl

/-! ## A file that ends in a TOTALS record (R158) -/

/-- R169: what the beginning of a program leaves: the store but the program, the directory and the accountant. -/
theorem State.startProgram_begins (s : State) (e : Fin 32) (p : Place) (rs : List QRecord) : ∃ op : ProgramOp,
    (s.startProgram e p rs).store = { s.store with program := some op } ∧ op.file = e ∧ op.records = rs ∧
      (∀ f, (s.startProgram e p rs).dir f = s.dir f) ∧ (s.startProgram e p rs).accountant = s.accountant := by
  have widened : (s.widenLast e p.page).store = s.store ∧ ∀ f, (s.widenLast e p.page).dir f = s.dir f := by
    unfold State.widenLast
    repeat' split
    all_goals exact ⟨rfl, fun _ => rfl⟩
  obtain ⟨store, dir⟩ := widened
  unfold State.startProgram
  simp only [store]
  exact ⟨_, rfl, rfl, rfl, dir, s.widenLast_accountant e p.page⟩

/-- R168: the record that an offer bound to a file makes. -/
def State.offered (s : State) (type : RecordType) (rest : List Byte) (e : Fin 32) (p q : Bool) : QRecord where
  seq := s.store.seq
  type := type
  rest := rest
  offered := s.seconds
  bound := .file e
  priority := p
  saturated := q

/-- R169: an idle engine programs the one record that is queued, where its place needs no granule. -/
theorem State.engineStep_programs {r : QRecord} (listens : s.station = .listen) (noProgram : s.store.program = none)
    (noErase : s.store.erase = none) (noArea : s.store.area = none) (queue : s.store.queue = [r]) (bound : r.bound = .file e)
    (named : (s.dir e).state ≠ .empty) (room : (s.map.place (s.dir e) r.size).needs = false) :
    s.engineStep = (s.startProgram e (s.map.place (s.dir e) r.size) [r], false) := by
  have idle : ¬(s.station = .start ∨ s.store.program.isSome = true ∨ s.store.area.isSome = true) := by
    simp [listens, noProgram, noArea]
  have file : s.fileOf r = some e := by simp [State.fileOf, bound, named]
  have first : (s.store.queue.find? fun r => (s.fileOf r).isSome) = some r := by simp [queue, file]
  have fits : s.programmable r = true := by simp [State.programmable, file, room]
  have alone : s.followers r (fun _ => true) = [] := by simp [State.followers, queue]
  simp only [State.engineStep, if_neg idle, noErase, State.chooseIdle, first, file, fits, if_true, alone, State.programFrom, room,
    takeFit]
  rfl

/-- R168, R169: a record offered to an idle store whose queue is empty is programmed at once, alone. -/
theorem State.append_programs (h : s.StoreRests) (live : s.cfg.isSome = true) (listens : s.station = .listen)
    (named : (s.dir e).state ≠ .empty) (noProgram : s.store.program = none) (noErase : s.store.erase = none)
    (noArea : s.store.area = none) (type : RecordType) (rest : List Byte) (p q : Bool)
    (room : (s.map.place (s.dir e) (rest.length + 7)).needs = false) :
    s.append type rest (.file e) p q = (s.nextNumber.enqueue (s.offered type rest e p q)).startProgram e
      (s.map.place (s.dir e) (rest.length + 7)) [s.offered type rest e p q] := by
  let r : QRecord := s.offered type rest e p q
  let queued : State := s.nextNumber.enqueue r
  have queue : queued.store.queue = [r] := by
    change s.store.queue ++ [r] = [r]
    rw [h.queue]; rfl
  have taken : s.nextNumber.takeRecord r = queued := by
    have short : s.nextNumber.store.queue.length < Config.appendSize := by
      change s.store.queue.length < _
      rw [h.queue]; decide
    rw [State.takeRecord, if_neg (by simp [r, State.offered]), if_pos short]
  have chosen := State.engineStep_programs (s := queued) (e := e) listens noProgram noErase noArea queue rfl named room
  have done : queued.stepOnce = none := State.stepOnce_of_steps h.steps
  have asked : ¬(s.cfg.isNone = true ∨ s.station = .commission ∨ s.station = .startHalt) := by
    rw [Option.isNone_eq_false_iff.2 live]
    simp [listens]
  rw [State.append, if_neg asked]
  change (s.nextNumber.takeRecord r).runStore = _
  rw [taken, State.runStore, State.storeLoop, State.runSteps_of_none 64 done, chosen]
  rfl

/-- R158: a CLOSE record with reason restart cut is programmed first, and the file's CLOSED step waits for it. -/
theorem State.takeReport_totals {r : FileReport} {time : Nat} (h : s.StoreRests) (unfinished : r.collating = false)
    (last : r.last = some (4, time)) (found : (s.dir r.entry).state = .opened) (live : s.cfg.isSome = true)
    (listens : s.station = .listen) (noProgram : s.store.program = none) (noErase : s.store.erase = none)
    (noArea : s.store.area = none) (room : (s.map.place (s.dir r.entry) 11).needs = false) :
    ∃ op record, (s.takeReport r).store.program = some op ∧ op.file = r.entry ∧ op.records = [record] ∧
      record.type = .close ∧ record.bound = .file r.entry ∧ record.rest = [3, 0xFF, 0xFF, 2] ∧
      ((s.takeReport r).aux r.entry).steps = [(.closed true, s.store.seq + 1)] ∧
      (s.takeReport r).accountant = s.accountant := by
  let record : QRecord := s.offered .close (closeRest 3 none false) r.entry false false
  have named : (s.dir r.entry).state ≠ .empty := by rw [found]; decide
  let started : State := (s.nextNumber.enqueue record).startProgram r.entry (s.map.place (s.dir r.entry) 11) [record]
  have appended : s.append .close (closeRest 3 none false) (.file r.entry) false false = started :=
    State.append_programs h live listens named noProgram noErase noArea .close (closeRest 3 none false) false false room
  have taken : s.takeReport r = started.requestStep (some r.entry) (.closed true) := by
    simp [State.takeReport, unfinished, last, appended]
  obtain ⟨op, store, file, records, dir, accountant⟩ : ∃ op : ProgramOp, _ ∧ _ :=
    (s.nextNumber.enqueue record).startProgram_begins r.entry (s.map.place (s.dir r.entry) 11) [record]
  change started.store = _ at store
  have aux (f : Fin 32) : started.aux f = s.aux f := by rw [State.aux, store]; rfl
  have seq : started.store.seq = s.store.seq + 1 := by rw [store]; rfl
  have queued : record ∈ started.store.queue := by
    rw [store]
    exact List.mem_append_right _ (List.mem_singleton_self _)
  have waits := State.requestStep_waits (s := started) (e := r.entry) (r := record) (fun f => (aux f).symm ▸ h.steps f)
    ((dir r.entry).symm ▸ named) queued rfl (by rw [seq]; exact Nat.lt_succ_self _) (by rw [store]; rfl) true
  rw [taken, waits]
  refine ⟨op, record, congrArg Store.program store, file, records, rfl, rfl, rfl, ?_, accountant⟩
  exact (congrArg FileAux.steps (State.setAux_aux_self _ _ _)).trans (by rw [seq])

/-! ## A file that is resumed (R159) -/

/-- R159: a resumed file is current with the time base that its age gives, and the rest of the store at rest stands. -/
theorem State.resumeFile_eq (h : s.StoreRests) (e : Fin 32) (age : Nat) :
    (s.resumeFile e age).course = (some e, fun f => if f = e then (s.seconds : Int) - age else (s.aux f).base) ∧
      ((s.resumeFile e age).dir e).shift = (s.dir e).shift := by
  let based : State := s.setAux e { s.aux e with base := (s.seconds : Int) - age }
  have course (t : State) (k : t.course = (based.bindNext e).course) :
      t.course = (some e, fun f => if f = e then (s.seconds : Int) - age else (s.aux f).base) := by
    refine k.trans (Prod.ext rfl (funext fun f => ?_))
    by_cases same : f = e
    · subst same
      exact (congrArg FileAux.base (s.setAux_aux_self f _)).trans (if_pos rfl).symm
    · exact (congrArg FileAux.base (s.setAux_aux_ne _ same)).trans (if_neg same).symm
  have rests : (based.bindNext e).StoreRests := by
    refine ⟨?_, fun f => ?_⟩
    · change s.store.queue.map _ = []
      rw [h.queue]; rfl
    · by_cases same : f = e
      · subst same
        exact (congrArg FileAux.steps (s.setAux_aux_self f _)).trans (h.steps f)
      · exact (congrArg FileAux.steps (s.setAux_aux_ne _ same)).trans (h.steps f)
  unfold State.resumeFile
  simp only
  split
  · have marked : ((based.bindNext e).writeDir e { s.dir e with gap := true }).StoreRests := ⟨rests.queue, rests.steps⟩
    refine ⟨course _ (State.runStore_course _), (congrArg DirEntry.shift (marked.runStore.dir e)).trans ?_⟩
    exact (congrArg DirEntry.shift (State.writeDir_dir_self (based.bindNext e) e { s.dir e with gap := true })).trans rfl
  · exact ⟨course _ (State.runStore_course _), congrArg DirEntry.shift (rests.runStore.dir e)⟩

/-- R161: the RESTART record leaves the accountant but its own mark, the current file and the time bases. -/
theorem State.offerRestart_keeps (s : State) (resumed : Bool) :
    (s.offerRestart resumed).accountant = { s.accountant with restartDue := false } ∧
      (s.offerRestart resumed).course = s.course := by
  unfold State.offerRestart
  split
  · exact ⟨State.append_accountant _ _ _ _ _ _, State.append_course _ _ _ _ _ _⟩
  · rename_i done
    refine ⟨?_, rfl⟩
    rw [Bool.not_eq_true] at done
    rw [← done]

/-- R159: a file is resumed: its number is the shift's, the timer runs for what its age leaves, and its records' times go on from
its age. -/
theorem State.resumeShift_resumes (h : s.StoreRests) (e : Fin 32) (age : Nat) :
    (s.resumeShift e age).accountant.shift = some (s.dir e).shift ∧
      (s.resumeShift e age).accountant.shiftDue = some (s.now + (s.shiftLength - age * 1000)) ∧
      (s.resumeShift e age).accountant.file = some e ∧ (s.resumeShift e age).store.current = some e ∧
      ((s.resumeShift e age).aux e).base = (s.seconds : Int) - age ∧ (s.resumeShift e age).accountant.restartDue = false := by
  obtain ⟨course, shift⟩ := State.resumeFile_eq h e age
  have still := s.resumeFile_still e age
  have now : (s.resumeFile e age).now = s.now := congrArg Still.now still
  have cfg : (s.resumeFile e age).cfg = s.cfg := congrArg Still.cfg still
  have length : (s.resumeFile e age).shiftLength = s.shiftLength := by simp only [State.shiftLength, cfg]
  unfold State.resumeShift
  extract_lets s1 due acc s2
  obtain ⟨accountant, kept⟩ := s2.offerRestart_keeps true
  have ends : (s2.offerRestart true).course = _ := kept.trans course
  rw [accountant]
  refine ⟨congrArg some shift, ?_, rfl, congrArg Prod.fst ends, ?_, rfl⟩
  · simp only [s2, due, s1, now, length]
  · exact (congrFun (congrArg Prod.snd ends) e).trans (if_pos rfl)

/-! ## What a report asks for (R158) -/

theorem State.takeReport_cut {r : FileReport} (h : r.collating = true ∨ ∃ time, r.last = some (6, time)) :
    s.takeReport r = s.requestStep (some r.entry) (.closed true) := by
  rcases h with collating | ⟨time, last⟩
  · simp [State.takeReport, collating]
  · by_cases collating : r.collating = true <;> simp [State.takeReport, collating, last]

theorem State.takeReport_resumes {r : FileReport} {age : Nat} (unfinished : r.collating = false)
    (h : (r.last = none ∧ age = 0) ∨ ∃ type, r.last = some (type, age) ∧ type ≠ 4 ∧ type ≠ 6) :
    s.takeReport r = s.resumeShift r.entry age := by
  rcases h with ⟨last, rfl⟩ | ⟨type, last, totals, close⟩
  · simp [State.takeReport, unfinished, last]
  · unfold State.takeReport
    rw [unfinished, last]
    split
    · contradiction
    split
    · rename_i same
      cases same
      exact absurd rfl close
    · rename_i same
      cases same
      exact absurd rfl totals
    · rename_i same
      cases same
      rfl
    · contradiction

end

end Sys2Proof.Machine
end

section
/-! PROOFS. Both starts (R20, R110, R160, R176, R177, R179): the OTP read, the acceptance of the image, the start scan and the state
that is entered. -/

namespace Sys2Proof.Machine

section
variable {s t : State}

/-! ## The OTP read and the acceptance (R69, R70, R177, R178) -/

theorem State.kickStream_writes (s : State) : ∃ o, s.kickStream = { s with output := o } := by
  unfold State.kickStream
  repeat' split
  all_goals exact ⟨_, rfl⟩

theorem State.mapOutput_writes (s : State) (o : Fin 8) : ∃ p, s.mapOutput o = { s with output := p } := by
  rw [State.mapOutput_eq]
  split
  · exact ⟨_, rfl⟩
  · unfold State.writeLatch
    split
    · exact ⟨_, rfl⟩
    · obtain ⟨p, kicked⟩ := State.kickStream_writes
        ((s.named o).setLatch o { (s.named o).latch o with count := 0, pending := true })
      exact ⟨p, kicked⟩

theorem foldl_mapOutput_writes (l : List (Fin 8)) (s : State) : ∃ p, l.foldl State.mapOutput s = { s with output := p } := by
  induction l generalizing s with
  | nil => exact ⟨_, rfl⟩
  | cons o l ih =>
    obtain ⟨p, first⟩ := s.mapOutput_writes o
    obtain ⟨q, rest⟩ := ih { s with output := p }
    exact ⟨q, by rw [List.foldl_cons, first, rest]⟩

/-- R177, R178: what the acceptance of an image writes, before the alarm unit takes the request it may send. -/
theorem State.acceptImage_writes (s : State) (img : List Byte) : ∃ heat fields estimate output agenda,
    s.acceptImage img = State.settle { s with
      cfg := some (takeCfg img), clampedFields := clampedCount img, heat := heat, fields := fields, output := output
      channels := { s.channels with slots := (takeUnits img).map (SlotUnit.begin s.now), estimate := estimate }
      agenda := agenda } ∧ (clampedCount img = 0 → agenda = s.agenda) := by
  unfold State.acceptImage
  extract_lets g slots _ _ _ s1 _ s2 s3 s4
  obtain ⟨p, mapped⟩ : ∃ p, s3 = { s2 with output := p } := foldl_mapOutput_writes outputList s2
  by_cases clamped : 0 < s3.clampedFields
  · have count : s3.clampedFields = clampedCount img := by rw [mapped]
    refine ⟨s2.heat, s2.fields, s2.channels.estimate, p, s.agenda ++ [.raise .configClamped 255], ?_, fun none => by omega⟩
    simp only [s4, if_pos clamped, mapped]
    rfl
  · refine ⟨s2.heat, s2.fields, s2.channels.estimate, p, s.agenda, ?_, fun _ => rfl⟩
    simp only [s4, if_neg clamped, mapped]
    rfl

/-- R177: the image is accepted where there is one. -/
def State.acceptFound (s : State) : Option (List Byte) → State
  | none => s
  | some img => s.acceptImage img

/-- R176: a start up to the OTP read. -/
def State.woken (s : State) (line strap : Bool) : State :=
  { s.quiet s.channels.inHand with
    supply := true, resetHeld := false, strap := strap, accountant := { restartDue := true, lineStart := line } }

/-- R176: a start up to the start scan. -/
def State.loaded (s : State) (line strap : Bool) : State := ((s.woken line strap).readOtp line).acceptFound s.nv.image

/-- R176: the four steps of a start. -/
theorem State.start_eq (s : State) (line strap : Bool) :
    s.start line strap = (s.loaded line strap).startScan.enterNext.settle := by
  have nv : ((s.woken line strap).readOtp line).nv = s.nv := State.readOtp_nv _ line
  unfold State.loaded
  rw [← nv]
  unfold State.start State.acceptFound
  rfl

/-- What the acceptance of an image gives besides the configuration; without an image, what stands there. -/
structure Acceptance where
  clamped : Nat
  heat : Heat
  fields : Fields
  channels : Channels
  output : Output
  agenda : List AlarmRequest

/-- R20, R176 to R179: a quiet part with the protection, the configuration and what the acceptance of the image has given, before
the alarm unit takes CONFIGURATION CLAMPED. -/
def State.accepted (s : State) (line strap : Bool) (x : Acceptance) : State :=
  { s.woken line strap with
    protection := s.nv.protect strap, cfg := s.nv.image.map takeCfg, clampedFields := x.clamped, heat := x.heat
    fields := x.fields, channels := x.channels, output := x.output, agenda := x.agenda }

/-- R20, R110, R177, R178: a start up to the start scan: the in-hand counts are kept, every slot is stopped, and the alarm unit is
asked for something only where a field was clamped. -/
theorem State.loaded_eq (s : State) (line strap : Bool) : ∃ x : Acceptance,
    s.loaded line strap = (s.accepted line strap x).settle ∧ x.channels.inHand = s.channels.inHand ∧
      (∀ i : Fin 4, x.channels.slots[i].stable = true) ∧ (x.clamped = 0 → x.agenda = []) := by
  let woken : State := s.woken line strap
  obtain ⟨p, read⟩ : ∃ p, woken.readOtp line = { woken with protection := s.nv.protect strap, output := p } := by
    obtain ⟨p, kicked⟩ := (woken.calibrated line).kickStream_writes
    exact ⟨p, kicked⟩
  have loaded : s.loaded line strap = (woken.readOtp line).acceptFound s.nv.image := rfl
  rw [loaded]
  cases image : s.nv.image with
  | none =>
    refine ⟨⟨0, {}, {}, woken.channels, p, []⟩, ?_, rfl, fun i => ?_, fun _ => rfl⟩
    · rw [State.settle_nil rfl, State.accepted, image]
      exact read
    · have unused : woken.channels.slots[i] = .unused := by
        change (Vector.replicate 4 SlotUnit.unused)[i] = _
        simp
      rw [unused]; rfl
  | some img =>
    obtain ⟨heat, fields, estimate, output, agenda, accepted, quiet⟩ := (woken.readOtp line).acceptImage_writes img
    rw [read] at accepted quiet
    refine ⟨⟨clampedCount img, heat, fields, { woken.channels with
      slots := (takeUnits img).map (SlotUnit.begin woken.now), estimate := estimate }, output, agenda⟩, ?_, rfl, fun i => ?_, quiet⟩
    · rw [State.accepted, image]
      exact (congrArg (State.acceptImage · img) read).trans accepted
    · simp only [Fin.getElem_fin, Vector.getElem_map, takeUnits, Vector.getElem_ofFn]
      exact takeUnit_stable img (takeFuels img) i _

/-! ## The start scan (R174) -/

/-- R174: between two states the map is rewritten, but no file's state, and chain repairs and orphans are counted. -/
def State.Rescans (s t : State) : Prop :=
  (∃ map log counters, t = { s with map := map, mapLog := log, store := { s.store with counters := counters } }) ∧
    ∀ e, (t.dir e).state = (s.dir e).state

namespace State.Rescans

theorem refl (s : State) : s.Rescans s := ⟨⟨_, _, _, rfl⟩, fun _ => rfl⟩

theorem trans {u : State} (h : s.Rescans t) (k : t.Rescans u) : s.Rescans u := by
  obtain ⟨⟨m, l, c, rfl⟩, first⟩ := h
  obtain ⟨⟨n, k, d, rfl⟩, second⟩ := k
  exact ⟨⟨n, k, d, rfl⟩, fun e => (second e).trans (first e)⟩

theorem writeGranule (h : s.Rescans t) (g : Fin 128) (v : Granule) : s.Rescans (t.writeGranule g v) :=
  h.trans ⟨⟨_, _, _, rfl⟩, fun _ => rfl⟩

theorem countStore (h : s.Rescans t) (f : StoreCounters → StoreCounters) : s.Rescans (t.countStore f) :=
  h.trans ⟨⟨_, _, _, rfl⟩, fun _ => rfl⟩

/-- R174: an entry is rewritten with its state. -/
theorem writeDir (h : s.Rescans t) {e : Fin 32} {v : DirEntry} (same : v.state = (t.dir e).state) : s.Rescans (t.writeDir e v) := by
  refine h.trans ⟨⟨_, _, _, rfl⟩, fun f => ?_⟩
  by_cases k : f = e
  · rw [k, State.writeDir_dir_self, same]
  · rw [State.writeDir_dir_ne _ _ _ _ k]

theorem foldl {α : Type} {f : State → α → State} (h : ∀ (s : State) (a : α), s.Rescans (f s a)) (l : List α) :
    s.Rescans (l.foldl f s) := by
  induction l generalizing s with
  | nil => exact .refl s
  | cons a l ih => exact (h s a).trans ih

end State.Rescans

theorem State.repairChain_rescans (s : State) (e : Fin 32) : s.Rescans (s.repairChain e) := by
  unfold State.repairChain
  extract_lets d
  split
  · exact .refl s
  · split
    · exact (State.Rescans.refl s).writeDir rfl
    · exact .refl s
  · extract_lets r cut s1 first
    have corrected : s.Rescans cut := by
      simp only [cut]
      split
      · exact .refl s
      · exact (State.Rescans.refl s).writeGranule _ _
    have walked : s.Rescans s1 := by
      simp only [s1]
      split
      · exact .refl s
      · exact corrected.countStore _
    split
    · exact walked
    · exact walked.writeDir (walked.2 e).symm

theorem State.orphanGranule_rescans (inChain : List (Fin 128)) (s : State) (g : Fin 128) :
    s.Rescans (State.orphanGranule inChain s g) := by
  unfold State.orphanGranule
  split
  · exact ((State.Rescans.refl s).writeGranule _ _).countStore _
  · exact .refl s

theorem State.scanFile_rescans (s : State) (e : Fin 32) : s.Rescans (s.scanFile e) := by
  unfold State.scanFile
  extract_lets d chain r d1 s1
  have found : s.Rescans s1 := by
    simp only [s1]
    split
    · exact .refl s
    · exact (State.Rescans.refl s).writeDir rfl
  split
  · exact found
  · split
    · exact found
    · exact found.writeGranule _ _

/-- R174: the start scan rewrites the map alone, and no file's state. -/
theorem State.startScan_rescans (s : State) : s.Rescans s.startScan := by
  unfold State.startScan
  extract_lets s1 s2
  have repaired : s.Rescans s1 := .foldl State.repairChain_rescans _
  have erased : s1.Rescans s2 := .foldl (State.orphanGranule_rescans _) _
  exact (repaired.trans erased).trans (.foldl State.scanFile_rescans _)

/-! ## What the scan and the next state keep (R158, R159, R176) -/

/-- What a start keeps from the acceptance of the image to its end: the still parts but the station and its listen timer, what the
accountant takes from a resumed file, and the scan's counters. -/
def State.opening (s : State) : Still :=
  { s.still with
    station := .start, picture := { s.picture with listenDue := none }, shift := none, shiftDue := none, file := none
    restartDue := false, writes := [] }

theorem opening_of_still (h : t.still = s.still) : t.opening = s.opening :=
  congrArg (fun k : Still => { k with
    station := .start, picture := { k.picture with listenDue := none }, shift := none, shiftDue := none, file := none
    restartDue := false, writes := [] }) h

theorem State.startScan_opening (s : State) : s.startScan.opening = s.opening := by
  obtain ⟨⟨map, log, counters, scanned⟩, -⟩ := s.startScan_rescans
  rw [scanned]; rfl

theorem State.startScan_accountant (s : State) : s.startScan.accountant = s.accountant := by
  obtain ⟨⟨map, log, counters, scanned⟩, -⟩ := s.startScan_rescans
  rw [scanned]

theorem State.takeReport_opening (s : State) (r : FileReport) : (s.takeReport r).opening = s.opening := by
  have restart (t : State) : (t.offerRestart true).opening = t.opening := by
    unfold State.offerRestart
    split
    · exact (opening_of_still (State.append_still _ _ _ _ _ _)).trans rfl
    · rfl
  have resumes (e : Fin 32) (age : Nat) : (s.resumeShift e age).opening = s.opening :=
    (restart _).trans (opening_of_still (t := s.resumeFile e age) (s.resumeFile_still e age))
  unfold State.takeReport
  repeat' split
  · exact opening_of_still (s.requestStep_still _ _)
  · exact opening_of_still (s.requestStep_still _ _)
  · exact opening_of_still ((State.requestStep_still _ _ _).trans (s.append_still _ _ _ _ _))
  · exact resumes _ _
  · exact resumes _ _

theorem State.takeReport_plant (s : State) (r : FileReport) : (s.takeReport r).plant = s.plant := by
  have restart (t : State) : (t.offerRestart true).plant = t.plant := by
    unfold State.offerRestart
    split
    · exact State.append_plant _ _ _ _ _ _
    · rfl
  have resumes (e : Fin 32) (age : Nat) : (s.resumeShift e age).plant = s.plant :=
    (restart _).trans (s.resumeFile_plant e age)
  unfold State.takeReport
  repeat' split
  · exact s.requestStep_plant _ _
  · exact s.requestStep_plant _ _
  · exact (State.requestStep_plant _ _ _).trans (s.append_plant _ _ _ _ _)
  · exact resumes _ _
  · exact resumes _ _

/-- R176: the state that is entered after the scan. -/
def State.nextStation (s : State) : StationState :=
  if s.cfg.isNone then .startHalt else if s.protection = .commission then .commission else .listen

theorem State.nextStation_ne_run (s : State) : s.nextStation ≠ .run := by
  unfold State.nextStation
  repeat' split
  all_goals decide

/-- R37, R176: the next state is entered, before the accountant takes the scan's reports. -/
def State.entered (s : State) : State :=
  { s with
    station := s.nextStation
    picture := { s.picture with
      listenDue := if s.nextStation = .listen then some (s.now + s.lostTime) else s.picture.listenDue } }

theorem State.entered_accountant (s : State) : s.entered.accountant = s.accountant := rfl

theorem State.enterNext_eq (s : State) : s.enterNext =
    State.runStore (if s.nextStation = .listen then s.entered.reports.foldl State.takeReport s.entered else s.entered) := by
  by_cases unconfigured : s.cfg.isNone = true
  · simp [State.enterNext, State.entered, State.nextStation, unconfigured]
  by_cases commissioned : s.protection = .commission
  · simp [State.enterNext, State.entered, State.nextStation, unconfigured, commissioned]
  · simp [State.enterNext, State.entered, State.nextStation, unconfigured, commissioned]

theorem State.enterNext_opening (s : State) : s.enterNext.opening = s.opening := by
  have reports (l : List FileReport) (t : State) : (l.foldl State.takeReport t).opening = t.opening :=
    List.foldlRecOn (motive := fun u : State => u.opening = t.opening) l _ rfl fun u kept r _ =>
      (u.takeReport_opening r).trans kept
  rw [State.enterNext_eq]
  refine (opening_of_still (State.runStore_still _)).trans ?_
  split
  · exact (reports _ _).trans rfl
  · rfl

theorem State.enterNext_plant (s : State) : s.enterNext.plant = s.plant := by
  have reports (l : List FileReport) (t : State) : (l.foldl State.takeReport t).plant = t.plant :=
    List.foldlRecOn (motive := fun u : State => u.plant = t.plant) l _ rfl fun u kept r _ => (u.takeReport_plant r).trans kept
  rw [State.enterNext_eq]
  refine (State.runStore_plant _).trans ?_
  split
  · exact (reports _ _).trans rfl
  · rfl

theorem State.enterNext_station (s : State) : s.enterNext.station = s.nextStation := by
  have reports (l : List FileReport) (t : State) : (l.foldl State.takeReport t).station = t.station :=
    congrArg Outlook.station (foldl_outlook _ State.takeReport_outlook l t)
  rw [State.enterNext_eq]
  refine (congrArg Still.station (State.runStore_still _)).trans ?_
  split
  · exact (reports _ _).trans rfl
  · rfl

/-- R174: with no file OPEN or COLLATING the scan reports none. -/
theorem State.enterNext_quiet (h : ∀ e, (s.dir e).state = .empty ∨ (s.dir e).state = .closed) :
    s.enterNext = s.entered.runStore := by
  have finished (e : Fin 32) : s.entered.unfinished e = false := by
    change ((s.dir e).state == .opened || (s.dir e).state == .collating) = false
    rcases h e with empty | closed
    · rw [empty]; rfl
    · rw [closed]; rfl
  have none : s.entered.reports = [] := by simp [State.reports, finished]
  rw [State.enterNext_eq, none]
  exact congrArg State.runStore (ite_self _)

/-! ## The files while the image is accepted -/

/-- What the store does not move while the station is in START: the pending file steps and the state of every file. -/
def State.plan (s : State) : StationState × (Fin 32 → List (FileStep × Nat)) × (Fin 32 → FileState) :=
  (s.station, fun f => (s.aux f).steps, fun f => (s.dir f).state)

theorem State.dropRecord_plan (s : State) (r : QRecord) : (s.dropRecord r).plan = s.plan := by
  have flagged (e : Fin 32) : (s.setAux e { s.aux e with gapDue := true }).plan = s.plan := by
    refine Prod.ext rfl (Prod.ext (funext fun f => ?_) rfl)
    by_cases same : f = e
    · rw [same]
      exact (congrArg FileAux.steps (s.setAux_aux_self e { s.aux e with gapDue := true })).trans rfl
    · exact congrArg FileAux.steps (s.setAux_aux_ne _ same)
  have marked (e : Fin 32) : (s.writeDir e { s.dir e with gap := true }).plan = s.plan := by
    refine Prod.ext rfl (Prod.ext rfl (funext fun f => ?_))
    by_cases same : f = e
    · rw [same]
      exact (congrArg DirEntry.state (s.writeDir_dir_self e { s.dir e with gap := true })).trans rfl
    · exact congrArg DirEntry.state (s.writeDir_dir_ne e f _ same)
  unfold State.dropRecord
  split
  · split
    · exact flagged _
    · split
      · rfl
      · exact marked _
  · rfl
  · rfl

theorem State.takeRecord_plan (s : State) (r : QRecord) : (s.takeRecord r).plan = s.plan := by
  unfold State.takeRecord
  repeat' split
  case isFalse.isTrue => rfl
  all_goals exact (State.dropRecord_plan _ _).trans rfl

/-- R169: before the start scan has ended the engine chooses nothing. -/
theorem State.runStore_start (start : s.station = .start) (steps : ∀ f, (s.aux f).steps = []) : s.runStore = s := by
  have done : s.stepOnce = none := State.stepOnce_of_steps steps
  have waits : s.engineStep = (s, false) := by rw [State.engineStep, if_pos (.inl start)]
  rw [State.runStore, State.storeLoop, State.runSteps_of_none 64 done, waits]
  rfl

theorem State.offer_plan (s : State) (n : Notice) : (s.offer n).plan = s.plan := by
  have back (t : State) : (t.handBack n).plan = t.plan := by
    unfold State.handBack
    repeat' split
    all_goals rfl
  have backoff (t : State) : t.enterBackoff.plan = t.plan := by
    obtain ⟨l, f, eq⟩ := t.enterBackoff_frame
    rw [eq]; rfl
  have kicked (t : State) : t.kickAccess.plan = t.plan := by
    obtain ⟨l, f, eq⟩ := t.kickAccess_frame
    rw [eq]; rfl
  unfold State.offer
  simp only
  repeat' split
  · exact (back _).trans rfl
  · rfl
  · exact (backoff _).trans rfl
  · exact (kicked _).trans rfl
  · exact (back _).trans rfl

/-- R168: in START the alarm unit's work leaves the files' states. -/
theorem plan_carries (files : Fin 32 → FileState) :
    AlarmCarries fun s => s.Resting ∧ s.plan = (.start, fun _ => [], files) where
  alarms a h := ⟨resting_carries.alarms a h.1, h.2⟩
  agenda a h := ⟨resting_carries.agenda a h.1, h.2⟩
  raised n h := ⟨resting_carries.raised n h.1, h.2⟩
  offer n h := ⟨h.1.offer n, (State.offer_plan _ n).trans h.2⟩
  trips h := ⟨h.1.evalTrips, by rw [State.evalTrips_stable h.1.stable]; exact h.2⟩
  append {s} type rest b p q h := by
    have ran (t : State) (k : t.plan = (.start, fun _ => [], files)) : t.runStore.plan = (.start, fun _ => [], files) := by
      rw [State.runStore_start (congrArg Prod.fst k) fun f => congrFun (congrArg (fun x => x.2.1) k) f]
      exact k
    refine ⟨h.1.append type rest b p q, ?_⟩
    unfold State.append
    split
    · exact h.2
    · exact ran _ ((State.takeRecord_plan _ _).trans h.2)

/-! ## A start (R20, R110, R160, R176 to R179) -/

/-- What a start leaves of the part: the values of R20, R110, R176, R177 and R179, and with no file OPEN or COLLATING no shift. -/
structure State.StartsAs (s t : State) (strap : Bool) : Prop where
  supply : t.supply = true
  resetHeld : t.resetHeld = false
  sampled : t.strap = strap
  nv : t.nv = s.nv
  inHand : t.channels.inHand = s.channels.inHand
  protection : t.protection = s.nv.protect strap
  cfg : t.cfg = s.nv.image.map takeCfg
  station : t.station =
    if s.nv.image.isNone then .startHalt else if s.nv.protect strap = .commission then .commission else .listen
  picture : t.picture.entries = [] ∧ t.picture.stations = [] ∧ t.picture.order = none ∧ t.picture.target = 0
  access : t.link.access = .idle
  window : t.link.window = 4
  backoff : t.link.backoff = 0
  timers : t.link.discardsInRow = 0 ∧ t.link.silenceDue = none ∧ t.link.duplicateDue = none ∧ t.link.exhaustionCause = false ∧
    t.link.silenceCause = false
  observed : t.alarms.observed = false
  port : t.port.lastResult = .none ∧ t.port.window = none
  quiet : (∀ e, (s.dir e).state = .empty ∨ (s.dir e).state = .closed) →
    t.accountant.shift = none ∧ t.accountant.shiftDue = none ∧ t.accountant.collating = none ∧ t.accountant.restartDue = true ∧
      (t.clampedFields = 0 → t.link = {})

theorem station_of_still (h : t.still = s.still) : t.station = s.station := congrArg Still.station h

theorem channels_of_plant (h : t.plant = s.plant) : t.channels = s.channels := congrArg Prod.fst h

/-- What the accountant holds of its shifts stands with the still parts. -/
theorem ledger_of_still (h : t.still = s.still) : t.accountant.shift = s.accountant.shift ∧
    t.accountant.shiftDue = s.accountant.shiftDue ∧ t.accountant.collating = s.accountant.collating ∧
    t.accountant.restartDue = s.accountant.restartDue :=
  ⟨congrArg Still.shift h, congrArg Still.shiftDue h, congrArg Still.collating h, congrArg Still.restartDue h⟩

/-- R176: what a start keeps from the acceptance on. -/
theorem State.start_opening {line strap : Bool} {u : State} (loaded : s.loaded line strap = u.settle) :
    (s.start line strap).opening = u.opening := by
  have settled (t : State) : t.settle.opening = t.opening := opening_of_still t.settle_still
  calc (s.start line strap).opening
    _ = (s.loaded line strap).startScan.enterNext.opening := settled _
    _ = (s.loaded line strap).startScan.opening := State.enterNext_opening _
    _ = (s.loaded line strap).opening := State.startScan_opening _
    _ = u.settle.opening := by rw [loaded]
    _ = u.opening := settled u

/-- R14, R20: a station that is at rest as the scan begins is at rest as the next state is entered. -/
theorem State.Resting.enterNext (h : s.Resting) : s.startScan.enterNext.Resting := by
  obtain ⟨⟨map, log, counters, scanned⟩, -⟩ := s.startScan_rescans
  have scan : s.startScan.Resting := by
    rw [scanned]
    exact h.of_eq rfl rfl rfl
  refine ⟨?_, (congrArg Link.access (State.enterNext_link _)).trans scan.access,
    (congrArg Link.backoff (State.enterNext_link _)).trans scan.backoff, fun i => ?_⟩
  · rw [State.enterNext_station]
    exact State.nextStation_ne_run _
  · rw [State.slot_of_channels (channels_of_plant s.startScan.enterNext_plant)]
    exact scan.stable i

/-- R176: the state that a start ends in. -/
theorem State.start_station {line strap : Bool} {u : State} (loaded : s.loaded line strap = u.settle) :
    (s.start line strap).station = u.nextStation := by
  obtain ⟨⟨map, log, counters, scanned⟩, -⟩ := (s.loaded line strap).startScan_rescans
  have settled : u.settle.nextStation = u.nextStation := by
    simp only [State.nextStation, show u.settle.cfg = u.cfg from congrArg Still.cfg u.settle_still,
      show u.settle.protection = u.protection from congrArg Still.protection u.settle_still]
  calc (s.start line strap).station
    _ = (s.loaded line strap).startScan.enterNext.station := by
      rw [State.start_eq, station_of_still (State.settle_still _)]
    _ = (s.loaded line strap).startScan.nextStation := State.enterNext_station _
    _ = (s.loaded line strap).nextStation := by rw [scanned]; rfl
    _ = u.nextStation := by rw [loaded, settled]

/-- R160, R174: with no file OPEN or COLLATING a start takes no shift, and where no field was clamped no block offers anything. -/
theorem State.start_quiet {line strap : Bool} {x : Acceptance}
    (loaded : s.loaded line strap = (s.accepted line strap x).settle) (rest : (s.accepted line strap x).Resting)
    (h : ∀ e, (s.dir e).state = .empty ∨ (s.dir e).state = .closed) :
    ((s.start line strap).accountant.shift = none ∧ (s.start line strap).accountant.shiftDue = none ∧
      (s.start line strap).accountant.collating = none ∧ (s.start line strap).accountant.restartDue = true) ∧
    (x.agenda = [] → (s.start line strap).link = {}) := by
  let u : State := s.accepted line strap x
  have unstepped (f : Fin 32) : (u.aux f).steps = [] := by
    change ((Vector.replicate 32 ({} : FileAux))[f]).steps = []
    simp
  have plan : u.plan = (.start, fun _ => [], fun e => (s.dir e).state) :=
    Prod.ext rfl (Prod.ext (funext unstepped) rfl)
  have accepted : u.settle.plan = _ := ((plan_carries _).settle ⟨rest, plan⟩).2
  obtain ⟨⟨map, log, counters, scanned⟩, states⟩ := u.settle.startScan_rescans
  have files (e : Fin 32) : (u.settle.startScan.dir e).state = (s.dir e).state :=
    (states e).trans (congrFun (congrArg (fun p => p.2.2) accepted) e)
  have entered := State.enterNext_quiet fun e => (files e).symm ▸ h e
  have start : s.start line strap = u.settle.startScan.entered.runStore.settle := by
    rw [State.start_eq, loaded, entered]
  have still : (s.start line strap).still = u.settle.startScan.entered.still := by
    rw [start, State.settle_still, State.runStore_still]
  have shift : u.settle.startScan.entered.accountant = u.settle.accountant := by
    rw [State.entered_accountant, State.startScan_accountant]
  obtain ⟨number, due, collating, restart⟩ := ledger_of_still still
  obtain ⟨number', due', collating', restart'⟩ := ledger_of_still u.settle_still
  rw [number, due, collating, restart, shift]
  refine ⟨⟨number', due', collating', restart'⟩, fun unasked => ?_⟩
  · rw [show u.settle = u from State.settle_nil unasked] at start scanned
    have rests : u.startScan.entered.StoreRests := by
      rw [State.entered, scanned]
      exact ⟨rfl, unstepped⟩
    obtain ⟨y, c, ran⟩ := rests.runStore
    have agenda : u.startScan.entered.runStore.agenda = [] := by
      rw [ran, State.entered, scanned]
      exact unasked
    rw [start, State.settle_nil agenda, State.runStore_link, State.entered, scanned]
    rfl

theorem State.start_startsAs (s : State) (line strap : Bool) : s.StartsAs (s.start line strap) strap := by
  obtain ⟨x, loaded, inHand, stable, unasked⟩ := s.loaded_eq line strap
  have rest : (s.accepted line strap x).Resting := ⟨nofun, rfl, rfl, stable⟩
  have opening := State.start_opening loaded
  have ended : (s.start line strap).Resting := by
    rw [State.start_eq, loaded]
    exact resting_carries.settle (resting_carries.settle rest).enterNext
  have station : (s.start line strap).station =
      if (s.nv.image.map takeCfg).isNone then .startHalt else if s.nv.protect strap = .commission then .commission else .listen :=
    State.start_station loaded
  have quiet := State.start_quiet loaded rest
  generalize s.start line strap = t at opening ended station quiet
  have window : t.port.window.map (fun w => (w.entry, w.fixed, w.offset)) = none := congrArg Still.window opening
  exact {
    supply := congrArg Still.supply opening
    resetHeld := congrArg Still.resetHeld opening
    sampled := congrArg Still.strap opening
    nv := congrArg Still.nv opening
    inHand := (congrArg Still.inHand opening).trans inHand
    protection := congrArg Still.protection opening
    cfg := congrArg Still.cfg opening
    station := by rwa [Option.isNone_map] at station
    picture := ⟨congrArg (fun k => k.picture.entries) opening, congrArg (fun k => k.picture.stations) opening,
      congrArg (fun k => k.picture.order) opening, congrArg (fun k => k.picture.target) opening⟩
    access := ended.access
    window := congrArg Still.contention opening
    backoff := ended.backoff
    timers := ⟨congrArg Still.discardsInRow opening, congrArg Still.silenceDue opening, congrArg Still.duplicateDue opening,
      congrArg Still.exhaustionCause opening, congrArg Still.silenceCause opening⟩
    observed := congrArg Still.observed opening
    port := ⟨congrArg Still.lastResult opening, Option.map_eq_none_iff.1 window⟩
    quiet := fun files => by
      obtain ⟨⟨shift, due, collating, restart⟩, link⟩ := quiet files
      have clamped : t.clampedFields = x.clamped := congrArg Still.clampedFields opening
      exact ⟨shift, due, collating, restart, fun none => link (unasked (clamped.symm.trans none))⟩ }

end

/-- Settles O17: the starts by what a start leaves of the part, the reports of the scan by what the store at rest does with each. -/
theorem startsRun : Obligations.StartsRun := by
  refine ⟨fun s strap off => ?_, fun s strap on held => ?_, fun s r steps queue => ⟨?_, ?_, ?_⟩⟩
  · have started : s.StartsAs (s.start false strap) strap := s.start_startsAs false strap
    have ran : exec (.powerOnStart strap) s = .next (s.start false strap) := by
      change Host.Outcome.next _ = _
      simp [off]
    obtain ⟨entries, stations, order, target⟩ := started.picture
    obtain ⟨discards, silence, duplicate, exhausted, silent⟩ := started.timers
    exact ⟨_, ran, started.supply, started.resetHeld, started.sampled, started.nv, started.protection, started.cfg, started.station,
      entries, stations, order, target, started.access, started.window, started.backoff, discards, silence, duplicate, exhausted,
      silent, started.observed, started.port.1, started.port.2, started.quiet⟩
  · have started : s.StartsAs (s.start true strap) strap := s.start_startsAs true strap
    have ran : exec (.lineRestart strap) s = .next (s.start true strap) := by
      change Host.Outcome.next _ = _
      simp [on, held]
    obtain ⟨entries, stations, order, target⟩ := started.picture
    obtain ⟨discards, silence, duplicate, exhausted, silent⟩ := started.timers
    exact ⟨_, ran, started.supply, started.resetHeld, started.sampled, started.nv, started.inHand, started.protection, started.cfg,
      started.station, entries, stations, order, target, started.access, started.window, started.backoff, discards, silence,
      duplicate, exhausted, silent, started.observed, started.port.1, started.port.2, started.quiet⟩
  · intro ends named
    rw [State.takeReport_cut ends]
    obtain ⟨closed, cut⟩ := State.requestStep_closes ⟨queue, steps⟩ named true
    exact ⟨closed, cut, s.requestStep_accountant _ _⟩
  · intro time unfinished last found live listens noProgram noErase noArea room
    exact State.takeReport_totals ⟨queue, steps⟩ unfinished last found live listens noProgram noErase noArea room
  · intro age unfinished _ last
    rw [State.takeReport_resumes unfinished last]
    exact State.resumeShift_resumes ⟨queue, steps⟩ r.entry age

end Sys2Proof.Machine
end
